-- ==== Sys2Proof/Word.lean ====
section
/-! DEFINITION. The word types of the TZ-40: bytes, bus symbols, bridge messages, and instants. -/

namespace Sys2Proof

/-- One byte of a frame, a record or the configuration image. -/
abbrev Byte := BitVec 8

/-- One 10-bit symbol of the zone bus (R176). -/
abbrev Symbol := BitVec 10

/-- One 32-bit message of the bridge link (R180). -/
abbrev LinkWord := BitVec 32

/-- An instant, or a length of time, in tenths of a microsecond. DESIGN CHOICE (log 1): the finest time of
the spec is the bit time of 0.5 microseconds, and slot lengths are given to 0.1 microseconds. -/
abbrev Instant := Nat

end Sys2Proof
end

