-- ==== Sys2Proof/Config.lean ====
section
/-! DEFINITION. What one installation of the TZ-40 fixes: the configuration values of R165. The spec leaves no
result open, so there is no free value here. -/

namespace Sys2Proof

/-- The reference frequency the image selects (R165). -/
inductive RefFreq where
  | hz50 | hz60
  deriving DecidableEq, Repr

/-- The bus rate the image selects (R165). -/
inductive BusRate where
  | kbit500 | mbit2
  deriving DecidableEq, Repr

/-- The run lengths D (declare) and C (clear) of one counted condition (R139, R165). -/
structure RunLimits where
  declareAt : Nat
  clearAt : Nat
  deriving DecidableEq, Repr

/-- The configuration values: the fields of the image, in its order (R165, and the image layout of chapter 11). -/
structure Cfg where
  stationAddress : Nat
  zoneIndex : Nat
  lastZone : Bool
  refFreq : RefFreq
  busRate : BusRate
  zoneLength : Nat
  zoneWindowArea : Nat
  defaultArea : Nat
  defaultLength : Nat
  forwardRating : Nat
  reverseRating : Nat
  lineReverseBudget : Nat
  onsetLimit : Nat
  holdingDensity : Nat
  confirmLimit : Nat
  overcurrentMargin : Nat
  anodeVoltageLimit : Nat
  deviationThreshold : Nat
  bridgeSlow : RunLimits
  reverseDeficit : RunLimits
  anodeVoltage : RunLimits
  busErrors : RunLimits
  deriving DecidableEq, Repr

/-- What a reader of a configuration value finds while the values are none. DESIGN CHOICE (log 13): no rule reads a
configuration value before the image is good, because every block that would is held or inert until then. -/
def Cfg.unset : Cfg where
  stationAddress := 0
  zoneIndex := 0
  lastZone := false
  refFreq := .hz50
  busRate := .kbit500
  zoneLength := 0
  zoneWindowArea := 0
  defaultArea := 0
  defaultLength := 0
  forwardRating := 0
  reverseRating := 0
  lineReverseBudget := 0
  onsetLimit := 0
  holdingDensity := 0
  confirmLimit := 0
  overcurrentMargin := 0
  anodeVoltageLimit := 0
  deviationThreshold := 0
  bridgeSlow := ⟨0, 0⟩
  reverseDeficit := ⟨0, 0⟩
  anodeVoltage := ⟨0, 0⟩
  busErrors := ⟨0, 0⟩

end Sys2Proof
end

