-- ==== Sys2Proof/Syntax.lean ====
section
/-! DEFINITION. The commands of the TZ-40: one constructor per row of spec/opcode_table.json. -/

namespace Sys2Proof

/-- What one block still has to take of a slot boundary and of the notices that came with it (R9, R174). The spec
gives no order between blocks (00_scope, "Time in the TZ-40"), so the command that ends a slot names the
order (log 3). -/
inductive Task where
  /-- lock gained, as the station controller takes it (R6, R169) -/
  | lockGainedStation
  /-- lock gained, as the condition monitor takes it: REFERENCE LOST is cleared (R6) -/
  | lockGainedMonitor
  /-- lock lost, as the station controller takes it (R7, R169) -/
  | lockLost
  /-- reference lost, as the condition monitor takes it: REFERENCE LOST is declared (R8) -/
  | refLostMonitor
  /-- reference lost, as the station controller takes it (R8, R170) -/
  | refLostStation
  /-- reference lost, as the dose integrator takes it: SLOT LOST (R8, R128) -/
  | refLostDose
  /-- the withdrawal the slot clock asks of the slot map at a reference loss (R8, R83) -/
  | refLostMap
  /-- the carrier tracker: area snapshot (R49) and, at a frame boundary, R51 -/
  | tracker
  /-- the waveform engine takes the hand-over of dominant carrier and forecast (R95) -/
  | handOver
  /-- the waveform engine's slot: setpoint and slot record (R91 to R94) -/
  | engineSlot
  /-- the bridge link's slot boundary: trip rest, deadline, MARK and slot log (R109, R112, R117) -/
  | bridgeSlot
  /-- the bridge link's frame boundary: trip window and BRIDGE SLOW verdict (R119, R120) -/
  | bridgeFrame
  /-- the dose integrator's frame boundary (R132) -/
  | doseFrame
  /-- the bus controller's frame boundary: BUS ERRORS verdict (R162) -/
  | busFrame
  /-- the recipe cache's slot boundary: scheduled answers (R32) -/
  | cacheSlot
  /-- the recipe cache's frame boundary: wanted records (R29, R30) -/
  | cacheFrame
  /-- the slot map's boundary: window count and owed CLAIM (R67, R68) and, at a frame boundary, R85 -/
  | slotMap
  /-- the station controller's frame boundary: self-test and join count (R167 to R169) -/
  | station
  /-- the condition monitor's slot boundary: a submission occasion (R143) -/
  | monitor
  deriving DecidableEq, Repr

/-- The line as the transmitter finds it at an instant: whether it carries a symbol whose first bit has come and whose own row has not
(R148; log 14). -/
structure LineLook where
  instant : Instant
  underWay : Bool
  deriving DecidableEq, Repr

/-- The commands. `t` is the instant of the event (log 1). `ord` is the order in which the blocks take the boundary that
the event brings (log 3). `df` says whether the declaration of a clash or of LOCKOUT is taken before the change of
station state that comes with it (R143, R147; log 5). `look` is the line as TX_START finds it. -/
inductive Instr where
  -- reset and configuration
  | hardwareReset
  | rstnRelease
  | configurationReadDone (t : Instant) (image : List Byte)
  -- slot clock
  | refinEdge (t : Instant) (ord : List Task) (df : Bool)
  | slotTimerExpiry (t : Instant) (ord : List Task) (df : Bool)
  | lossLimitExpiry (t : Instant) (ord : List Task) (df : Bool)
  | holdoverExpiry (t : Instant) (ord : List Task) (df : Bool)
  -- zone bus
  | frameEndReceived (t : Instant) (df : Bool)
  | rxFrameAbandoned (t : Instant) (symbol : Symbol)
  | receiveTimeout (t : Instant)
  | txStart (look : LineLook)
  | txFrameSent (t : Instant)
  | collision (t : Instant)
  | backoffExpiry (t : Instant)
  -- frames taken by their owner
  | takeAdmit
  | takeHandover
  | takeCarrierQuery
  | takeRecipe
  | takeRecipeQuery
  | answerDue
  | recipeQueryDue
  | unavailableQueryDue
  | takeRelease
  -- gates and encoder
  | entryRising
  | entryFalling
  | exitRising
  | exitFalling
  | forwardCount
  | backwardCount
  | carrierQueryDue
  -- slot map
  | peerRecordAgeOut
  | unneededExpiry
  | windowClose
  | planningHoldExpiry
  | refreshDue
  | claimRetry
  -- bridge link
  | laneSend
  | blroomRise
  | setpointSent (t : Instant)
  | markSent (t : Instant) (df : Bool)
  | offSent (t : Instant)
  | takeWindowExpiry (t : Instant) (df : Bool)
  | readingWindowExpiry (t : Instant) (df : Bool)
  | confirmTimerExpiry (t : Instant)
  | confirmDeadline (df : Bool)
  | ackReceived (message : LinkWord) (df : Bool)
  | readingReceived (message : LinkWord) (df : Bool)
  | faultReceived (message : LinkWord) (df : Bool)
  | tripRestEnd (df : Bool)
  | tripWindowExpiry
  -- station timers
  | selfTestVerdict (t : Instant)
  | joinCountExpiry
  -- symbols
  | startMarkReceived (t : Instant)
  | dataSymbolReceived (t : Instant) (byte : Byte)
  deriving DecidableEq, Repr

end Sys2Proof
end

