-- ==== Sys2Proof/WellFormed.lean ====
section
/-! DEFINITION. Which commands are well formed: the checks on a command's operands alone. -/

namespace Sys2Proof

/-- The configuration read ends when 66 bytes have been taken (R165). -/
def wellFormedImage (image : List Byte) : Bool := image.length == 66

/-- An order of takings names each taking at most once. -/
def wellFormedOrder (ord : List Task) : Bool := decide ord.Nodup

/-- A READING has bit 31 at 1 (bridge link messages, chapter 11). -/
def wellFormedReading (w : LinkWord) : Bool := w.getLsbD 31

/-- An ACK has bits 31 and 30 at 00. -/
def wellFormedAck (w : LinkWord) : Bool := !w.getLsbD 31 && !w.getLsbD 30

/-- A FAULT has bits 31 and 30 at 01. -/
def wellFormedFault (w : LinkWord) : Bool := !w.getLsbD 31 && w.getLsbD 30

/-- A frame in reception is abandoned by a symbol; a data symbol that a frame expects is the row
DATA_SYMBOL_RECEIVED, so a symbol of the row RX_FRAME_ABANDONED may be any 10-bit pattern (R156). -/
def Instr.wellFormed : Instr → Bool
  | .configurationReadDone _ image => wellFormedImage image
  | .refinEdge _ ord _ => wellFormedOrder ord
  | .slotTimerExpiry _ ord _ => wellFormedOrder ord
  | .lossLimitExpiry _ ord _ => wellFormedOrder ord
  | .holdoverExpiry _ ord _ => wellFormedOrder ord
  | .readingReceived w _ => wellFormedReading w
  | .ackReceived w _ => wellFormedAck w
  | .faultReceived w _ => wellFormedFault w
  | .hardwareReset => true
  | .rstnRelease => true
  | .frameEndReceived _ _ => true
  | .rxFrameAbandoned _ _ => true
  | .receiveTimeout _ => true
  | .txStart _ => true
  | .txFrameSent _ => true
  | .collision _ => true
  | .backoffExpiry _ => true
  | .takeAdmit => true
  | .takeHandover => true
  | .takeCarrierQuery => true
  | .takeRecipe => true
  | .takeRecipeQuery => true
  | .answerDue => true
  | .recipeQueryDue => true
  | .unavailableQueryDue => true
  | .takeRelease => true
  | .entryRising => true
  | .entryFalling => true
  | .exitRising => true
  | .exitFalling => true
  | .forwardCount => true
  | .backwardCount => true
  | .carrierQueryDue => true
  | .peerRecordAgeOut => true
  | .unneededExpiry => true
  | .windowClose => true
  | .planningHoldExpiry => true
  | .refreshDue => true
  | .claimRetry => true
  | .laneSend => true
  | .blroomRise => true
  | .setpointSent _ => true
  | .markSent _ _ => true
  | .offSent _ => true
  | .takeWindowExpiry _ _ => true
  | .readingWindowExpiry _ _ => true
  | .confirmTimerExpiry _ => true
  | .confirmDeadline _ => true
  | .tripRestEnd _ => true
  | .tripWindowExpiry => true
  | .selfTestVerdict _ => true
  | .joinCountExpiry => true
  | .startMarkReceived _ => true
  | .dataSymbolReceived _ _ => true

end Sys2Proof
end

