-- ==== Sys2Proof/Decode.lean ====
section
/-! DEFINITION. The command a table word spells. No row of spec/opcode_table.json gives encoding bits, so no word
spells a command. -/

namespace Sys2Proof

/-- The command spelt by `nbits` bits `w` of a row of the table: none, for every word. -/
def decodeTableWord (_nbits _w : Nat) : Option Instr := none

end Sys2Proof
end

