-- ==== Sys2Proof/Machine/State.lean ====
section
/-! DEFINITION. The state of one TZ-40 station: every piece of state the ten blocks keep, the queue of waiting commands,
and the state after hardware reset. -/

namespace Sys2Proof.Machine

open Sys2Proof

/-! ### Recipes and claims -/

/-- A recipe's key (chapter 2): two revisions of one id are different recipes. -/
structure Key where
  id : Nat
  rev : Nat
  deriving DecidableEq, Repr

/-- The kind of a segment (chapter 2). -/
inductive SegKind where
  | forward | reverse | rest
  deriving DecidableEq, Repr

/-- One segment of a recipe: kind, length in slots, density in 0.01 A/dm². -/
structure Segment where
  kind : SegKind
  len : Nat
  density : Nat
  deriving DecidableEq, Repr

/-- A zone target entry: zone index and target forward charge in 0.1 A·s/dm². -/
structure ZoneTarget where
  zone : Nat
  target : Nat
  deriving DecidableEq, Repr

/-- The recipe record (chapter 2). -/
structure Recipe where
  key : Key
  cycle : Nat
  segments : List Segment
  tolerance : Nat
  targets : List ZoneTarget
  deriving DecidableEq, Repr

/-- A reverse run of a recipe (R16): start, length, greatest density. -/
structure Run where
  start : Nat
  len : Nat
  density : Nat
  deriving DecidableEq, Repr

/-- A pattern (R71): cycle length and reverse runs. -/
structure Pattern where
  cycle : Nat
  runs : List Run
  deriving DecidableEq, Repr

/-- A run of a claim part (R62): start, length, current in A. -/
structure ClaimRun where
  start : Nat
  len : Nat
  current : Nat
  deriving DecidableEq, Repr

/-- A claim part (R62). -/
structure ClaimPart where
  cycle : Nat
  offset : Nat
  scale : Nat
  runs : List ClaimRun
  deriving DecidableEq, Repr

/-! ### Dose records -/

/-- A closed zone record, field by field as its 24 bytes hold it (chapter 11). -/
structure ZoneRecord where
  zone : Nat
  station : Nat
  recipeId : Nat
  recipeRev : Nat
  minScale : Nat
  fill : Nat
  flags : BitVec 16
  forward : Nat
  reverse : Nat
  target : Nat
  frames : Nat
  deviations : Nat
  history : BitVec 8
  deriving DecidableEq, Repr

/-- A carrier's dose record: the header and the zone records of the zones passed (chapter 3, chapter 11). -/
structure DoseRecord where
  carrierId : Nat
  recipe : Option Key
  area : Nat
  length : Nat
  resent : Bool
  orderError : Bool
  originUnknown : Bool
  zones : List ZoneRecord
  deriving DecidableEq, Repr

/-! ### Conditions -/

/-- The fourteen kinds of condition, by rising priority number (chapter 8). -/
inductive Kind where
  | addressClash | zoneClash | lockout | trip | referenceLost | bridgeSlow | reverseDeficit | anodeVoltage
  | doseDeviation | slotStarved | tracking | busErrors | slip | recipeReject
  deriving DecidableEq, Repr

/-- What a report says (chapter 8). -/
inductive Change where
  | declared | cleared | event
  deriving DecidableEq, Repr

/-- The causes the reports carry (the table of chapter 8 and the cause codes of chapter 11). -/
inductive Cause where
  | clash
  | secondTrip | release
  | noConfirm | silent | overcurrent | wrongDirection | overtemp | drive | supply
  | holdoverExpired | lock
  | frames
  | history
  | planFailed | commit | demandGone
  | badRecord | tableFull | order | entryGlitch | unannounced | length | backward | position | exitMissed | noMatch
  | forced
  | check | timeout | overrun | collisions
  | mismatch | shift
  | invalid | recipeConflict | revisionLimit | unavailable
  deriving DecidableEq, Repr

/-- A report (chapter 8, R142). -/
structure Report where
  kind : Kind
  change : Change
  cause : Cause
  superseded : Nat
  deriving DecidableEq, Repr

/-- The bad-frame and good-frame counts of one counted condition (R139). -/
structure RunCounts where
  bad : Nat
  good : Nat
  deriving DecidableEq, Repr

/-- The station states (chapter 10). -/
inductive StationState where
  | loading | configFault | selfTest | listening | joined | isolated | lockout
  deriving DecidableEq, Repr

/-- The own claim states (chapter 4). -/
inductive ClaimState where
  | idle | proposed | settled | moving
  deriving DecidableEq, Repr

/-- The payload of a CONDITION frame (R144). -/
structure ConditionPayload where
  report : Report
  declared : BitVec 16
  station : StationState
  claim : ClaimState
  dominantId : Nat
  deriving DecidableEq, Repr

/-! ### Frames -/

/-- The frame kinds of the zone bus (chapter 11). -/
inductive FrameKind where
  | claim | admission | handover | carrierQuery | recipe | recipeQuery | condition | release | test
  deriving DecidableEq, Repr

/-- A frame's destination (chapter 11). -/
inductive Dest where
  | all
  | station (address : Nat)
  | zone (index : Nat)
  deriving DecidableEq, Repr

/-- The contents of a CLAIM frame but for its stamp (R67). -/
structure ClaimBody where
  zone : Nat
  active : Option ClaimPart
  pending : Option ClaimPart
  deriving DecidableEq, Repr

/-- What a submitted frame carries. -/
inductive Body where
  | claim (c : ClaimBody)
  | handover (rec : DoseRecord)
  | carrierQuery (zone : Nat) (ids : List Nat)
  | recipe (r : Recipe)
  | recipeQuery (key : Key) (zone : Nat)
  | condition (c : ConditionPayload)
  | test (n : Nat)
  deriving DecidableEq, Repr

/-- A frame of the transmit queue. `started`: its first START has gone out (R151). `stamp`: the slot number read at its
last START (R153). `lastRun`: it leaves the queue at its END or its ABORT, with no backoff and no report to the slot
map (R155). -/
structure TxFrame where
  body : Body
  dest : Dest
  started : Bool
  stamp : Nat
  lastRun : Bool
  deriving DecidableEq, Repr

/-- A checked frame that the filter delivered (R159 to R161). -/
structure RxFrame where
  kind : FrameKind
  source : Nat
  dest : Dest
  payload : List Byte
  deriving DecidableEq, Repr

/-! ### The slot clock -/

/-- The lock states (chapter 1). -/
inductive Lock where
  | unlocked | locked | holdover
  deriving DecidableEq, Repr

/-- A record of the disagreement tracker (R13). -/
structure Disagreement where
  address : Nat
  offset : Nat
  deriving DecidableEq, Repr

/-- The slot clock (chapter 1). -/
structure Clock where
  held : Bool
  lock : Lock
  lastEdge : Option Instant
  measured : Option Nat
  slotLength : Instant
  sip : Nat
  pif : Nat
  goodRun : Nat
  badRun : Nat
  holdoverCount : Nat
  aligned : Bool
  tracker : List Disagreement
  slotStart : Instant
  deriving DecidableEq, Repr

/-! ### The bus controller -/

/-- The transmitter states (chapter 9). -/
inductive TxState where
  | idle | waiting | sending | backoff
  deriving DecidableEq, Repr

/-- A frame in reception: its bytes so far, the time of its START, and whether the own transmitter sent that START
(R156, R159). -/
structure Reception where
  bytes : List Byte
  startTime : Instant
  own : Bool
  deriving DecidableEq, Repr

/-- The receiver states (chapter 9). -/
inductive Receiver where
  | off
  | hunting
  | receiving (r : Reception)
  deriving DecidableEq, Repr

/-- The fault set (R162). -/
structure Faults where
  check : Bool
  timeout : Bool
  overrun : Bool
  collisions : Bool
  deriving DecidableEq, Repr

/-- The bus controller (chapter 9). The transmit queue is `inFlight`, `urgent` and `normal` together; `lastActivity` is the
instant of the last line activity, from which the quiet time is counted (R148). -/
structure Bus where
  tx : TxState
  inFlight : Option TxFrame
  attempts : Nat
  lastActivity : Option Instant
  urgent : List TxFrame
  normal : List TxFrame
  followOn : Option ClaimBody
  backoffEnd : Instant
  rx : Receiver
  ownStart : Bool
  rxQueue : List RxFrame
  faults : Faults
  loop : Bool
  deriving DecidableEq, Repr

/-! ### The recipe cache -/

/-- A cache entry; its recency rank is its place in the list of entries, the first having rank 1 (R18). -/
structure CacheEntry where
  recipe : Recipe
  pins : Nat
  deriving DecidableEq, Repr

/-- A wanted record (R28). -/
structure Wanted where
  key : Key
  waiting : Nat
  sends : Nat
  unavailable : Bool
  framesToNext : Nat
  sendDue : Bool
  deriving DecidableEq, Repr

/-- A scheduled answer (R31). -/
structure Answer where
  key : Key
  remaining : Nat
  deriving DecidableEq, Repr

/-- The recipe cache (chapter 2). -/
structure Cache where
  entries : List CacheEntry
  wanted : List Wanted
  answers : List Answer
  deriving DecidableEq, Repr

/-! ### The carrier tracker -/

/-- A carrier table entry (chapter 3). `tag` tells entries apart (R50; log 20). The entry's id, recipe, plated area and record
length are its dose record's header fields. -/
structure Entry where
  tag : Nat
  present : Bool
  recipePending : Bool
  length : Nat
  leading : Nat
  entryTravel : Nat
  trailingSeen : Bool
  atExit : Bool
  unannounced : Bool
  querySends : Nat
  framesToNext : Nat
  queryDue : Bool
  record : DoseRecord
  deriving DecidableEq, Repr

/-- The carrier tracker (chapter 3). `dominant` and `forecast` are tags of entries. `departed` holds the entries that have left the
table and that the engine still names, as they left (R88; log 21). -/
structure Tracker where
  table : List Entry
  retained : List DoseRecord
  entryTravel : Option Nat
  frameCount : Nat
  history : List Nat
  speed : Nat
  backwardSeen : Bool
  dominant : Option Nat
  forecast : Option Nat
  nextTag : Nat
  departed : List Entry
  deriving DecidableEq, Repr

/-! ### The slot map -/

/-- A peer record (chapter 4). -/
structure Peer where
  address : Nat
  zone : Nat
  active : Option ClaimPart
  pending : Option ClaimPart
  age : Nat
  deriving DecidableEq, Repr

/-- The slot map (chapter 4). `dueAtFrame`: the owed CLAIM is retried at frame boundaries only (R68). `live`: the map has
left its inert state (R60). `calls`: the event in progress has called for a CLAIM frame (R63, R85; log 23). -/
structure SlotMap where
  peers : List Peer
  active : Option ClaimPart
  pending : Option ClaimPart
  window : Option Nat
  yieldCount : Nat
  hold : Nat
  request : Option Pattern
  refresh : Nat
  unneeded : Nat
  sendDue : Bool
  dueAtFrame : Bool
  live : Bool
  calls : Bool
  deriving DecidableEq, Repr

/-! ### The waveform engine -/

/-- The modes of a context (chapter 5). -/
inductive Mode where
  | normal | forwardOnly | holding | rest | off
  deriving DecidableEq, Repr

/-- A waveform context (chapter 5). `carrier` is the tag of a carrier table entry. `readyByFailure`: a failed plan set the
context ready (R97, R98). -/
structure Context where
  mode : Mode
  carrier : Option Nat
  key : Option Key
  cycle : Nat
  offset : Nat
  segments : List Segment
  pattern : Option Pattern
  scale : Nat
  ceilings : List Nat
  ready : Bool
  readyByFailure : Bool
  needsClaim : Bool
  deriving DecidableEq, Repr

/-- The owner of the standing plan request (R97). -/
inductive Owner where
  | active | prepared | none
  deriving DecidableEq, Repr

/-- The direction of a setpoint; `rest` is direction none (chapter 6). -/
inductive Dir where
  | rest | fwd | rev
  deriving DecidableEq, Repr

/-- A setpoint: direction and current in 0.1 A. -/
structure Setpoint where
  dir : Dir
  current : Nat
  deriving DecidableEq, Repr

/-- The waveform engine (chapter 5). `area` is the total of the area snapshot last handed (R92); `restThisSlot`: a trip rest ended
at this boundary before the engine took its slot, which still rests (R117; log 33). -/
structure Engine where
  active : Context
  prepared : Option Context
  owner : Owner
  requested : Option Pattern
  committedInRest : Bool
  lastDominant : Option Nat
  tripRest : Bool
  preTrip : Option Nat
  cyclePos : Nat
  setpoint : Setpoint
  area : Nat
  restThisSlot : Bool
  deriving DecidableEq, Repr

/-! ### The bridge link -/

/-- The bridge states (chapter 6). -/
inductive BridgeState where
  | off | rest | forward | reverse | changing | tripped
  deriving DecidableEq, Repr

/-- The directions an ACK names (chapter 6). -/
inductive AckDir where
  | rest | fwd | rev | off
  deriving DecidableEq, Repr

/-- The confirm timer of an awaited ACK: not yet started (the SETPOINT has not ended), running to an instant, or run out, so
that the next slot boundary is the deadline (R110). -/
inductive Confirm where
  | notStarted
  | running (due : Instant)
  | runOut
  deriving DecidableEq, Repr

/-- The direction class of a slot (R113). -/
inductive DirClass where
  | rest | fwd | rev | mixed | off
  deriving DecidableEq, Repr

/-- A slot log (chapter 6): what the slot saw, kept to judge its READING. `fromOff`: the slot began in bridge state OFF, so it
places no MARK, and its log serves its OFF report alone (R109, R113; log 50). `serial` tells slots of one number apart (log 35).
`reference` is the greatest current among the setpoint in force at the slot's start and the SETPOINTs that ended in it (R114). -/
structure SlotLog where
  fromOff : Bool
  serial : Nat
  slot : Nat
  duration : Nat
  accepted : Option Setpoint
  reference : Nat
  cls : DirClass
  trip : Bool
  deriving DecidableEq, Repr

/-- A message of the command lane. A MARK names the slot of its log; the log waits with it for the READING (R109). -/
inductive LaneMsg where
  | mark (log : SlotLog)
  | setpoint (sp : Setpoint)
  | off
  deriving DecidableEq, Repr

/-- The last SETPOINT or OFF whose END went out (chapter 6). -/
inductive LastSent where
  | none
  | setpoint (sp : Setpoint)
  | off
  deriving DecidableEq, Repr

/-- A take window: its end, and whether it is the first of its message (R108). -/
structure TakeWindow where
  due : Instant
  first : Bool
  deriving DecidableEq, Repr

/-- A reading expectation: the log of the awaited slot, the end of its window while that runs, and once it has run out the span that
counted the report with no reading (R109, R113; R127, last paragraph; log 36). -/
structure Expectation where
  log : SlotLog
  window : Option Instant
  counted : Option Nat
  deriving DecidableEq, Repr

/-- How far leaving OFF has come (R121): not asked, waiting for an unsent OFF to go out, or the REST SETPOINT placed. -/
inductive Leaving where
  | no | afterOff | placed
  deriving DecidableEq, Repr

/-- A setpoint accepted for a slot. -/
structure Accepted where
  slot : Nat
  sp : Setpoint
  deriving DecidableEq, Repr

/-- The bridge link (chapter 6). `log` is empty until the first slot boundary, or the first event of a slot log, after reset (R105;
log 50). `awaited` is ACK awaited with its confirm timer; `sending` the message going out on BLTX; `early` a setpoint accepted for a
slot whose log is not open yet (log 32). -/
structure Bridge where
  state : BridgeState
  target : Dir
  awaited : Option Confirm
  acked : AckDir
  lastSent : LastSent
  buffer : List LaneMsg
  sending : Option LaneMsg
  held : Option Setpoint
  take : Option TakeWindow
  expect : Option Expectation
  missCount : Nat
  log : Option SlotLog
  early : Option Accepted
  restCount : Nat
  tripCount : Nat
  tripWindow : Nat
  slowSeen : Bool
  leaving : Leaving
  blroom : Bool
  deriving DecidableEq, Repr

/-! ### The dose integrator -/

/-- An open zone record (chapter 7). `history` holds the last cycle verdicts, newest first, true for OUT; at most eight. -/
structure OpenRecord where
  tag : Nat
  forward : Nat
  reverse : Nat
  target : Nat
  targetFixed : Bool
  recipeUsed : Option Key
  minScale : Nat
  frames : Nat
  history : List Bool
  deviations : Nat
  flags : BitVec 16
  deriving DecidableEq, Repr

/-- One entry of an area snapshot (R49). -/
structure Share where
  tag : Nat
  carrierId : Nat
  area : Nat
  deriving DecidableEq, Repr

/-- An area snapshot, tagged with the slot that ended (R49), and with that slot's serial number (log 35). -/
structure Snapshot where
  slot : Nat
  serial : Nat
  shares : List Share
  total : Nat
  deriving DecidableEq, Repr

/-- A slot record, tagged with the slot that began (R94), and with that slot's serial number (log 35). -/
structure SlotRecord where
  slot : Nat
  serial : Nat
  mode : Mode
  key : Option Key
  cycle : Nat
  tolerance : Nat
  segment : Option SegKind
  runAsRest : Bool
  scale : Nat
  cycleStart : Bool
  clamped : Bool
  setpoint : Setpoint
  deriving DecidableEq, Repr

/-- The cycle span (R129). `serial` tells spans apart (R127, last paragraph; log 36). -/
structure Span where
  serial : Nat
  key : Option Key
  cycle : Nat
  tolerance : Nat
  count : Nat
  commanded : Nat
  measured : Nat
  spoiled : Bool
  deriving DecidableEq, Repr

/-- The dose integrator (chapter 7). -/
structure Dose where
  records : List OpenRecord
  snapshots : List Snapshot
  slotRecords : List SlotRecord
  measF : Nat
  measR : Nat
  cmdF : Nat
  cmdR : Nat
  anodeHigh : Bool
  span : Option Span
  spanSerial : Nat
  deriving DecidableEq, Repr

/-! ### The condition monitor and the station controller -/

/-- The condition monitor (chapter 8). `declared` has bit n - 1 set when the kind of priority n is DECLARED, as the CONDITION
payload carries it; `reports` is kept by rising priority number; `faultn` is true while FAULTN is asserted. -/
structure Monitor where
  declared : BitVec 16
  slowRuns : RunCounts
  deficitRuns : RunCounts
  anodeRuns : RunCounts
  busRuns : RunCounts
  reports : List Report
  told : StationState
  listeningReached : Bool
  faultn : Bool
  deriving DecidableEq, Repr

/-- The station controller (chapter 10). `held`: RSTN is asserted or power-on is not complete (R164); `reading`: the configuration
read is under way. -/
structure Station where
  state : StationState
  cfg : Option Cfg
  selfNext : Nat
  selfFault : Bool
  selfFrames : Nat
  refLocked : Bool
  joinCount : Option Nat
  held : Bool
  reading : Bool
  deriving DecidableEq, Repr

/-- The slot boundary last delivered (R9), with its serial number, which is also that of the slot that began at it (log 35), and
with the takings the blocks still owe for it (log 3), the choice `df` that came with it, and the dominant carrier and forecast the
tracker handed at it (R50). -/
structure Boundary where
  serial : Nat
  ended : Nat
  duration : Nat
  begun : Nat
  frame : Bool
  owed : List Task
  df : Bool
  dominant : Option Nat
  forecast : Option Nat
  deriving DecidableEq, Repr

/-- The machine: ten blocks, the boundary in progress, the instant of the last stamped event, and the waiting commands, the
first to be taken first. -/
structure State where
  pending : List Instr
  now : Instant
  station : Station
  clock : Clock
  bus : Bus
  cache : Cache
  tracker : Tracker
  map : SlotMap
  engine : Engine
  bridge : Bridge
  dose : Dose
  mon : Monitor
  boundary : Boundary
  deriving DecidableEq, Repr

/-- The faults that stop the machine: none. The spec gives every event an effect or ignores it; it stops the part nowhere. -/
inductive Fault where
  deriving DecidableEq, Repr

/-- The refusals. -/
inductive Refusal where
  /-- a command that has no meaning yet; raised by exec alone, and by no arm of it: safe -/
  | notModelled (mnemonic : String)
  deriving DecidableEq, Repr

/-! ### Reset -/

/-- The station controller after hardware reset (R164). -/
def Station.reset : Station where
  state := .loading
  cfg := none
  selfNext := 1
  selfFault := false
  selfFrames := 0
  refLocked := false
  joinCount := none
  held := true
  reading := false

/-- The slot clock after hardware reset (R1). -/
def Clock.reset : Clock where
  held := true
  lock := .unlocked
  lastEdge := none
  measured := none
  slotLength := 0
  sip := 0
  pif := 0
  goodRun := 0
  badRun := 0
  holdoverCount := 0
  aligned := false
  tracker := []
  slotStart := 0

/-- The empty fault set. -/
def Faults.empty : Faults := ⟨false, false, false, false⟩

/-- The bus controller after hardware reset (R149). -/
def Bus.reset : Bus where
  tx := .idle
  inFlight := none
  attempts := 0
  lastActivity := none
  urgent := []
  normal := []
  followOn := none
  backoffEnd := 0
  rx := .off
  ownStart := false
  rxQueue := []
  faults := Faults.empty
  loop := false

/-- The recipe cache after hardware reset (R17). -/
def Cache.reset : Cache := ⟨[], [], []⟩

/-- The carrier tracker after hardware reset (R34). -/
def Tracker.reset : Tracker where
  table := []
  retained := []
  entryTravel := none
  frameCount := 0
  history := [0, 0, 0, 0]
  speed := 0
  backwardSeen := false
  dominant := none
  forecast := none
  nextTag := 0
  departed := []

/-- The slot map after hardware reset (R60). -/
def SlotMap.reset : SlotMap where
  peers := []
  active := none
  pending := none
  window := none
  yieldCount := 0
  hold := 0
  request := none
  refresh := 0
  unneeded := 0
  sendDue := false
  dueAtFrame := false
  live := false
  calls := false

/-- A context without recipe, segments or pattern, in the given mode, for the given carrier. R88 gives REST and OFF no cycle length;
64 is held (log 47). -/
def Context.bare (mode : Mode) (carrier : Option Nat) : Context where
  mode := mode
  carrier := carrier
  key := none
  cycle := 64
  offset := 0
  segments := []
  pattern := none
  scale := 0
  ceilings := []
  ready := false
  readyByFailure := false
  needsClaim := false

/-- The REST setpoint: direction none, current 0. -/
def Setpoint.atRest : Setpoint := ⟨.rest, 0⟩

/-- The waveform engine after hardware reset (R86). R86 does not name the pre-trip carrier; there is none (log 47). -/
def Engine.reset : Engine where
  active := Context.bare .off none
  prepared := none
  owner := .none
  requested := none
  committedInRest := false
  lastDominant := none
  tripRest := false
  preTrip := none
  cyclePos := 0
  setpoint := Setpoint.atRest
  area := 0
  restThisSlot := false

/-- The bridge link after hardware reset (R105). -/
def Bridge.reset : Bridge where
  state := .off
  target := .rest
  awaited := none
  acked := .off
  lastSent := .none
  buffer := [.off]
  sending := none
  held := none
  take := none
  expect := none
  missCount := 0
  log := none
  early := none
  restCount := 0
  tripCount := 0
  tripWindow := 0
  slowSeen := false
  leaving := .no
  blroom := false

/-- The dose integrator after hardware reset (R123). -/
def Dose.reset : Dose where
  records := []
  snapshots := []
  slotRecords := []
  measF := 0
  measR := 0
  cmdF := 0
  cmdR := 0
  anodeHigh := false
  span := none
  spanSerial := 0

/-- The condition monitor after hardware reset (R136). -/
def Monitor.reset : Monitor where
  declared := 0
  slowRuns := ⟨0, 0⟩
  deficitRuns := ⟨0, 0⟩
  anodeRuns := ⟨0, 0⟩
  busRuns := ⟨0, 0⟩
  reports := []
  told := .loading
  listeningReached := false
  faultn := true

/-- No boundary: nothing is owed. -/
def Boundary.reset : Boundary where
  serial := 0
  ended := 0
  duration := 0
  begun := 0
  frame := false
  owed := []
  df := false
  dominant := none
  forecast := none

/-- The machine after hardware reset: each block's reset state (R1, R17, R34, R60, R86, R105, R123, R136, R149, R164), no command
waiting. -/
def State.reset : State where
  pending := []
  now := 0
  station := Station.reset
  clock := Clock.reset
  bus := Bus.reset
  cache := Cache.reset
  tracker := Tracker.reset
  map := SlotMap.reset
  engine := Engine.reset
  bridge := Bridge.reset
  dose := Dose.reset
  mon := Monitor.reset
  boundary := Boundary.reset

/-! ### Replacing one block -/

def State.setStation (s : State) (x : Station) : State := { s with station := x }
def State.setClock (s : State) (x : Clock) : State := { s with clock := x }
def State.setBus (s : State) (x : Bus) : State := { s with bus := x }
def State.setCache (s : State) (x : Cache) : State := { s with cache := x }
def State.setTracker (s : State) (x : Tracker) : State := { s with tracker := x }
def State.setMap (s : State) (x : SlotMap) : State := { s with map := x }
def State.setEngine (s : State) (x : Engine) : State := { s with engine := x }
def State.setBridge (s : State) (x : Bridge) : State := { s with bridge := x }
def State.setDose (s : State) (x : Dose) : State := { s with dose := x }
def State.setMon (s : State) (x : Monitor) : State := { s with mon := x }
def State.setBoundary (s : State) (x : Boundary) : State := { s with boundary := x }
def State.setNow (s : State) (x : Instant) : State := { s with now := x }
def State.setPending (s : State) (x : List Instr) : State := { s with pending := x }

end Sys2Proof.Machine
end

