-- ==== Sys2Proof/Machine/Operands.lean ====
section
/-! DEFINITION. The operand forms: byte order, check words, bus symbols, and the layouts of frames, records, bridge messages and the
configuration image (chapter 11). -/

namespace Sys2Proof.Machine

open Sys2Proof

/-! ### Byte order (R175) -/

/-- Two bytes, most significant first. -/
def be16 (hi lo : Byte) : Nat := hi.toNat * 256 + lo.toNat

/-- Four bytes, most significant first. -/
def be32 (a b c d : Byte) : Nat := ((a.toNat * 256 + b.toNat) * 256 + c.toNat) * 256 + d.toNat

/-- One byte of a number below 256. -/
def byteOf (n : Nat) : Byte := BitVec.ofNat 8 n

/-- A 16-bit field, high byte first. -/
def toBE16 (n : Nat) : List Byte := [byteOf (n / 256), byteOf n]

/-- A 32-bit field, most significant byte first. -/
def toBE32 (n : Nat) : List Byte := [byteOf (n / 16777216), byteOf (n / 65536), byteOf (n / 256), byteOf n]

/-- Byte `i` of a list, 0 past its end (readers check lengths first). -/
def byteAt (bs : List Byte) (i : Nat) : Nat := (bs.getD i 0).toNat

/-- The 16-bit field at byte `i`. -/
def fieldAt16 (bs : List Byte) (i : Nat) : Nat := be16 (bs.getD i 0) (bs.getD (i + 1) 0)

/-- The 32-bit field at byte `i`. -/
def fieldAt32 (bs : List Byte) (i : Nat) : Nat :=
  be32 (bs.getD i 0) (bs.getD (i + 1) 0) (bs.getD (i + 2) 0) (bs.getD (i + 3) 0)

/-! ### Check words (R175, R180) -/

/-- One bit of the 16-bit check word: shift up with 0, combine with bits 12, 5 and 0 when the top bit and the input
differed. -/
def checkBit (r : BitVec 16) (input : Bool) : BitVec 16 :=
  if r.msb != input then (r <<< 1) ^^^ 0x1021#16 else r <<< 1

/-- One covered byte, bit 7 first. -/
def checkByte (r : BitVec 16) (b : Byte) : BitVec 16 :=
  [7, 6, 5, 4, 3, 2, 1, 0].foldl (fun r i => checkBit r (b.getLsbD i)) r

/-- The check word over the covered bytes, starting from all ones, not inverted. -/
def checkWord (bs : List Byte) : BitVec 16 := bs.foldl checkByte 0xFFFF#16

/-- The two bytes of a check word, high byte first. -/
def checkBytes (bs : List Byte) : List Byte := toBE16 (checkWord bs).toNat

/-- One bit of the 4-bit message check: combined with the value whose bits 1 and 0 are set (R180). -/
def messageCheckBit (r : BitVec 4) (input : Bool) : BitVec 4 :=
  if r.msb != input then (r <<< 1) ^^^ 0x3#4 else r <<< 1

/-- The message check over bits 31 to 4 of a message (R180). -/
def messageCheck (w : LinkWord) : BitVec 4 :=
  (List.range 28).foldl (fun r i => messageCheckBit r (w.getLsbD (31 - i))) 0xF#4

/-- Bits 3 to 0 of a message equal its message check. -/
def goodMessage (w : LinkWord) : Bool := w.extractLsb' 0 4 == messageCheck w

/-- A message with its check in bits 3 to 0. -/
def withMessageCheck (w : LinkWord) : LinkWord := (w &&& 0xFFFFFFF0#32) ||| (messageCheck w).setWidth 32

/-! ### Bus symbols (R176) -/

/-- What a 10-bit pattern is on the zone bus. -/
inductive LineSymbol where
  | data (b : Byte)
  | start
  | endMark
  | abort
  | invalid
  deriving DecidableEq, Repr

/-- The symbol of a data byte: bit 9 at 0, the byte in bits 8 to 1, bit 0 at 1. -/
def dataSymbol (b : Byte) : Symbol := (b.setWidth 10 <<< 1) ||| 1#10

/-- A mark: bit 9 at 1, its value in bits 8 to 1, bit 0 at 0. -/
def markSymbol (value : Byte) : Symbol := 0x200#10 ||| (value.setWidth 10 <<< 1)

/-- START has value 240, END 15, ABORT 255. -/
def startSymbol : Symbol := markSymbol 240
def endSymbol : Symbol := markSymbol 15
def abortSymbol : Symbol := markSymbol 255

/-- Reading a 10-bit pattern (R176). -/
def readSymbol (x : Symbol) : LineSymbol :=
  let value : Byte := x.extractLsb' 1 8
  if !x.getLsbD 9 && x.getLsbD 0 then .data value
  else if x == startSymbol then .start
  else if x == endSymbol then .endMark
  else if x == abortSymbol then .abort
  else .invalid

/-! ### Frame header (R177) -/

/-- The kind codes of the header. -/
def FrameKind.code : FrameKind → Nat
  | .claim => 1
  | .admission => 2
  | .handover => 3
  | .carrierQuery => 4
  | .recipe => 5
  | .recipeQuery => 6
  | .condition => 7
  | .release => 8
  | .test => 15

/-- The kind of a code; every other code is unknown. -/
def kindOfCode : Nat → Option FrameKind
  | 1 => some .claim
  | 2 => some .admission
  | 3 => some .handover
  | 4 => some .carrierQuery
  | 5 => some .recipe
  | 6 => some .recipeQuery
  | 7 => some .condition
  | 8 => some .release
  | 15 => some .test
  | _ => none

/-- The least payload length of a kind (R177). -/
def FrameKind.minLength : FrameKind → Nat
  | .claim => 3
  | .admission => 13
  | .handover => 13
  | .carrierQuery => 2
  | .recipe => 12
  | .recipeQuery => 4
  | .condition => 12
  | .release => 0
  | .test => 1

/-- The greatest payload length of a kind (R177). -/
def FrameKind.maxLength : FrameKind → Nat
  | .claim => 43
  | .admission => 13
  | .handover => 1165
  | .carrierQuery => 26
  | .recipe => 184
  | .recipeQuery => 4
  | .condition => 12
  | .release => 0
  | .test => 1200

/-- The payload length lies within the limits of its kind (R158 check 3, R177). -/
def FrameKind.lengthOk (k : FrameKind) (n : Nat) : Bool := decide (k.minLength ≤ n) && decide (n ≤ k.maxLength)

/-- The destination a class and a value name; none fails check 4 of R158 (R177). -/
def destOf (cls value : Nat) : Option Dest :=
  if cls = 0 ∧ value = 0 then some .all
  else if cls = 1 ∧ 1 ≤ value ∧ value ≤ 62 then some (.station value)
  else if cls = 2 ∧ value ≤ 48 then some (.zone value)
  else none

/-- The two destination bytes. -/
def Dest.bytes : Dest → List Byte
  | .all => [0, 0]
  | .station a => [1, byteOf a]
  | .zone i => [2, byteOf i]

/-- The stated payload length of a frame in reception, once its header has been taken. -/
def statedLength (bs : List Byte) : Nat := fieldAt16 bs 4

/-- A frame in reception still expects a data symbol: header, payload or check word (R156). -/
def expectsData (bs : List Byte) : Bool :=
  decide (bs.length < 6) || decide (bs.length < statedLength bs + 8)

/-! ### CLAIM (R178) -/

/-- The cycle lengths (R62). -/
def cycleLengths : List Nat := [4, 8, 16, 32, 64]

/-- `n` claim runs of four bytes each, and the bytes after them. -/
def readClaimRuns : Nat → List Byte → Option (List ClaimRun × List Byte)
  | 0, bs => some ([], bs)
  | n + 1, a :: b :: c :: d :: bs =>
    match readClaimRuns n bs with
    | some (runs, rest) => some (⟨a.toNat, b.toNat, be16 c d⟩ :: runs, rest)
    | none => none
  | _ + 1, _ => none

/-- One claim part, and the bytes after it; a run count outside 1..4 fails. -/
def readClaimPart : List Byte → Option (ClaimPart × List Byte)
  | n :: p :: scale :: r :: bs =>
    if 1 ≤ r.toNat ∧ r.toNat ≤ 4 then
      match readClaimRuns r.toNat bs with
      | some (runs, rest) => some (⟨n.toNat, p.toNat, scale.toNat, runs⟩, rest)
      | none => none
    else none
  | _ => none

/-- A part that the present bit calls for. -/
def readOptionalPart (present : Bool) (bs : List Byte) : Option (Option ClaimPart × List Byte) :=
  if present then
    match readClaimPart bs with
    | some (part, rest) => some (some part, rest)
    | none => none
  else some (none, bs)

/-- The parts of a CLAIM payload, none where the layout fails (R178): another present bit, a run count outside 1..4, or a
length that differs from what the present bits and run counts call for. -/
def readClaimParts (payload : List Byte) : Option (Option ClaimPart × Option ClaimPart) :=
  let present := payload.getD 2 0
  if present.toNat < 4 then
    match readOptionalPart (present.getLsbD 0) (payload.drop 3) with
    | some (active, rest) =>
      match readOptionalPart (present.getLsbD 1) rest with
      | some (pending, []) => some (active, pending)
      | _ => none
    | none => none
  else none

/-- The cycle positions a run covers (R62). -/
def ClaimRun.positions (cycle : Nat) (r : ClaimRun) : List Nat :=
  (List.range r.len).map fun k => (r.start + k) % cycle

/-- The runs stand in order of rising start. -/
def risingStarts : List ClaimRun → Bool
  | a :: b :: rest => decide (a.start < b.start) && risingStarts (b :: rest)
  | _ => true

/-- The fields of one run lie in their ranges (R62). -/
def ClaimRun.inRange (cycle : Nat) (r : ClaimRun) : Bool :=
  decide (r.start < cycle) && decide (1 ≤ r.len) && decide (r.len ≤ cycle) && decide (1 ≤ r.current)
    && decide (r.current ≤ 6000)

/-- A claim part is valid (R62). -/
def ClaimPart.valid (p : ClaimPart) : Bool :=
  cycleLengths.contains p.cycle && decide (p.offset < p.cycle) && decide (2 ≤ p.scale) && decide (p.scale ≤ 8)
    && decide (1 ≤ p.runs.length) && decide (p.runs.length ≤ 4) && p.runs.all (ClaimRun.inRange p.cycle)
    && risingStarts p.runs && decide ((p.runs.flatMap (ClaimRun.positions p.cycle)).Nodup)

/-- A present part is valid; an absent one has nothing to fail. -/
def validPart : Option ClaimPart → Bool
  | some p => p.valid
  | none => true

/-- The bytes of a claim part. -/
def ClaimPart.bytes (p : ClaimPart) : List Byte :=
  [byteOf p.cycle, byteOf p.offset, byteOf p.scale, byteOf p.runs.length]
    ++ p.runs.flatMap fun r => [byteOf r.start, byteOf r.len] ++ toBE16 r.current

/-- The bytes of a part that may be absent. -/
def partBytes : Option ClaimPart → List Byte
  | some p => p.bytes
  | none => []

/-- The parts-present byte. -/
def ClaimBody.present (c : ClaimBody) : Byte :=
  (if c.active.isSome then 1#8 else 0#8) ||| (if c.pending.isSome then 2#8 else 0#8)

/-- The payload of a CLAIM with its stamp. -/
def ClaimBody.bytes (c : ClaimBody) (stamp : Nat) : List Byte :=
  [byteOf stamp, byteOf c.zone, c.present] ++ partBytes c.active ++ partBytes c.pending

/-! ### Dose records (R179) -/

/-- The recipe field of a header or zone record: (0, 0) is none. -/
def keyOf (id rev : Nat) : Option Key := if id = 0 ∧ rev = 0 then none else some ⟨id, rev⟩

/-- The id and the revision of a recipe field. -/
def keyId : Option Key → Nat
  | some k => k.id
  | none => 0

def keyRev : Option Key → Nat
  | some k => k.rev
  | none => 0

/-- One zone record from its 24 bytes. -/
def readZoneRecord (bs : List Byte) : ZoneRecord where
  zone := byteAt bs 0
  station := byteAt bs 1
  recipeId := fieldAt16 bs 2
  recipeRev := byteAt bs 4
  minScale := byteAt bs 5 / 16
  fill := byteAt bs 5 % 16
  flags := BitVec.ofNat 16 (fieldAt16 bs 6)
  forward := fieldAt32 bs 8
  reverse := fieldAt32 bs 12
  target := fieldAt32 bs 16
  frames := fieldAt16 bs 20
  deviations := byteAt bs 22
  history := bs.getD 23 0

/-- The 24 bytes of a zone record. -/
def ZoneRecord.bytes (z : ZoneRecord) : List Byte :=
  [byteOf z.zone, byteOf z.station] ++ toBE16 z.recipeId ++ [byteOf z.recipeRev, byteOf (z.minScale * 16 + z.fill)]
    ++ toBE16 z.flags.toNat ++ toBE32 z.forward ++ toBE32 z.reverse ++ toBE32 z.target ++ toBE16 z.frames
    ++ [byteOf z.deviations, z.history]

/-- `n` zone records. -/
def readZoneRecords : Nat → List Byte → List ZoneRecord
  | 0, _ => []
  | n + 1, bs => readZoneRecord (bs.take 24) :: readZoneRecords n (bs.drop 24)

/-- A dose record from a payload whose length agrees with its zone count; none where it does not (R36). Header flag bits 3 to 7
are ignored (R179). -/
def readDoseRecord (payload : List Byte) : Option DoseRecord :=
  let zones := byteAt payload 12
  if payload.length = 13 + 24 * zones then
    let flags := payload.getD 7 0
    some
      { carrierId := fieldAt32 payload 0
        recipe := keyOf (fieldAt16 payload 4) (byteAt payload 6)
        area := fieldAt16 payload 8
        length := fieldAt16 payload 10
        resent := flags.getLsbD 0
        orderError := flags.getLsbD 1
        originUnknown := flags.getLsbD 2
        zones := readZoneRecords zones (payload.drop 13) }
  else none

/-- The header flags byte. -/
def DoseRecord.flagByte (d : DoseRecord) : Byte :=
  (if d.resent then 1#8 else 0#8) ||| (if d.orderError then 2#8 else 0#8) ||| (if d.originUnknown then 4#8 else 0#8)

/-- The payload of an ADMIT or HANDOVER. -/
def DoseRecord.bytes (d : DoseRecord) : List Byte :=
  toBE32 d.carrierId ++ toBE16 (keyId d.recipe) ++ [byteOf (keyRev d.recipe), d.flagByte] ++ toBE16 d.area
    ++ toBE16 d.length ++ [byteOf d.zones.length] ++ d.zones.flatMap ZoneRecord.bytes

/-- Zone indexes lie in 1..48 and rise strictly from record to record, above `last` (R36). -/
def risingZones : Nat → List ZoneRecord → Bool
  | _, [] => true
  | last, z :: rest => decide (last < z.zone) && decide (z.zone ≤ 48) && risingZones z.zone rest

/-- A recipe is none, or has id 1..65535 and revision 1..255 (R36). -/
def validKeyField : Option Key → Bool
  | none => true
  | some k => decide (1 ≤ k.id) && decide (k.id ≤ 65535) && decide (1 ≤ k.rev) && decide (k.rev ≤ 255)

/-- The intake check of R36 but for the payload length, which `readDoseRecord` judges. -/
def DoseRecord.valid (kind : FrameKind) (d : DoseRecord) : Bool :=
  (if kind = .admission then decide (1 ≤ d.carrierId) && d.zones.isEmpty else true)
    && validKeyField d.recipe && decide (1 ≤ d.area) && decide (d.area ≤ 20000) && decide (100 ≤ d.length)
    && decide (d.length ≤ 3000) && decide (d.zones.length ≤ 48) && risingZones 0 d.zones

/-- The dose record of an ADMIT or HANDOVER payload, none where the intake check fails (R36). -/
def checkedDoseRecord (kind : FrameKind) (payload : List Byte) : Option DoseRecord :=
  match readDoseRecord payload with
  | some d => if d.valid kind then some d else none
  | none => none

/-! ### Recipes (R15) -/

/-- The segment kind codes. -/
def SegKind.code : SegKind → Nat
  | .forward => 1
  | .reverse => 2
  | .rest => 3

/-- The segment kind of a code; any other fails the validity check. -/
def segKindOf : Nat → Option SegKind
  | 1 => some .forward
  | 2 => some .reverse
  | 3 => some .rest
  | _ => none

/-- `n` segments of four bytes each, and the bytes after them. -/
def readSegments : Nat → List Byte → Option (List Segment × List Byte)
  | 0, bs => some ([], bs)
  | n + 1, k :: l :: c :: d :: bs =>
    match segKindOf k.toNat, readSegments n bs with
    | some kind, some (segs, rest) => some (⟨kind, l.toNat, be16 c d⟩ :: segs, rest)
    | _, _ => none
  | _ + 1, _ => none

/-- `n` zone targets of three bytes each, and the bytes after them. -/
def readTargets : Nat → List Byte → Option (List ZoneTarget × List Byte)
  | 0, bs => some ([], bs)
  | n + 1, z :: c :: d :: bs =>
    match readTargets n bs with
    | some (ts, rest) => some (⟨z.toNat, be16 c d⟩ :: ts, rest)
    | none => none
  | _ + 1, _ => none

/-- The recipe record of a RECIPE payload (its publish flag taken off); none where a segment kind is unknown or the stated
counts disagree with the length (R15). -/
def readRecipe : List Byte → Option Recipe
  | i1 :: i0 :: rev :: n :: s :: tol :: t :: bs =>
    match readSegments s.toNat bs with
    | some (segs, rest) =>
      match readTargets t.toNat rest with
      | some (targets, []) => some ⟨⟨be16 i1 i0, rev.toNat⟩, n.toNat, segs, tol.toNat, targets⟩
      | _ => none
    | none => none
  | _ => none

/-- The bytes of a recipe record. -/
def Recipe.bytes (r : Recipe) : List Byte :=
  toBE16 r.key.id ++ [byteOf r.key.rev, byteOf r.cycle, byteOf r.segments.length, byteOf r.tolerance, byteOf r.targets.length]
    ++ r.segments.flatMap (fun g => [byteOf g.kind.code, byteOf g.len] ++ toBE16 g.density)
    ++ r.targets.flatMap (fun z => [byteOf z.zone] ++ toBE16 z.target)

/-! ### CONDITION (chapter 11) -/

/-- A kind's report priority. -/
def Kind.priority : Kind → Nat
  | .addressClash => 1
  | .zoneClash => 2
  | .lockout => 3
  | .trip => 4
  | .referenceLost => 5
  | .bridgeSlow => 6
  | .reverseDeficit => 7
  | .anodeVoltage => 8
  | .doseDeviation => 9
  | .slotStarved => 10
  | .tracking => 11
  | .busErrors => 12
  | .slip => 13
  | .recipeReject => 14

/-- The change codes. -/
def Change.code : Change → Nat
  | .declared => 1
  | .cleared => 2
  | .event => 3

/-- The cause codes, per kind (the table of chapter 11). FRAMES is 1 for every counted kind. -/
def Cause.code : Cause → Nat
  | .clash => 1
  | .secondTrip => 1
  | .release => 2
  | .noConfirm => 1
  | .silent => 2
  | .overcurrent => 3
  | .wrongDirection => 4
  | .overtemp => 5
  | .drive => 6
  | .supply => 7
  | .holdoverExpired => 1
  | .lock => 2
  | .frames => 1
  | .history => 1
  | .planFailed => 1
  | .commit => 2
  | .demandGone => 3
  | .badRecord => 1
  | .tableFull => 2
  | .order => 3
  | .entryGlitch => 4
  | .unannounced => 5
  | .length => 6
  | .backward => 7
  | .position => 8
  | .exitMissed => 9
  | .noMatch => 10
  | .forced => 11
  | .check => 2
  | .timeout => 3
  | .overrun => 4
  | .collisions => 5
  | .mismatch => 1
  | .shift => 2
  | .invalid => 1
  | .recipeConflict => 2
  | .revisionLimit => 3
  | .unavailable => 5

/-- The station state codes. -/
def StationState.code : StationState → Nat
  | .loading => 1
  | .configFault => 2
  | .selfTest => 3
  | .listening => 4
  | .joined => 5
  | .isolated => 6
  | .lockout => 7

/-- The own claim state codes. -/
def ClaimState.code : ClaimState → Nat
  | .idle => 0
  | .proposed => 1
  | .settled => 2
  | .moving => 3

/-- The 12 bytes of a CONDITION payload. -/
def ConditionPayload.bytes (c : ConditionPayload) : List Byte :=
  [byteOf c.report.kind.priority, byteOf c.report.change.code, byteOf c.report.cause.code, byteOf c.report.superseded]
    ++ toBE16 c.declared.toNat ++ [byteOf c.station.code, byteOf c.claim.code] ++ toBE32 c.dominantId

/-! ### TEST (R167) -/

/-- The payload length of test frame `n`. -/
def testLength : Nat → Nat
  | 1 => 16
  | 2 => 255
  | _ => 1200

/-- The payload of test frame `n`: first byte n, each later byte one more than the byte before it, modulo 256. -/
def testPayload (n : Nat) : List Byte := (List.range (testLength n)).map fun i => byteOf (n + i)

/-! ### Whole frames (R148, chapter 11) -/

/-- The kind of a frame's contents. -/
def Body.kind : Body → FrameKind
  | .claim _ => .claim
  | .handover _ => .handover
  | .carrierQuery _ _ => .carrierQuery
  | .recipe _ => .recipe
  | .recipeQuery _ _ => .recipeQuery
  | .condition _ => .condition
  | .test _ => .test

/-- CLAIM and HANDOVER are urgent; the rest are normal (R150). -/
def Body.urgent : Body → Bool
  | .claim _ => true
  | .handover _ => true
  | .carrierQuery _ _ => false
  | .recipe _ => false
  | .recipeQuery _ _ => false
  | .condition _ => false
  | .test _ => false

/-- The payload of a frame; an answer's RECIPE carries the publish flag clear (R32). -/
def Body.payload (stamp : Nat) : Body → List Byte
  | .claim c => c.bytes stamp
  | .handover d => d.bytes
  | .carrierQuery zone ids => [byteOf zone, byteOf ids.length] ++ ids.flatMap toBE32
  | .recipe r => 0 :: r.bytes
  | .recipeQuery k zone => toBE16 k.id ++ [byteOf k.rev, byteOf zone]
  | .condition c => c.bytes
  | .test n => testPayload n

/-- Header and payload of a frame, as its check word covers them. -/
def coveredBytes (kind : FrameKind) (source : Nat) (dest : Dest) (payload : List Byte) : List Byte :=
  [byteOf kind.code, byteOf source] ++ dest.bytes ++ toBE16 payload.length ++ payload

/-- Every byte of a transmitted frame: header, payload, check word. -/
def TxFrame.bytes (source : Nat) (f : TxFrame) : List Byte :=
  let covered := coveredBytes f.body.kind source f.dest (f.body.payload f.stamp)
  covered ++ checkBytes covered

/-- The symbols of a transmitted frame in the order they are sent (R148). -/
def TxFrame.symbols (source : Nat) (f : TxFrame) : List Symbol :=
  startSymbol :: (f.bytes source).map dataSymbol ++ [endSymbol]

/-- The checks of R158 on a complete frame: check word, kind, payload length, source and destination. TEST is known on the
internal loop alone (R163). -/
def checkFrame (loop : Bool) (bs : List Byte) : Option RxFrame :=
  let n := statedLength bs
  let covered := bs.take (n + 6)
  if checkBytes covered = bs.drop (n + 6) then
    match kindOfCode (byteAt bs 0) with
    | some kind =>
      if kind = .test ∧ !loop then none
      else if kind.lengthOk n then
        if 1 ≤ byteAt bs 1 ∧ byteAt bs 1 ≤ 62 then
          match destOf (byteAt bs 2) (byteAt bs 3) with
          | some dest => some ⟨kind, byteAt bs 1, dest, covered.drop 6⟩
          | none => none
        else none
      else none
    | none => none
  else none

/-! ### Bridge link messages (R180) -/

/-- The direction code of a SETPOINT. -/
def Dir.code : Dir → Nat
  | .rest => 0
  | .fwd => 1
  | .rev => 2

/-- The 32 bits of a message of the command lane. -/
def LaneMsg.word : LaneMsg → LinkWord
  | .setpoint sp =>
    withMessageCheck (BitVec.ofNat 32 (1 * 2 ^ 30 + sp.dir.code * 2 ^ 28 + (sp.current % 65536) * 2 ^ 12))
  | .mark log => withMessageCheck (BitVec.ofNat 32 (2 * 2 ^ 30 + (log.slot % 64) * 2 ^ 24))
  | .off => withMessageCheck (BitVec.ofNat 32 (3 * 2 ^ 30))

/-- A message of the return lane that passed its check. -/
inductive ReturnMsg where
  | reading (current : Int) (voltage : Nat) (slotMod4 : Nat)
  | ack (dir : AckDir)
  | fault (cause : Cause)
  deriving DecidableEq, Repr

/-- The direction an ACK's code names. -/
def ackDirOf : Nat → AckDir
  | 0 => .rest
  | 1 => .fwd
  | 2 => .rev
  | _ => .off

/-- The cause a FAULT's code names; code 0 is a message of unknown kind. -/
def faultCauseOf : Nat → Option Cause
  | 1 => some .overtemp
  | 2 => some .drive
  | 3 => some .supply
  | _ => none

/-- A message read on BLRX: none where its check fails or its kind is unknown (R113, R180). -/
def readReturn (w : LinkWord) : Option ReturnMsg :=
  if goodMessage w then
    if w.getLsbD 31 then
      let magnitude : Int := ((w.extractLsb' 14 16).toNat : Int)
      some (.reading (if w.getLsbD 30 then -magnitude else magnitude) (w.extractLsb' 6 8).toNat (w.extractLsb' 4 2).toNat)
    else if w.getLsbD 30 then
      match faultCauseOf (w.extractLsb' 28 2).toNat with
      | some c => some (.fault c)
      | none => none
    else some (.ack (ackDirOf (w.extractLsb' 28 2).toNat))
  else none

/-! ### Configuration image (R165, R181) -/

/-- The frequency byte. -/
def freqOf : Nat → Option RefFreq
  | 50 => some .hz50
  | 60 => some .hz60
  | _ => none

/-- The bus rate byte. -/
def rateOf : Nat → Option BusRate
  | 1 => some .kbit500
  | 2 => some .mbit2
  | _ => none

/-- `n` lies within `lo..hi`. -/
def within (lo hi n : Nat) : Bool := decide (lo ≤ n) && decide (n ≤ hi)

/-- Every field with a numeric range lies within it (the table of R165). -/
def cfgInRange (c : Cfg) : Bool :=
  within 1 62 c.stationAddress && within 1 48 c.zoneIndex && within 300 6000 c.zoneLength
    && within 1 65535 c.zoneWindowArea && within 1 20000 c.defaultArea && within 100 3000 c.defaultLength
    && within 1 6000 c.forwardRating && within 1 6000 c.reverseRating && within 1 65535 c.lineReverseBudget
    && within 1 8 c.onsetLimit && within 0 500 c.holdingDensity && within 100 1000 c.confirmLimit
    && within 5 50 c.overcurrentMargin && within 0 65535 c.anodeVoltageLimit && within 1 8 c.deviationThreshold
    && within 1 255 c.bridgeSlow.declareAt && within 1 255 c.bridgeSlow.clearAt
    && within 1 255 c.reverseDeficit.declareAt && within 1 255 c.reverseDeficit.clearAt
    && within 1 255 c.anodeVoltage.declareAt && within 1 255 c.anodeVoltage.clearAt
    && within 1 255 c.busErrors.declareAt && within 1 255 c.busErrors.clearAt

/-- The fields of an image, none where the last-zone, frequency or bus-rate byte is out of its range (R181). -/
def readFields (bs : List Byte) : Option Cfg :=
  match freqOf (byteAt bs 3), rateOf (byteAt bs 4) with
  | some freq, some rate =>
    if byteAt bs 2 ≤ 1 then
      some
        { stationAddress := byteAt bs 0
          zoneIndex := byteAt bs 1
          lastZone := decide (byteAt bs 2 = 1)
          refFreq := freq
          busRate := rate
          zoneLength := fieldAt16 bs 5
          zoneWindowArea := fieldAt16 bs 7
          defaultArea := fieldAt16 bs 9
          defaultLength := fieldAt16 bs 11
          forwardRating := fieldAt16 bs 13
          reverseRating := fieldAt16 bs 15
          lineReverseBudget := fieldAt16 bs 17
          onsetLimit := byteAt bs 19
          holdingDensity := fieldAt16 bs 20
          confirmLimit := fieldAt16 bs 22
          overcurrentMargin := byteAt bs 24
          anodeVoltageLimit := fieldAt16 bs 25
          deviationThreshold := byteAt bs 27
          bridgeSlow := ⟨byteAt bs 28, byteAt bs 29⟩
          reverseDeficit := ⟨byteAt bs 30, byteAt bs 31⟩
          anodeVoltage := ⟨byteAt bs 32, byteAt bs 33⟩
          busErrors := ⟨byteAt bs 34, byteAt bs 35⟩ }
    else none
  | _, _ => none

/-- The judgement of an image: the configuration values of a good one, none for a bad one (R165, R181). -/
def judgeImage (image : List Byte) : Option Cfg :=
  if checkBytes (image.take 64) = image.drop 64 then
    match readFields image with
    | some c => if cfgInRange c then some c else none
    | none => none
  else none

end Sys2Proof.Machine
end

