-- ==== Sys2Proof/Machine/Flags.lean ====
section
/-! DEFINITION. The flags of zone records (chapter 11, R128) and the numbers and thresholds that the chapters fix. -/

namespace Sys2Proof.Machine

open Sys2Proof

/-- The sixteen zone record flags (R128). -/
inductive ZoneFlag where
  | held | forwardOnly | reduced | late | mixed | deviation | underdose | tripped | unplated | trackError | unidentified
  | lateIdentity | anode | clamped | forcedDeparture | slotLost
  deriving DecidableEq, Repr

/-- The bit of a flag in bytes 6 and 7 of a zone record (chapter 11). -/
def ZoneFlag.bit : ZoneFlag → Nat
  | .held => 15
  | .forwardOnly => 14
  | .reduced => 13
  | .late => 12
  | .mixed => 11
  | .deviation => 10
  | .underdose => 9
  | .tripped => 8
  | .unplated => 7
  | .trackError => 6
  | .unidentified => 5
  | .lateIdentity => 4
  | .anode => 3
  | .clamped => 2
  | .forcedDeparture => 1
  | .slotLost => 0

/-- The word with that flag alone. -/
def ZoneFlag.mask (f : ZoneFlag) : BitVec 16 := BitVec.twoPow 16 f.bit

/-- A record with a flag set. -/
def OpenRecord.set (f : ZoneFlag) (r : OpenRecord) : OpenRecord := { r with flags := r.flags ||| f.mask }

/-- A record with a flag cleared; UNIDENTIFIED alone is ever cleared (R128). -/
def OpenRecord.clear (f : ZoneFlag) (r : OpenRecord) : OpenRecord := { r with flags := r.flags &&& ~~~f.mask }

/-- A record with a flag set when `b` holds. -/
def OpenRecord.setIf (b : Bool) (f : ZoneFlag) (r : OpenRecord) : OpenRecord := if b then r.set f else r

/-- The flag stands in the record. -/
def OpenRecord.has (f : ZoneFlag) (r : OpenRecord) : Bool := r.flags.getLsbD f.bit

/-- Counts of 0..65535 that saturate. -/
def sat16 (n : Nat) : Nat := min n 65535

/-- Charges of 0..2^48 - 1 that saturate (chapter 7). -/
def satCharge (n : Nat) : Nat := min n 281474976710655

/-- The tolerance of gate, length and position checks, in mm (chapter 3). -/
def gateTolerance : Nat := 25

/-- Two lengths or positions differ by more than 25 mm. -/
def farApart (a b : Nat) : Bool := decide (a + gateTolerance < b) || decide (b + gateTolerance < a)

end Sys2Proof.Machine
end

