-- ==== Sys2Proof/Machine/Ops.lean ====
section
/-! DEFINITION. The operations every block shares: configuration access, bus times, and the transmit queue (R148, R150 to R152). -/

namespace Sys2Proof.Machine

open Sys2Proof

/-! ### Configuration and time -/

/-- The configuration values (R165; log 13). -/
def State.cfg (s : State) : Cfg := s.station.cfg.getD Cfg.unset

/-- The instant of a stamped event (log 1). -/
def State.advance (t : Instant) (s : State) : State := s.setNow (max s.now t)

/-- While RSTN is asserted every block holds its reset state (R164): no event is taken. -/
def State.unlessHeld (s : State) (f : State → State) : State := if s.station.held then s else f s

/-- The slot number: period-in-frame times 16 plus slot-in-period (chapter 1). -/
def Clock.slot (c : Clock) : Nat := c.pif * 16 + c.sip

/-- The bit time of the configured rate, in 0.1 µs (chapter 9). -/
def bitTime (rate : BusRate) : Instant :=
  match rate with
  | .kbit500 => 20
  | .mbit2 => 5

/-- A symbol is 10 bit times. -/
def symbolTime (rate : BusRate) : Instant := 10 * bitTime rate

/-- The idle gap is 16 bit times (R148). -/
def idleGap (rate : BusRate) : Instant := 16 * bitTime rate

/-- The receive timeout is 1300 symbol times (R157). -/
def receiveTimeout (rate : BusRate) : Instant := 1300 * symbolTime rate

/-- The backoff wait after the attempt count has risen to `attempts`:
(1 + (own address + attempt count) mod 16) × 32 bit times (R154). -/
def backoffWait (rate : BusRate) (address attempts : Nat) : Instant :=
  (1 + (address + attempts) % 16) * 32 * bitTime rate

/-- The line is idle at `t`: the quiet time has reached the idle gap (R148). -/
def Bus.idleAt (rate : BusRate) (t : Instant) (b : Bus) : Bool :=
  match b.lastActivity with
  | some a => decide (a + idleGap rate ≤ t)
  | none => false

/-! ### Station states -/

/-- The states in which the bus controller takes every submission (R149). -/
def StationState.onBus : StationState → Bool
  | .listening => true
  | .joined => true
  | .lockout => true
  | .loading => false
  | .configFault => false
  | .selfTest => false
  | .isolated => false

/-- The states in which the engine hands setpoints (R89, R94). -/
def StationState.setpoints : StationState → Bool
  | .listening => true
  | .joined => true
  | .isolated => true
  | .loading => false
  | .configFault => false
  | .selfTest => false
  | .lockout => false

/-- The states in which the carrier tracker takes gate edges and counts (R34, R59). -/
def StationState.tracks : StationState → Bool
  | .loading => false
  | .configFault => false
  | .selfTest => true
  | .listening => true
  | .joined => true
  | .isolated => true
  | .lockout => true

/-! ### The transmit queue (R150 to R152) -/

/-- The frames held, the frame in flight included. -/
def Bus.heldFrames (b : Bus) : Nat := b.inFlight.toList.length + b.urgent.length + b.normal.length

/-- The free places of the eight. -/
def Bus.free (b : Bus) : Nat := 8 - b.heldFrames

/-- A frame is a CLAIM. -/
def TxFrame.isClaim (f : TxFrame) : Bool := f.body.kind == .claim

/-- The pick: the first urgent frame, or else the first normal one, becomes the frame in flight and the transmitter enters
WAITING; only in IDLE (R152). -/
def Bus.pick (b : Bus) : Bus :=
  if b.tx = .idle then
    match b.urgent with
    | f :: rest => { b with tx := .waiting, inFlight := some f, attempts := 0, urgent := rest }
    | [] =>
      match b.normal with
      | f :: rest => { b with tx := .waiting, inFlight := some f, attempts := 0, normal := rest }
      | [] => b
  else b

/-- A frame not yet started. -/
def freshFrame (body : Body) (dest : Dest) : TxFrame := ⟨body, dest, false, 0, false⟩

/-- A normal frame needs 3 free places (R150). -/
def Bus.enqueueNormal (f : TxFrame) (b : Bus) : Bus × Bool :=
  if 3 ≤ b.free then ({ b with normal := b.normal ++ [f] }, true) else (b, false)

/-- A HANDOVER, or a CLAIM with none held, needs 1 free place (R150, R151). -/
def Bus.enqueueUrgent (f : TxFrame) (b : Bus) : Bus × Bool :=
  if 1 ≤ b.free then ({ b with urgent := b.urgent ++ [f] }, true) else (b, false)

/-- A frame that is a CLAIM takes new contents; any other stays. -/
def TxFrame.replaceClaim (c : ClaimBody) (f : TxFrame) : TxFrame :=
  if f.isClaim then { f with body := .claim c } else f

/-- A CLAIM submission (R151): with a started CLAIM in flight the contents become the follow-on; an unstarted CLAIM takes them
in place; otherwise the CLAIM is queued. A CLAIM waiting behind the frame in flight has not started. -/
def Bus.enqueueClaim (c : ClaimBody) (b : Bus) : Bus × Bool :=
  match b.inFlight with
  | some f =>
    if f.isClaim then
      if f.started then ({ b with followOn := some c }, true)
      else ({ b with inFlight := some (f.replaceClaim c) }, true)
    else if b.urgent.any TxFrame.isClaim then ({ b with urgent := b.urgent.map (TxFrame.replaceClaim c) }, true)
    else b.enqueueUrgent (freshFrame (.claim c) .all)
  | none =>
    if b.urgent.any TxFrame.isClaim then ({ b with urgent := b.urgent.map (TxFrame.replaceClaim c) }, true)
    else b.enqueueUrgent (freshFrame (.claim c) .all)

/-- The queue's answer to a submission, by class and free places (R150, R151). -/
def Bus.enqueue (body : Body) (dest : Dest) (b : Bus) : Bus × Bool :=
  match body with
  | .claim c => b.enqueueClaim c
  | .handover rec => b.enqueueUrgent (freshFrame (.handover rec) dest)
  | .carrierQuery zone ids => b.enqueueNormal (freshFrame (.carrierQuery zone ids) dest)
  | .recipe r => b.enqueueNormal (freshFrame (.recipe r) dest)
  | .recipeQuery key zone => b.enqueueNormal (freshFrame (.recipeQuery key zone) dest)
  | .condition p => b.enqueueNormal (freshFrame (.condition p) dest)
  | .test n => b.enqueueNormal (freshFrame (.test n) dest)

/-- The station state lets the bus controller take the submission: every one on the bus, TEST alone in SELF-TEST, none in
LOADING, CONFIG FAULT and ISOLATED (R149). -/
def StationState.takes (st : StationState) (body : Body) : Bool :=
  match st with
  | .selfTest => body.kind == .test
  | .listening => true
  | .joined => true
  | .lockout => true
  | .loading => false
  | .configFault => false
  | .isolated => false

/-- A submission: the queue's answer, and the pick if the transmitter is IDLE (R150 to R152). -/
def Bus.submit (st : StationState) (body : Body) (dest : Dest) (b : Bus) : Bus × Bool :=
  if st.takes body then ((b.enqueue body dest).1.pick, (b.enqueue body dest).2) else (b, false)

/-- A submission by a block of the station. -/
def State.submit (body : Body) (dest : Dest) (s : State) : State × Bool :=
  (s.setBus (s.bus.submit s.station.state body dest).1, (s.bus.submit s.station.state body dest).2)

/-- The follow-on becomes a CLAIM frame behind the urgent frames held (R151). -/
def Bus.promoteFollowOn (b : Bus) : Bus :=
  match b.followOn with
  | some c => { b with urgent := b.urgent ++ [freshFrame (.claim c) .all], followOn := none }
  | none => b

/-- The take-back: an unstarted CLAIM leaves its place and the follow-on goes; a started CLAIM stays (R151). -/
def Bus.takeBackClaim (b : Bus) : Bus :=
  match b.inFlight with
  | some f =>
    if f.isClaim && !f.started then
      { b with inFlight := none, tx := .idle, attempts := 0, followOn := none }.pick
    else { b with urgent := b.urgent.filter (fun g => !g.isClaim), followOn := none }
  | none => { b with urgent := b.urgent.filter (fun g => !g.isClaim), followOn := none }

/-! ### Lists of records -/

/-- The elements that satisfy `p` take `f`, the rest stay. -/
def updateWhere {α : Type} (p : α → Bool) (f : α → α) (xs : List α) : List α := xs.map fun x => if p x then f x else x

/-- The first element that satisfies `p` takes `f`. -/
def updateFirst {α : Type} (p : α → Bool) (f : α → α) : List α → List α
  | [] => []
  | x :: xs => if p x then f x :: xs else x :: updateFirst p f xs

/-- The last element that satisfies `p`. -/
def findLast {α : Type} (p : α → Bool) (xs : List α) : Option α := xs.reverse.find? p

/-- A list without its last element that satisfies `p`. -/
def removeLast {α : Type} (p : α → Bool) (xs : List α) : List α := (xs.reverse.eraseP p).reverse

/-- The serial number of the slot that ended (log 35). -/
def Boundary.endedSerial (b : Boundary) : Nat := b.serial - 1

/-- The element of a slot in a store: the slot's own, or with that not stored the last one of its number (R127; log 35). -/
def findSlot {α : Type} (slotOf serialOf : α → Nat) (slot serial : Nat) (xs : List α) : Option α :=
  match findLast (fun x => slotOf x == slot && serialOf x == serial) xs with
  | some x => some x
  | none => findLast (fun x => slotOf x == slot) xs

/-- The carrier table entry of a tag (R50). -/
def State.entry? (tag : Nat) (s : State) : Option Entry := s.tracker.table.find? fun e => e.tag == tag

/-- The carrier of a tag: its entry in the table, or as it left the table (R50, R88; log 21). -/
def State.carrier? (tag : Nat) (s : State) : Option Entry :=
  match s.entry? tag with
  | some e => some e
  | none => s.tracker.departed.find? fun e => e.tag == tag

/-- The engine names the carrier: as governing carrier of a context, as the last dominant carrier, or in a hand-over that it may still
have to take (R95; log 21). -/
def State.names (tag : Nat) (s : State) : Bool :=
  s.engine.active.carrier == some tag || (s.engine.prepared.bind Context.carrier) == some tag
    || s.engine.lastDominant == some tag || s.boundary.dominant == some tag || s.boundary.forecast == some tag

end Sys2Proof.Machine
end

