-- ==== Sys2Proof/Machine/Monitor.lean ====
section
/-! DEFINITION. The condition monitor: condition states, verdict counts, the pending report set, CONDITION frames and FAULTN
(chapter 8). -/

namespace Sys2Proof.Machine

open Sys2Proof

/-! ### Condition states -/

/-- The bit of a kind in the declared set. -/
def Kind.bit (k : Kind) : Nat := k.priority - 1

/-- The condition is DECLARED. -/
def Monitor.isDeclared (k : Kind) (m : Monitor) : Bool := m.declared.getLsbD k.bit

/-- The condition becomes DECLARED. -/
def Monitor.mark (k : Kind) (m : Monitor) : Monitor := { m with declared := m.declared ||| BitVec.twoPow 16 k.bit }

/-- The condition becomes CLEAR. -/
def Monitor.unmark (k : Kind) (m : Monitor) : Monitor := { m with declared := m.declared &&& ~~~BitVec.twoPow 16 k.bit }

/-- ADDRESS CLASH and ZONE CLASH stay DECLARED until hardware reset (R137). -/
def Kind.sticky (k : Kind) : Bool := k == .addressClash || k == .zoneClash

/-! ### The pending report set (R142) -/

/-- A report takes its place by rising priority number. -/
def insertReport (r : Report) : List Report → List Report
  | [] => [r]
  | x :: xs => if r.kind.priority < x.kind.priority then r :: x :: xs else x :: insertReport r xs

/-- The pending report of the kind takes the new change and cause; its superseded count rises to at most 15. -/
def supersede (r : Report) (old : Report) : Report :=
  if old.kind = r.kind then ⟨r.kind, r.change, r.cause, min 15 (old.superseded + 1)⟩ else old

/-- Placing a report in the set. -/
def placeIn (r : Report) (rs : List Report) : List Report :=
  if rs.any fun x => x.kind == r.kind then rs.map (supersede r) else insertReport r rs

/-! ### CONDITION frames (R143, R144) -/

/-- The own claim state, by the parts held (chapter 4). -/
def SlotMap.claimState (m : SlotMap) : ClaimState :=
  match m.active, m.pending with
  | none, none => .idle
  | none, some _ => .proposed
  | some _, none => .settled
  | some _, some _ => .moving

/-- The carrier id of the dominant carrier, 0 when there is none (R144). -/
def State.dominantId (s : State) : Nat :=
  match s.tracker.dominant with
  | some tag =>
    match s.entry? tag with
    | some e => e.record.carrierId
    | none => 0
  | none => 0

/-- The CONDITION payload built for a report now (R144). -/
def State.conditionFor (r : Report) (s : State) : ConditionPayload where
  report := r
  declared := s.mon.declared
  station := s.mon.told
  claim := s.map.claimState
  dominantId := s.dominantId

/-- Submissions from the report of highest priority on, until one is refused or `n` have been accepted. -/
def offerReports : Nat → State → State
  | 0, s => s
  | n + 1, s =>
    match s.mon.reports with
    | [] => s
    | r :: rest =>
      match s.submit (.condition (s.conditionFor r)) .all with
      | (s', true) => offerReports n (s'.setMon { s'.mon with reports := rest })
      | (_, false) => s

/-- A submission occasion (R143): while the state last told allows CONDITION, reports are submitted until one is refused. -/
def State.offer (s : State) : State := if s.mon.told.onBus then offerReports s.mon.reports.length s else s

/-- A report is placed (R142), which is a submission occasion (R143). -/
def State.place (kind : Kind) (change : Change) (cause : Cause) (s : State) : State :=
  (s.setMon { s.mon with reports := placeIn ⟨kind, change, cause, 0⟩ s.mon.reports }).offer

/-! ### FAULTN (R146) -/

/-- The drive R146 gives: asserted until LISTENING was first reached; then in CONFIG FAULT, ISOLATED and LOCKOUT, or while
REFERENCE LOST is DECLARED. -/
def Monitor.faultnLevel (m : Monitor) : Bool :=
  !m.listeningReached || m.told == .configFault || m.told == .isolated || m.told == .lockout
    || m.isDeclared .referenceLost

/-- The drive formed anew. -/
def Monitor.formFaultn (m : Monitor) : Monitor := { m with faultn := m.faultnLevel }

/-! ### Requests, events and verdicts -/

/-- A declare request (R137). A change of REFERENCE LOST forms FAULTN anew (R146). -/
def State.declareCond (kind : Kind) (cause : Cause) (s : State) : State :=
  if s.mon.isDeclared kind then s else (s.setMon (s.mon.mark kind).formFaultn).place kind .declared cause

/-- A clear request (R137). -/
def State.clearCond (kind : Kind) (cause : Cause) (s : State) : State :=
  if s.mon.isDeclared kind && !kind.sticky then (s.setMon (s.mon.unmark kind).formFaultn).place kind .cleared cause else s

/-- A raised event places an EVENT report (R141). -/
def State.raise (kind : Kind) (cause : Cause) (s : State) : State := s.place kind .event cause

/-- DOSE DEVIATION follows the handed state (R138). -/
def State.followDeviation (out : Bool) (s : State) : State :=
  if out then s.declareCond .doseDeviation .history else s.clearCond .doseDeviation .history

/-- The counted kinds, with where their counts and limits are kept. -/
inductive CountedKind where
  | bridgeSlow | reverseDeficit | anodeVoltage | busErrors
  deriving DecidableEq, Repr

def CountedKind.kind : CountedKind → Kind
  | .bridgeSlow => .bridgeSlow
  | .reverseDeficit => .reverseDeficit
  | .anodeVoltage => .anodeVoltage
  | .busErrors => .busErrors

def Monitor.runs (m : Monitor) : CountedKind → RunCounts
  | .bridgeSlow => m.slowRuns
  | .reverseDeficit => m.deficitRuns
  | .anodeVoltage => m.anodeRuns
  | .busErrors => m.busRuns

def Monitor.setRuns (k : CountedKind) (r : RunCounts) (m : Monitor) : Monitor :=
  match k with
  | .bridgeSlow => { m with slowRuns := r }
  | .reverseDeficit => { m with deficitRuns := r }
  | .anodeVoltage => { m with anodeRuns := r }
  | .busErrors => { m with busRuns := r }

/-- The configured D and C of a counted kind (R165). -/
def runLimits (c : Cfg) : CountedKind → RunLimits
  | .bridgeSlow => c.bridgeSlow
  | .reverseDeficit => c.reverseDeficit
  | .anodeVoltage => c.anodeVoltage
  | .busErrors => c.busErrors

/-- A verdict for a counted condition (R139): `bad` frames count towards D while CLEAR, good ones towards C while DECLARED.
`cause` is the cause of a DECLARED report; a CLEARED report carries FRAMES. -/
def State.verdict (k : CountedKind) (bad : Bool) (cause : Cause) (s : State) : State :=
  let runs := s.mon.runs k
  let limits := runLimits s.cfg k
  if s.mon.isDeclared k.kind then
    if bad then s.setMon (s.mon.setRuns k { runs with good := 0 })
    else if runs.good + 1 = limits.clearAt then
      (s.setMon ((s.mon.setRuns k ⟨0, 0⟩).unmark k.kind)).place k.kind .cleared .frames
    else s.setMon (s.mon.setRuns k { runs with good := runs.good + 1 })
  else if bad then
    if runs.bad + 1 = limits.declareAt then
      (s.setMon ((s.mon.setRuns k ⟨0, 0⟩).mark k.kind)).place k.kind .declared cause
    else s.setMon (s.mon.setRuns k { runs with bad := runs.bad + 1 })
  else s.setMon (s.mon.setRuns k { runs with bad := 0 })

/-- The cause of a BUS ERRORS declaration: the first fault of COLLISIONS, OVERRUN, TIMEOUT, CHECK (R139). -/
def Faults.cause (f : Faults) : Cause :=
  if f.collisions then .collisions else if f.overrun then .overrun else if f.timeout then .timeout else .check

/-- The fault set is not empty. -/
def Faults.any (f : Faults) : Bool := f.check || f.timeout || f.overrun || f.collisions

/-- The monitor is told of a station state: listening reached, FAULTN, and a submission occasion at LISTENING, JOINED and LOCKOUT
(R143, R146). -/
def State.tellMonitor (st : StationState) (s : State) : State :=
  let m := { s.mon with told := st, listeningReached := s.mon.listeningReached || st == StationState.listening }
  (s.setMon m.formFaultn).offer

end Sys2Proof.Machine
end

