-- ==== Sys2Proof/Machine/Cache.lean ====
section
/-! DEFINITION. The recipe cache: validity and reverse runs of a recipe, entries, pins, the wanted list and scheduled answers
(chapter 2). -/

namespace Sys2Proof.Machine

open Sys2Proof

/-! ### Recipes (R15, R16) -/

/-- The groups of adjacent REVERSE segments, each with start, length and greatest density, the list not yet closed to a
cycle. `pos` is the position of the first segment. -/
def linearRuns : Nat → List Segment → List Run
  | _, [] => []
  | pos, g :: rest =>
    match g.kind with
    | .reverse =>
      match linearRuns (pos + g.len) rest with
      | r :: rs =>
        if r.start = pos + g.len then ⟨pos, g.len + r.len, max g.density r.density⟩ :: rs
        else ⟨pos, g.len, g.density⟩ :: r :: rs
      | [] => [⟨pos, g.len, g.density⟩]
    | .forward => linearRuns (pos + g.len) rest
    | .rest => linearRuns (pos + g.len) rest

/-- The cycle wraps: a run that ends the cycle takes in a run that begins it (R16). -/
def wrapRuns (cycle : Nat) : List Run → List Run
  | [] => []
  | first :: rest =>
    match rest.getLast? with
    | some last =>
      if first.start = 0 ∧ last.start + last.len = cycle then
        rest.dropLast ++ [⟨last.start, last.len + first.len, max last.density first.density⟩]
      else first :: rest
    | none => [first]

/-- The reverse runs of a recipe, in order of rising start (R16). -/
def Recipe.runs (r : Recipe) : List Run := wrapRuns r.cycle (linearRuns 0 r.segments)

/-- The pattern of a recipe: its cycle length and reverse runs, none for a recipe without REVERSE segments (R88). -/
def Recipe.pattern (r : Recipe) : Option Pattern := if r.runs.isEmpty then none else some ⟨r.cycle, r.runs⟩

/-- A segment's density lies within the range of its kind, and its length is at least 1 (R15). -/
def Segment.inRange (g : Segment) : Bool :=
  decide (1 ≤ g.len) &&
    match g.kind with
    | .forward => within 1 3000 g.density
    | .reverse => within 1 9000 g.density
    | .rest => g.density == 0

/-- Zone targets lie in range and their zone indexes rise strictly, above `last` (R15). -/
def risingTargets : Nat → List ZoneTarget → Bool
  | _, [] => true
  | last, z :: rest => decide (last < z.zone) && decide (z.zone ≤ 48) && within 1 65535 z.target && risingTargets z.zone rest

/-- The validity check of R15 but for the stated counts, which `readRecipe` judges. -/
def Recipe.valid (r : Recipe) : Bool :=
  within 1 65535 r.key.id && within 1 255 r.key.rev && cycleLengths.contains r.cycle && within 1 8 r.segments.length
    && r.segments.all Segment.inRange && (r.segments.map Segment.len).sum == r.cycle && decide (r.runs.length ≤ 4)
    && within 1 25 r.tolerance && decide (r.targets.length ≤ 48) && risingTargets 0 r.targets

/-- The recipe of a RECIPE frame's payload after its publish flag, none where it fails the check of R15. -/
def checkedRecipe (bytes : List Byte) : Option Recipe :=
  match readRecipe bytes with
  | some r => if r.valid then some r else none
  | none => none

/-! ### Entries and pins (R17 to R21) -/

/-- The entry has the key. -/
def CacheEntry.keyed (k : Key) (e : CacheEntry) : Bool := e.recipe.key == k

/-- The cache holds the key. -/
def Cache.holds (k : Key) (c : Cache) : Bool := c.entries.any (CacheEntry.keyed k)

/-- The held recipe of a key. -/
def Cache.recipe? (k : Key) (c : Cache) : Option Recipe := (c.entries.find? (CacheEntry.keyed k)).map CacheEntry.recipe

/-- The pin count of a held key, 0 where it is not held. -/
def Cache.pinsOf (k : Key) (c : Cache) : Nat := ((c.entries.find? (CacheEntry.keyed k)).map CacheEntry.pins).getD 0

/-- The wanted list holds the key. -/
def Cache.wants (k : Key) (c : Cache) : Bool := c.wanted.any fun w => w.key == k

/-- A touch: the entry takes rank 1 (R18). -/
def Cache.touch (k : Key) (c : Cache) : Cache :=
  { c with entries := c.entries.filter (CacheEntry.keyed k) ++ c.entries.filter (fun e => !e.keyed k) }

/-- A flush or an eviction: the entry and a scheduled answer for its key go (R20, R24, R26). -/
def Cache.discard (k : Key) (c : Cache) : Cache :=
  { c with entries := c.entries.filter (fun e => !e.keyed k), answers := c.answers.filter (fun a => a.key != k) }

/-- One more pin. -/
def Cache.addPin (k : Key) (c : Cache) : Cache :=
  { c with entries := updateWhere (CacheEntry.keyed k) (fun e => { e with pins := e.pins + 1 }) c.entries }

/-- One pin less. -/
def Cache.dropPin (k : Key) (c : Cache) : Cache :=
  { c with entries := updateWhere (CacheEntry.keyed k) (fun e => { e with pins := e.pins - 1 }) c.entries }

/-- A newer revision of the same id is held. -/
def Cache.holdsNewer (k : Key) (c : Cache) : Bool :=
  c.entries.any fun e => e.recipe.key.id == k.id && decide (k.rev < e.recipe.key.rev)

/-- A release of a held key: the older of two revisions is flushed when its pin count falls to 0 (R20, R21). -/
def Cache.unpin (k : Key) (c : Cache) : Cache :=
  let c' := c.dropPin k
  if c'.holds k && c'.pinsOf k == 0 && c'.holdsNewer k then c'.discard k else c'

/-- A wanted record loses one waiting entry, and goes with the last (R20). -/
def Cache.unwant (k : Key) (c : Cache) : Cache :=
  let counted := updateWhere (fun w => w.key == k) (fun w => { w with waiting := w.waiting - 1 }) c.wanted
  { c with wanted := counted.filter fun w => decide (0 < w.waiting) }

/-- A carrier's release (R20). -/
def Cache.release (k : Key) (c : Cache) : Cache := if c.holds k then c.unpin k else c.unwant k

/-- A context's pin (R21). -/
def State.pinContext (key : Option Key) (s : State) : State :=
  match key with
  | some k => s.setCache (s.cache.addPin k)
  | none => s

/-- A context's release (R21). -/
def State.unpinContext (key : Option Key) (s : State) : State :=
  match key with
  | some k => s.setCache (s.cache.unpin k)
  | none => s

/-- The key of the ACTIVE context is touched (R18, R21). -/
def State.touchContext (key : Option Key) (s : State) : State :=
  match key with
  | some k => s.setCache (s.cache.touch k)
  | none => s

/-! ### Asking the line (R28 to R30) -/

/-- A RECIPE QUERY is submitted (R28). -/
def State.submitRecipeQuery (k : Key) (s : State) : State × Bool := s.submit (.recipeQuery k s.cfg.zoneIndex) .all

/-- A wanted record takes the place of the one of its key. -/
def Cache.putWanted (w : Wanted) (c : Cache) : Cache :=
  { c with wanted := updateWhere (fun x => x.key == w.key) (fun _ => w) c.wanted }

/-- The frames to the next send after an accepted query: 2 while SEEKING, 16 while UNAVAILABLE (R29, R30). -/
def Wanted.interval (w : Wanted) : Nat := if w.unavailable then 16 else 2

/-- A query of a wanted record was accepted; `sends` counts the first series alone (R28 to R30). -/
def Wanted.accepted (w : Wanted) : Wanted :=
  { w with sends := if w.unavailable then w.sends else w.sends + 1, sendDue := false, framesToNext := w.interval }

/-- A wanted record submits its query: accepted, or send due set (R28 to R30). -/
def State.sendWanted (w : Wanted) (s : State) : State :=
  match s.submitRecipeQuery w.key with
  | (s', true) => s'.setCache (s'.cache.putWanted w.accepted)
  | (s', false) => s'.setCache (s'.cache.putWanted { w with sendDue := true })

/-- A wanted record at a frame boundary (R29, R30). -/
def State.tickWanted (w : Wanted) (s : State) : State :=
  if w.sendDue then s.sendWanted w
  else
    let w' := { w with framesToNext := w.framesToNext - 1 }
    if w'.framesToNext = 0 then
      if w.unavailable = false ∧ w.sends = 3 then
        (s.setCache (s.cache.putWanted { w' with unavailable := true, framesToNext := 16 })).raise .recipeReject .unavailable
      else s.sendWanted w'
    else s.setCache (s.cache.putWanted w')

/-- The cache's frame boundary: every wanted record is taken, in the order in which they were made (R29, R30; log 51). -/
def State.tickWantedList (s : State) : State := s.cache.wanted.foldl (fun s w => s.tickWanted w) s

/-- A carrier's pin request; true is HELD, false MISSING (R19, R28). The frames to next send of a new wanted record are 0 until its first
query is accepted (log 46). -/
def State.pinCarrier (k : Key) (s : State) : State × Bool :=
  if s.cache.holds k then (s.setCache ((s.cache.addPin k).touch k), true)
  else if s.cache.wants k then
    (s.setCache
      { s.cache with wanted := updateWhere (fun w => w.key == k) (fun w => { w with waiting := w.waiting + 1 }) s.cache.wanted },
     false)
  else
    let w : Wanted :=
      { key := k, waiting := 1, sends := 0, unavailable := false, framesToNext := 0, sendDue := true }
    ((s.setCache { s.cache with wanted := s.cache.wanted ++ [w] }).sendWanted w, false)

/-! ### Answering (R31, R32) -/

/-- The delay of an answer, in slot boundaries (R31). -/
def answerDelay (own querier : Nat) : Nat := (1 + (max own querier - min own querier)) * 4

/-- An answer is scheduled, or brought forward, never put off (R31). -/
def Cache.schedule (k : Key) (delay : Nat) (c : Cache) : Cache :=
  if c.answers.any (fun a => a.key == k) then
    { c with answers := updateWhere (fun a => a.key == k) (fun a => { a with remaining := min a.remaining delay }) c.answers }
  else { c with answers := c.answers ++ [⟨k, delay⟩] }

/-- A scheduled answer for the key is cancelled (R32). -/
def Cache.cancelAnswer (k : Key) (c : Cache) : Cache := { c with answers := c.answers.filter (fun a => a.key != k) }

/-- The answer goes out: the held record, to ALL; a refusal abandons it (R32). -/
def State.sendAnswer (k : Key) (s : State) : State :=
  match s.cache.recipe? k with
  | some r => (s.submit (.recipe r) .all).1
  | none => s

/-- The cache's slot boundary: every remaining count falls by 1, and answers at 0 are sent, in the order in which they were scheduled, and
gone (R32; log 51). -/
def State.tickAnswers (s : State) : State :=
  let counted := s.cache.answers.map fun a => { a with remaining := a.remaining - 1 }
  let s' := s.setCache { s.cache with answers := counted.filter (fun a => decide (0 < a.remaining)) }
  (counted.filter fun a => a.remaining == 0).foldl (fun s a => s.sendAnswer a.key) s'

/-! ### Placing a record (R23 to R26) -/

/-- Where a valid record that met the store test goes. -/
inductive Placement where
  /-- the key is already held, with these contents (R23) -/
  | held (r : Recipe)
  /-- a new entry, after the flush of the named entry if any (R24, R25) -/
  | new (flushed : Option Key)
  /-- refused with REVISION LIMIT (R24, R25) -/
  | limit
  /-- discarded with no event (R25) -/
  | ignored
  deriving DecidableEq, Repr

/-- The entries of a recipe id. -/
def Cache.revisions (id : Nat) (c : Cache) : List CacheEntry := c.entries.filter fun e => e.recipe.key.id == id

/-- The entry of the greatest revision in a list. -/
def newestOf : List CacheEntry → Option CacheEntry
  | [] => none
  | e :: rest =>
    match newestOf rest with
    | some n => if e.recipe.key.rev < n.recipe.key.rev then some n else some e
    | none => some e

/-- The placement of a record by the revisions of its id already held (R22, step 4; R23 to R25). -/
def Cache.placement (r : Recipe) (c : Cache) : Placement :=
  match c.recipe? r.key with
  | some h => .held h
  | none =>
    let revs := c.revisions r.key.id
    match newestOf revs with
    | none => .new none
    | some newest =>
      if newest.recipe.key.rev < r.key.rev then
        if newest.pins = 0 then .new (some newest.recipe.key)
        else if revs.length = 1 then .new none else .limit
      else if c.wants r.key then
        if revs.length = 1 then .new none else .limit
      else .ignored

/-- The store test (R22, step 3). -/
def Cache.storeTest (published : Bool) (r : Recipe) (c : Cache) : Bool :=
  c.wants r.key || !(c.revisions r.key.id).isEmpty || published

/-- Room for a new entry: with all 16 places taken, the unpinned entry of highest rank number goes, also where it is the newer revision of
the id that is stored (R25, R26; log 54). -/
def Cache.makeRoom (c : Cache) : Cache :=
  if c.entries.length < 16 then c
  else
    match findLast (fun e => e.pins == 0) c.entries with
    | some e => c.discard e.recipe.key
    | none => c

/-- The waiting count of a wanted key, 0 where the key is not wanted. -/
def Cache.waitingFor (k : Key) (c : Cache) : Nat := ((c.wanted.find? fun w => w.key == k).map Wanted.waiting).getD 0

/-- The store: a new entry at rank 1, pinned for the entries that waited; the wanted record goes (R27). -/
def Cache.store (r : Recipe) (c : Cache) : Cache :=
  { c with
    entries := ⟨r, c.waitingFor r.key⟩ :: c.entries
    wanted := c.wanted.filter fun w => w.key != r.key }

/-- A flush before a store, where the placement asks for one (R24). -/
def Cache.flushFor (k : Option Key) (c : Cache) : Cache :=
  match k with
  | some k => c.discard k
  | none => c

end Sys2Proof.Machine
end

