-- ==== Sys2Proof/Machine/Dose.lean ====
section
/-! DEFINITION. The dose integrator: open zone records, slot records, slot reports, the cycle span, frame verdicts and the
closing of a record (chapter 7). -/

namespace Sys2Proof.Machine

open Sys2Proof

/-- What a READING measured: a signed current in 0.1 A, positive forward, and a voltage in 0.1 V (chapter 6). -/
structure Measured where
  current : Int
  voltage : Nat
  deriving DecidableEq, Repr

/-- The slot report of the bridge link (R113), with the slot's serial number (log 35). -/
structure SlotReport where
  slot : Nat
  serial : Nat
  duration : Nat
  reading : Option Measured
  accepted : Setpoint
  cls : DirClass
  trip : Bool
  deriving DecidableEq, Repr

/-! ### Marking open records (R128) -/

/-- One carrier's open record takes `f`; a carrier with none is passed over (R128). -/
def Dose.markTag (tag : Nat) (f : OpenRecord → OpenRecord) (d : Dose) : Dose :=
  { d with records := updateWhere (fun r => r.tag == tag) f d.records }

/-- Every open record takes `f`; one stands for each PRESENT entry (R40). -/
def Dose.markAll (f : OpenRecord → OpenRecord) (d : Dose) : Dose := { d with records := d.records.map f }

/-- A flag is set on one carrier's open record. -/
def State.flagTag (tag : Nat) (f : ZoneFlag) (s : State) : State := s.setDose (s.dose.markTag tag (OpenRecord.set f))

/-- A flag is set on the open record of every PRESENT entry. -/
def State.flagAll (f : ZoneFlag) (s : State) : State := s.setDose (s.dose.markAll (OpenRecord.set f))

/-! ### Opening a record (R124, R125) -/

/-- The own zone's target of a recipe in 0.1 A·s/dm², 0 where it names none (R125). -/
def Recipe.zoneTarget (zone : Nat) (r : Recipe) : Nat := ((r.targets.find? fun z => z.zone == zone).map ZoneTarget.target).getD 0

/-- The held recipe that an entry names. -/
def State.recipeOf (e : Entry) (s : State) : Option Recipe :=
  match e.record.recipe with
  | some k => s.cache.recipe? k
  | none => none

/-- The target is fixed once, when the entry names a held recipe (R125). -/
def OpenRecord.fix (zone area : Nat) (recipe : Option Recipe) (r : OpenRecord) : OpenRecord :=
  match recipe with
  | some rec => if r.targetFixed then r else { r with target := rec.zoneTarget zone * area, targetFixed := true }
  | none => r

/-- The target of an entry's open record, if it has one, is fixed where R125 lets it be. -/
def State.fixTarget (e : Entry) (s : State) : State :=
  s.setDose (s.dose.markTag e.tag (OpenRecord.fix s.cfg.zoneIndex e.record.area (s.recipeOf e)))

/-- A record as it opens (R124). -/
def OpenRecord.fresh (tag : Nat) : OpenRecord where
  tag := tag
  forward := 0
  reverse := 0
  target := 0
  targetFixed := false
  recipeUsed := none
  minScale := 8
  frames := 0
  history := []
  deviations := 0
  flags := 0

/-- The opening of an entry's zone record (R124). -/
def State.openRecord (e : Entry) (s : State) : State :=
  let fresh := OpenRecord.setIf (e.record.carrierId == 0) .unidentified (OpenRecord.fresh e.tag)
  (s.setDose { s.dose with records := s.dose.records ++ [fresh] }).fixTarget e

/-! ### Slot records (R126) -/

/-- More than one recipe value among the PRESENT entries, none counting as a value (R126). -/
def mixedRecipes (table : List Entry) : Bool :=
  match table.filter Entry.present with
  | [] => false
  | e :: rest => rest.any fun x => x.record.recipe != e.record.recipe

/-- A REVERSE segment in force, run as REST. -/
def SlotRecord.reverseAsRest (r : SlotRecord) : Bool := r.segment == some .reverse && r.runAsRest

/-- The minimum reverse scale after a slot record (R126). -/
def SlotRecord.scaleAfter (r : SlotRecord) (old : Nat) : Nat :=
  if r.reverseAsRest then 0
  else if r.segment = some .reverse ∧ r.mode = .normal then min old r.scale else old

/-- A slot record applied to an open record (R126); `mixed` and `anode` are what the tracker and the condition monitor show. -/
def SlotRecord.applyTo (r : SlotRecord) (mixed anode : Bool) (o : OpenRecord) : OpenRecord :=
  let o := o.setIf (r.mode == .holding) .held
  let o := o.setIf r.reverseAsRest .forwardOnly
  let o := o.setIf (r.mode == .normal && decide (2 ≤ r.scale) && decide (r.scale ≤ 7)) .reduced
  let o := o.setIf r.clamped .clamped
  let o := o.setIf mixed .mixed
  let o := o.setIf anode .anode
  { o with minScale := r.scaleAfter o.minScale, recipeUsed := if r.key.isSome then r.key else o.recipeUsed }

/-- The two youngest of a list. -/
def lastTwo {α : Type} (xs : List α) : List α := xs.drop (xs.length - 2)

/-- The integrator takes a slot record (R126, R128). Two are stored, so the record of a slot is gone once the second slot after it has begun
(R126, R127; log 68). -/
def State.takeSlotRecord (r : SlotRecord) (s : State) : State :=
  let d := { s.dose with slotRecords := lastTwo (s.dose.slotRecords ++ [r]) }
  s.setDose (d.markAll (r.applyTo (mixedRecipes s.tracker.table) (s.mon.isDeclared .anodeVoltage)))

/-- The integrator takes an area snapshot (R49). -/
def Dose.takeSnapshot (snap : Snapshot) (d : Dose) : Dose := { d with snapshots := lastTwo (d.snapshots ++ [snap]) }

/-- A renumbering retags the stored slot record of the slot in progress, which, once taken, is the youngest stored (R126). -/
def Dose.retag (serial new : Nat) (d : Dose) : Dose :=
  match d.slotRecords.getLast? with
  | some r => if r.serial = serial then { d with slotRecords := d.slotRecords.dropLast ++ [{ r with slot := new }] } else d
  | none => d

/-! ### The cycle span (R129, R131) -/

/-- NORMAL and FORWARD-ONLY form one mode class (R129). -/
def Mode.plates (m : Mode) : Bool := m == .normal || m == .forwardOnly

/-- The mode, key and cycle start of a report's slot record; a slot with none stored is taken as OFF (R127, step 1). -/
def SlotRecord.absent (slot serial : Nat) : SlotRecord where
  slot := slot
  serial := serial
  mode := .off
  key := none
  cycle := 64
  tolerance := 0
  segment := none
  runAsRest := false
  scale := 0
  cycleStart := false
  clamped := false
  setpoint := Setpoint.atRest

/-- The slot record a report finds (R127, step 1; log 35). -/
def Dose.recordFor (slot serial : Nat) (d : Dose) : SlotRecord :=
  (findSlot SlotRecord.slot SlotRecord.serial slot serial d.slotRecords).getD (SlotRecord.absent slot serial)

/-- The snapshot a report finds (R130; log 35). -/
def Dose.snapshotFor (slot serial : Nat) (d : Dose) : Option Snapshot :=
  findSlot Snapshot.slot Snapshot.serial slot serial d.snapshots

/-- The verdict of a span: true is OUT (R131). -/
def Span.out (p : Span) : Bool :=
  decide (p.commanded * p.tolerance < (max p.measured p.commanded - min p.measured p.commanded) * 100)

/-- A closed span is judged when it is whole and not spoiled (R129). -/
def Span.judged (p : Span) : Bool := !p.spoiled && p.count == p.cycle

/-- A cycle verdict shifted into one record (R131). -/
def OpenRecord.shiftVerdict (threshold : Nat) (out : Bool) (r : OpenRecord) : OpenRecord :=
  let history := (out :: r.history).take 8
  let r' := { r with history := history, deviations := if out then min 255 (r.deviations + 1) else r.deviations }
  r'.setIf (decide (threshold ≤ history.count true)) .deviation

/-- The close of the span in progress at a cycle start (R129, R131). -/
def Dose.closeSpan (threshold : Nat) (d : Dose) : Dose :=
  match d.span with
  | some p =>
    if p.judged then { (d.markAll (OpenRecord.shiftVerdict threshold p.out)) with span := none } else { d with span := none }
  | none => d

/-- A span as it opens with a report (R129). -/
def SlotRecord.newSpan (r : SlotRecord) (serial commanded measured : Nat) : Span where
  serial := serial
  key := r.key
  cycle := r.cycle
  tolerance := r.tolerance
  count := 1
  commanded := commanded
  measured := measured
  spoiled := false

/-- The opening of a span by a cycle start in NORMAL or FORWARD-ONLY (R129). -/
def Dose.openSpan (r : SlotRecord) (commanded measured : Nat) (d : Dose) : Dose :=
  if r.mode.plates then
    { d with span := some (r.newSpan d.spanSerial commanded measured), spanSerial := d.spanSerial + 1 }
  else d

/-- A later report counted by a span (R129). -/
def Span.add (r : SlotRecord) (commanded measured : Nat) (p : Span) : Span :=
  { p with
    count := p.count + 1
    commanded := p.commanded + commanded
    measured := p.measured + measured
    spoiled := p.spoiled || !(r.mode.plates && r.key == p.key) }

/-- The cycle span takes a report's slot record and forward charges (R129). A cycle start closes the span before it without spoiling it,
whatever its own key and mode are (log 58). -/
def Dose.spanStep (threshold : Nat) (r : SlotRecord) (commanded measured : Nat) (d : Dose) : Dose :=
  if r.cycleStart then (d.closeSpan threshold).openSpan r commanded measured
  else { d with span := d.span.map (Span.add r commanded measured) }

/-! ### Slot reports (R127, R130) -/

/-- A charge credited to one carrier's open record (R130). -/
def Dose.credit (tag : Nat) (forward : Bool) (charge : Nat) (d : Dose) : Dose :=
  d.markTag tag fun r =>
    if forward then { r with forward := satCharge (r.forward + charge) } else { r with reverse := satCharge (r.reverse + charge) }

/-- One entry's share of a charge (R130). -/
def Snapshot.shareOf (snap : Snapshot) (charge area : Nat) : Nat := charge * area / snap.total

/-- A measured charge divided by a snapshot: each entry its share rounded down, the oldest also the remainder, which is the whole
charge when the total area is 0 (R130). -/
def Dose.divide (snap : Snapshot) (forward : Bool) (charge : Nat) (d : Dose) : Dose :=
  match snap.shares with
  | [] => d
  | oldest :: rest =>
    let given := ((oldest :: rest).map fun x => snap.shareOf charge x.area).sum
    let d' := (oldest :: rest).foldl (fun d x => d.credit x.tag forward (snap.shareOf charge x.area)) d
    d'.credit oldest.tag forward (charge - given)

/-- A slot's measured charge divided by the snapshot of its slot; with none stored it is credited to no carrier (R130; log 35). -/
def Dose.apportion (slot serial : Nat) (forward : Bool) (charge : Nat) (d : Dose) : Dose :=
  match d.snapshotFor slot serial with
  | some snap => d.divide snap forward charge
  | none => d

/-- UNPLATED on the entries of a slot's snapshot that are still PRESENT (R127, step 7). -/
def Dose.unplate (slot serial : Nat) (d : Dose) : Dose :=
  match d.snapshotFor slot serial with
  | some snap => { d with records := updateWhere (fun r => snap.shares.any fun x => x.tag == r.tag) (OpenRecord.set .unplated) d.records }
  | none => d

/-- The charge of a current over a slot, in 0.1 A·µs (chapter 7). -/
def chargeOf (current duration : Nat) : Nat := current * duration

/-- The commanded forward charge of a report (R127, step 2). -/
def SlotReport.cmdF (r : SlotReport) : Nat := if r.accepted.dir = .fwd then chargeOf r.accepted.current r.duration else 0

/-- The commanded reverse charge of a report (R127, step 2). -/
def SlotReport.cmdR (r : SlotReport) : Nat := if r.accepted.dir = .rev then chargeOf r.accepted.current r.duration else 0

/-- The measured charge of a report, 0 with no reading (R127, step 3). -/
def SlotReport.measured (r : SlotReport) : Nat :=
  match r.reading with
  | some m => chargeOf m.current.natAbs r.duration
  | none => 0

/-- The reading is positive, or there is none. -/
def SlotReport.forward (r : SlotReport) : Bool :=
  match r.reading with
  | some m => decide (0 ≤ m.current)
  | none => true

/-- The measured forward charge of a report. -/
def SlotReport.measF (r : SlotReport) : Nat := if r.forward then r.measured else 0

/-- The measured reverse charge of a report. -/
def SlotReport.measR (r : SlotReport) : Nat := if r.forward then 0 else r.measured

/-- The voltage test of a report; a limit of 0 turns it off (R127, step 5). -/
def SlotReport.anodeHigh (limit : Nat) (r : SlotReport) : Bool :=
  match r.reading with
  | some m => r.cls == .fwd && limit != 0 && decide (limit < m.voltage)
  | none => false

/-- What a reading adds wherever it is taken: measured charges, the voltage test and the division among carriers (R127, steps 4
to 6). -/
def Dose.takeReading (limit : Nat) (r : SlotReport) (d : Dose) : Dose :=
  let d' := { d with measF := d.measF + r.measF, measR := d.measR + r.measR, anodeHigh := d.anodeHigh || r.anodeHigh limit }
  d'.apportion r.slot r.serial r.forward r.measured

/-- A slot report (R127). -/
def Dose.takeReport (threshold limit : Nat) (r : SlotReport) (d : Dose) : Dose :=
  let d := { d with cmdF := d.cmdF + r.cmdF, cmdR := d.cmdR + r.cmdR }
  let d := d.spanStep threshold (d.recordFor r.slot r.serial) r.cmdF r.measF
  let d := d.takeReading limit r
  if r.cls = .off then d.unplate r.slot r.serial else d

/-- A late reading joins the span that counted the first report, if that span is still open (R127, last paragraph). -/
def Dose.lateSpan (counted : Option Nat) (charge : Nat) (d : Dose) : Dose :=
  { d with span := d.span.map fun p => if some p.serial = counted then { p with measured := p.measured + charge } else p }

/-- A report that replaces a report with no reading for the same slot adds only what that one left out; `counted` is the span that
counted that one (R127, last paragraph; log 36). -/
def Dose.replaceReport (counted : Option Nat) (limit : Nat) (r : SlotReport) (d : Dose) : Dose :=
  (d.lateSpan counted r.measF).takeReading limit r

/-- The bridge link hands a slot report. -/
def State.handReport (r : SlotReport) (s : State) : State :=
  s.setDose (s.dose.takeReport s.cfg.deviationThreshold s.cfg.anodeVoltageLimit r)

/-- The bridge link hands a report in place of one with no reading. -/
def State.handLateReport (counted : Option Nat) (r : SlotReport) (s : State) : State :=
  s.setDose (s.dose.replaceReport counted s.cfg.anodeVoltageLimit r)

/-! ### The frame (R132, R133) -/

/-- The REVERSE DEFICIT verdict: true is bad (R132, step 1). -/
def Dose.deficit (d : Dose) : Bool := d.cmdR != 0 && decide (d.measR * 100 < d.cmdR * 85)

/-- The DOSE DEVIATION state: true is OUT (R133). -/
def State.deviationOut (s : State) : Bool :=
  match s.tracker.dominant with
  | some tag =>
    match s.dose.records.find? fun r => r.tag == tag with
    | some r => decide (s.cfg.deviationThreshold ≤ r.history.count true)
    | none => false
  | none => false

/-- The accumulators return to 0, and frames in zone rises by 1 on every open record (R132, steps 4 and 5). -/
def Dose.newFrame (d : Dose) : Dose :=
  { (d.markAll fun r => { r with frames := sat16 (r.frames + 1) }) with
    measF := 0, measR := 0, cmdF := 0, cmdR := 0, anodeHigh := false }

/-- The integrator's frame boundary (R132). -/
def State.doseFrame (s : State) : State :=
  let s := s.verdict .reverseDeficit s.dose.deficit .frames
  let s := s.verdict .anodeVoltage s.dose.anodeHigh .frames
  let s := s.followDeviation s.deviationOut
  s.setDose s.dose.newFrame

/-! ### Closing a record (R134, R135, R179) -/

/-- A charge in mA·s (R134, step 2). -/
def toMilliAmpSeconds (charge : Nat) : Nat := min (charge / 10000) 4294967295

/-- UNDERDOSE (R135); `tolerance` is that of the entry's recipe. -/
def OpenRecord.underdose (tolerance : Nat) (r : OpenRecord) : Bool :=
  decide (0 < r.target) && decide (toMilliAmpSeconds r.forward * 100 < r.target * (100 - tolerance))

/-- The history byte: place 1 in bit 7, a filled place 1 for OUT, an empty place 0 (R179). -/
def historyByte (history : List Bool) : BitVec 8 :=
  (List.range 8).foldl (fun b i => if history.getD i false then b ||| BitVec.twoPow 8 (7 - i) else b) 0#8

/-- The closed zone record (R134, R179). -/
def OpenRecord.close (zone station tolerance : Nat) (r : OpenRecord) : ZoneRecord :=
  { zone := zone
    station := station
    recipeId := keyId r.recipeUsed
    recipeRev := keyRev r.recipeUsed
    minScale := r.minScale
    fill := r.history.length
    flags := (r.setIf (r.underdose tolerance) .underdose).flags
    forward := toMilliAmpSeconds r.forward
    reverse := toMilliAmpSeconds r.reverse
    target := r.target
    frames := r.frames
    deviations := r.deviations
    history := historyByte r.history }

/-- The closing of an entry's open record: the closed record, and the state without the open one (R134). -/
def State.closeRecord (e : Entry) (s : State) : Option ZoneRecord × State :=
  let tolerance := ((s.recipeOf e).map Recipe.tolerance).getD 0
  ((s.dose.records.find? fun r => r.tag == e.tag).map (OpenRecord.close s.cfg.zoneIndex s.cfg.stationAddress tolerance),
   s.setDose { s.dose with records := s.dose.records.filter fun r => r.tag != e.tag })

end Sys2Proof.Machine
end

