-- ==== Sys2Proof/Machine/Claims.lean ====
section
/-! DEFINITION. The slot map's arithmetic and its own claim pair: run currents, the derived view, the tests, planning candidates,
CLAIM submissions, plan requests and abandonment (chapter 4). -/

namespace Sys2Proof.Machine

open Sys2Proof

/-! ### Run currents (R70) -/

/-- The current of a run: density × zone window area × scale / 80000, rounded up, lowered to the reverse rating (R70). -/
def runCurrent (cfg : Cfg) (density scale : Nat) : Nat :=
  min ((density * cfg.zoneWindowArea * scale + 79999) / 80000) cfg.reverseRating

/-- A pattern's run as a claim run at a scale. -/
def Run.claim (cfg : Cfg) (scale : Nat) (r : Run) : ClaimRun := ⟨r.start, r.len, runCurrent cfg r.density scale⟩

/-- A pattern placed at an offset and a scale (R75). -/
def Pattern.place (cfg : Cfg) (offset scale : Nat) (p : Pattern) : ClaimPart :=
  ⟨p.cycle, offset, scale, p.runs.map (Run.claim cfg scale)⟩

/-- A part matches a pattern: the same cycle length, and run by run the same start, the same length and the current of R70 at the
part's scale (R90). -/
def ClaimPart.matches (cfg : Cfg) (p : Pattern) (c : ClaimPart) : Bool :=
  c.cycle == p.cycle && c.runs == p.runs.map (Run.claim cfg c.scale)

/-! ### What a part covers (R62) -/

/-- The place of frame slot `s` in the repetition of a run: (s - p - b) mod N (R62). -/
def ClaimPart.phase (c : ClaimPart) (r : ClaimRun) (s : Nat) : Nat := (s + 2 * c.cycle - c.offset - r.start) % c.cycle

/-- The run covers frame slot `s`. -/
def ClaimPart.runCovers (c : ClaimPart) (s : Nat) (r : ClaimRun) : Bool := decide (c.phase r s < r.len)

/-- The part covers frame slot `s`. -/
def ClaimPart.covers (s : Nat) (c : ClaimPart) : Bool := c.runs.any (c.runCovers s)

/-- The part's current in frame slot `s`. -/
def ClaimPart.current (s : Nat) (c : ClaimPart) : Nat := ((c.runs.find? (c.runCovers s)).map ClaimRun.current).getD 0

/-- The part's onset count in frame slot `s`: 1 when it is the onset of a run. -/
def ClaimPart.onsets (s : Nat) (c : ClaimPart) : Nat := if c.runs.any fun r => c.phase r s == 0 then 1 else 0

/-- A part that may be absent covers frame slot `s`. -/
def coversOpt (s : Nat) (c : Option ClaimPart) : Bool := c.any (ClaimPart.covers s)

/-! ### The derived view and its tests (R66) -/

/-- Every active and pending part of the peers. -/
def SlotMap.allParts (m : SlotMap) : List ClaimPart := m.peers.flatMap fun p => p.active.toList ++ p.pending.toList

/-- The active parts of the peers. -/
def SlotMap.activeParts (m : SlotMap) : List ClaimPart := m.peers.flatMap fun p => p.active.toList

/-- The parts the commit re-check counts: all active parts, and the pending parts of lower addresses. -/
def SlotMap.recheckParts (own : Nat) (m : SlotMap) : List ClaimPart :=
  m.peers.flatMap fun p => p.active.toList ++ (if p.address < own then p.pending.toList else [])

/-- The load of frame slot `s` over some parts. -/
def loadOf (parts : List ClaimPart) (s : Nat) : Nat := (parts.map (ClaimPart.current s)).sum

/-- The onset count of frame slot `s` over some parts. -/
def onsetsOf (parts : List ClaimPart) (s : Nat) : Nat := (parts.map (ClaimPart.onsets s)).sum

/-- A test fails at a slot that the own part covers and that is over budget or over onsets (R66). -/
def failsAt (cfg : Cfg) (parts : List ClaimPart) (own : ClaimPart) (s : Nat) : Bool :=
  own.covers s
    && (decide (cfg.lineReverseBudget < loadOf parts s + own.current s)
      || decide (cfg.onsetLimit < onsetsOf parts s + own.onsets s))

/-- The slots at which a test fails. -/
def failingSlots (cfg : Cfg) (parts : List ClaimPart) (own : ClaimPart) : List Nat :=
  (List.range 64).filter (failsAt cfg parts own)

/-- A part fits: the test fails at no slot. -/
def fits (cfg : Cfg) (parts : List ClaimPart) (own : ClaimPart) : Bool := (List.range 64).all fun s => !failsAt cfg parts own s

/-- The objection test against the sender: a failing slot that the sender's active part covers, or its pending part when its
address is lower than own (R76). -/
def objects (cfg : Cfg) (own : ClaimPart) (sender : Peer) (m : SlotMap) : Bool :=
  (failingSlots cfg m.allParts own).any fun s =>
    coversOpt s sender.active || (coversOpt s sender.pending && decide (sender.address < cfg.stationAddress))

/-- The active conflict test against the sender (R79). -/
def conflicts (cfg : Cfg) (own : ClaimPart) (sender : Peer) (m : SlotMap) : Bool :=
  decide (sender.address < cfg.stationAddress)
    && (failingSlots cfg m.activeParts own).any fun s => coversOpt s sender.active

/-! ### Planning candidates (R73) -/

/-- The offsets in the order they are tried: from (own zone index × 5) mod N on (R73). -/
def candidateOffsets (cfg : Cfg) (cycle : Nat) : List Nat :=
  (List.range cycle).map fun k => (cfg.zoneIndex * 5 + k) % cycle

/-- The scales in the order they are tried (R73). -/
def candidateScales : List Nat := [8, 7, 6, 5, 4, 3, 2]

/-- The first offset that fits at a scale. -/
def planAt (cfg : Cfg) (parts : List ClaimPart) (p : Pattern) (scale : Nat) : Option ClaimPart :=
  ((candidateOffsets cfg p.cycle).map fun offset => p.place cfg offset scale).find? (fits cfg parts)

/-- The first candidate that fits at one of the scales. -/
def planOver (cfg : Cfg) (parts : List ClaimPart) (p : Pattern) : List Nat → Option ClaimPart
  | [] => none
  | scale :: rest =>
    match planAt cfg parts p scale with
    | some c => some c
    | none => planOver cfg parts p rest

/-- The placement that planning finds, none when the plan fails (R73). -/
def SlotMap.planned (cfg : Cfg) (p : Pattern) (m : SlotMap) : Option ClaimPart := planOver cfg m.allParts p candidateScales

/-! ### CLAIM submissions (R61, R67) -/

/-- The own pair as a CLAIM carries it. -/
def State.ownPair (s : State) : ClaimBody := ⟨s.cfg.zoneIndex, s.map.active, s.map.pending⟩

/-- The own pair is empty: state IDLE. -/
def SlotMap.pairEmpty (m : SlotMap) : Bool := m.active.isNone && m.pending.isNone

/-- The map after the queue's answer to a CLAIM submission (R67). -/
def SlotMap.answered (accepted : Bool) (m : SlotMap) : SlotMap :=
  if accepted then { m with sendDue := false, dueAtFrame := false, refresh := 0, calls := false }
  else { m with sendDue := true, dueAtFrame := false, calls := false }

/-- A CLAIM with the own pair is submitted. -/
def State.sendClaim (s : State) : State :=
  match s.submit (.claim s.ownPair) .all with
  | (s', accepted) => s'.setMap (s'.map.answered accepted)

/-- The station state and the pair allow a CLAIM submission: JOINED, and in LOCKOUT the withdrawal frame with neither part while a CLAIM
is still owed, whatever made it owed (R61, R68, R83; log 44). -/
def State.mayClaim (s : State) : Bool :=
  s.station.state == .joined || (s.station.state == .lockout && s.map.sendDue && s.map.pairEmpty)

/-- A submission of the own pair; one that the state forbids is not made, and send due is cleared (R61). -/
def State.submitClaim (s : State) : State :=
  if s.mayClaim then s.sendClaim else s.setMap { s.map with sendDue := false, dueAtFrame := false, calls := false }

/-- The one CLAIM submission of an event whose changes called for one (R63, R85; log 23). -/
def State.flushClaim (s : State) : State := if s.map.calls then s.submitClaim else s

/-! ### Plan requests and abandonment (R71, R77, R81) -/

/-- The own pending part is abandoned with a frame: the pair changes and the window count becomes none. -/
def SlotMap.abandon (m : SlotMap) : SlotMap :=
  if m.pending.isSome then { m with pending := none, window := none, calls := true } else m

/-- A plan request; one for another pattern than the standing one abandons the own pending part (R71). -/
def SlotMap.ask (p : Pattern) (m : SlotMap) : SlotMap :=
  if m.request = some p then m else { m.abandon with request := some p }

/-- A cleared plan request clears SLOT STARVED with DEMAND GONE (R71, R84). -/
def State.clearStarved (s : State) : State := s.clearCond .slotStarved .demandGone

/-- The plan request is cancelled, and the own pending part abandoned (R71). SLOT STARVED is cleared before the CLAIM of the event is
submitted (log 63). -/
def State.cancelPlan (s : State) : State := (s.setMap { s.map.abandon with request := none }).clearStarved

/-- The map takes a plan request unless it is inert (R60). -/
def State.askPlan (p : Pattern) (s : State) : State := if s.map.live then s.setMap (s.map.ask p) else s

/-- The hold of a yield: 1 + (own address mod 4) × yield count (R77). -/
def yieldHold (address yields : Nat) : Nat := 1 + (address % 4) * yields

/-- A yield (R77). -/
def SlotMap.yield (address : Nat) (m : SlotMap) : SlotMap :=
  let yields := min 3 (m.yieldCount + 1)
  { m with pending := none, window := none, yieldCount := yields, hold := max m.hold (yieldHold address yields), calls := true }

end Sys2Proof.Machine
end

