-- ==== Sys2Proof/Machine/Lane.lean ====
section
/-! DEFINITION. The bridge link's command lane: placing messages, setpoints handed by the waveform engine, and the slot log
(chapter 6). -/

namespace Sys2Proof.Machine

open Sys2Proof

/-! ### Ratings (R92, R106, R114) -/

/-- The rating of a direction in 0.1 A; REST has none. -/
def ratingOf (cfg : Cfg) (d : Dir) : Nat :=
  match d with
  | .fwd => 10 * cfg.forwardRating
  | .rev => 10 * cfg.reverseRating
  | .rest => 0

/-- A setpoint lowered to the rating of its direction; one of current 0 is REST (R106). -/
def Setpoint.lowered (cfg : Cfg) (sp : Setpoint) : Setpoint :=
  let current := min sp.current (ratingOf cfg sp.dir)
  if current = 0 then Setpoint.atRest else ⟨sp.dir, current⟩

/-! ### The buffer (R107) -/

/-- A MARK of the buffer. -/
def LaneMsg.isMark : LaneMsg → Bool
  | .mark _ => true
  | .setpoint _ => false
  | .off => false

/-- A SETPOINT of the buffer. -/
def LaneMsg.isSetpoint : LaneMsg → Bool
  | .mark _ => false
  | .setpoint _ => true
  | .off => false

/-- An OFF of the buffer. -/
def LaneMsg.isOff : LaneMsg → Bool
  | .mark _ => false
  | .setpoint _ => false
  | .off => true

/-- A SETPOINT placed: discarded behind a waiting OFF, in place of a waiting SETPOINT, or at the tail (R107). -/
def Bridge.placeSetpoint (sp : Setpoint) (b : Bridge) : Bridge :=
  if b.buffer.any LaneMsg.isOff then b
  else if b.buffer.any LaneMsg.isSetpoint then
    { b with buffer := updateWhere LaneMsg.isSetpoint (fun _ => .setpoint sp) b.buffer }
  else { b with buffer := b.buffer ++ [.setpoint sp] }

/-- An OFF placed: in place of a waiting SETPOINT, or at the tail; one that already waits stays (R107). -/
def Bridge.placeOff (b : Bridge) : Bridge :=
  if b.buffer.any LaneMsg.isOff then b
  else if b.buffer.any LaneMsg.isSetpoint then { b with buffer := updateWhere LaneMsg.isSetpoint (fun _ => .off) b.buffer }
  else { b with buffer := b.buffer ++ [.off] }

/-- A MARK placed at the tail; a waiting MARK is removed (R107). -/
def Bridge.placeMark (log : SlotLog) (b : Bridge) : Bridge :=
  { b with buffer := b.buffer.filter (fun m => !m.isMark) ++ [.mark log] }

/-- The log of a waiting MARK. -/
def Bridge.waitingMark (b : Bridge) : Option SlotLog :=
  b.buffer.findSome? fun m =>
    match m with
    | .mark log => some log
    | .setpoint _ => none
    | .off => none

/-! ### The slot log (R113, R114) -/

/-- The class of a direction. -/
def Dir.cls : Dir → DirClass
  | .rest => .rest
  | .fwd => .fwd
  | .rev => .rev

/-- The setpoint in force by what was last sent (log 30). -/
def LastSent.inForce : LastSent → Setpoint
  | .setpoint sp => sp
  | .off => Setpoint.atRest
  | .none => Setpoint.atRest

/-- A fresh log for the slot that begins, whose number, serial number and duration it takes as the slot ends, by the bridge state and the setpoint in force (R109, R113, R114). In OFF it is opened too, for
the slot's OFF report (log 50). -/
def Bridge.openLog (slot : Nat) (b : Bridge) : SlotLog where
  fromOff := b.state == .off
  serial := 0
  slot := slot
  duration := 0
  accepted := none
  reference := b.lastSent.inForce.current
  cls := if b.state = .off then .off else if b.state = .changing then .mixed else b.lastSent.inForce.dir.cls
  trip := false

/-- A class after a SETPOINT of a direction ended in the slot (R113). -/
def DirClass.joined (d : Dir) (c : DirClass) : DirClass :=
  if c = .off then .off else if c = d.cls then c else .mixed

/-- A class after the bridge state was CHANGING (R113). -/
def DirClass.changed (c : DirClass) : DirClass := if c = .off then .off else .mixed

/-- The log of a slot that no boundary opened: the slot in progress when the slot clock starts, which begins in OFF (log 50). -/
def SlotLog.first : SlotLog where
  fromOff := true
  serial := 0
  slot := 0
  duration := 0
  accepted := none
  reference := 0
  cls := .off
  trip := false

/-- The log of the slot in progress takes `f`. -/
def Bridge.logSlot (f : SlotLog → SlotLog) (b : Bridge) : Bridge := { b with log := some (f (b.log.getD SlotLog.first)) }

/-- A SETPOINT ended in the slot (R113, R114). -/
def SlotLog.ended (sp : Setpoint) (l : SlotLog) : SlotLog :=
  { l with reference := max l.reference sp.current, cls := l.cls.joined sp.dir }

/-- The setpoint accepted for the slot is the first one handed for it (R113; log 32). -/
def SlotLog.accept (sp : Setpoint) (l : SlotLog) : SlotLog := { l with accepted := some (l.accepted.getD sp) }

/-! ### Setpoints handed (R106, R110, R111, R117) -/

/-- A setpoint in REST, FORWARD or REVERSE: placed, unless no SETPOINT waits and it equals last sent (R110; log 31). -/
def Bridge.driveSetpoint (sp : Setpoint) (b : Bridge) : Bridge :=
  if b.lastSent = .setpoint sp ∧ b.buffer.any LaneMsg.isSetpoint = false then b else b.placeSetpoint sp

/-- A setpoint in CHANGING: F or R is held; REST is placed and drops the held one (R111). -/
def Bridge.holdSetpoint (sp : Setpoint) (b : Bridge) : Bridge :=
  if sp.dir = .rest then { b.placeSetpoint sp with held := none } else { b with held := some sp }

/-- The bridge state refuses setpoints (R106, R117). -/
def BridgeState.refuses (st : BridgeState) : Bool := st == .off || st == .tripped

/-- A lowered setpoint taken by the bridge state. -/
def Bridge.takeSetpoint (sp : Setpoint) (b : Bridge) : Bridge :=
  match b.state with
  | .off => b
  | .tripped => b
  | .changing => b.holdSetpoint sp
  | .rest => b.driveSetpoint sp
  | .forward => b.driveSetpoint sp
  | .reverse => b.driveSetpoint sp

/-- A setpoint recorded as accepted: in the open log of its slot, or kept until that log opens (the paragraph before R110; log
32). -/
def Bridge.recordAccepted (slot : Nat) (logOpen : Bool) (sp : Setpoint) (b : Bridge) : Bridge :=
  if logOpen then b.logSlot (SlotLog.accept sp) else { b with early := some ⟨slot, sp⟩ }

/-- A setpoint handed for the slot that begins at a boundary. -/
def State.handSlotSetpoint (sp : Setpoint) (s : State) : State :=
  let sp' := sp.lowered s.cfg
  let b := s.bridge.takeSetpoint sp'
  if s.bridge.state.refuses then s
  else s.setBridge (b.recordAccepted s.boundary.begun (!s.boundary.owed.contains .bridgeSlot) sp')

/-- A setpoint handed between boundaries, by an immediate stop or at a commit in slot 0 (R94, R99, R100). -/
def State.handSetpointNow (sp : Setpoint) (s : State) : State := s.setBridge (s.bridge.takeSetpoint (sp.lowered s.cfg))

end Sys2Proof.Machine
end

