-- ==== Sys2Proof/Machine/Engine.lean ====
section
/-! DEFINITION. The waveform engine: contexts, plan requests, setpoints and slot records, and the notices it takes (chapter 5). -/

namespace Sys2Proof.Machine

open Sys2Proof

/-! ### Contexts (R88 to R90) -/

/-- The phase offset of a context without a placement: (own zone index × 5) mod N (R89). -/
def homeOffset (cfg : Cfg) (cycle : Nat) : Nat := (cfg.zoneIndex * 5) % cycle

/-- The own active part, if it matches the pattern (R90). -/
def State.matching (p : Pattern) (s : State) : Option ClaimPart := s.map.active.filter (ClaimPart.matches s.cfg p)

/-- The part that lets a pattern run NORMAL: JOINED with a matching own active part (R89). -/
def State.usablePart (p : Pattern) (s : State) : Option ClaimPart :=
  if s.station.state = .joined then s.matching p else none

/-- A context running NORMAL on a part (R89). -/
def Context.onPart (part : ClaimPart) (c : Context) : Context :=
  { c with mode := .normal, offset := part.offset, scale := part.scale, ceilings := part.runs.map ClaimRun.current }

/-- The mode, offset, scale and ceilings of a context that carries a recipe key, decided anew (R89). -/
def State.decideMode (c : Context) (s : State) : Context :=
  match c.pattern with
  | none => { c with mode := .normal, offset := homeOffset s.cfg c.cycle, scale := 8, ceilings := [] }
  | some p =>
    match s.usablePart p with
    | some part => c.onPart part
    | none => { c with mode := .forwardOnly, offset := homeOffset s.cfg c.cycle, scale := 0, ceilings := [] }

/-- The HOLDING context of a carrier (R88). -/
def holdingContext (cfg : Cfg) (carrier : Nat) : Context :=
  { Context.bare .holding (some carrier) with segments := [⟨.forward, 64, cfg.holdingDensity⟩] }

/-- The context of a carrier with a held recipe (R88). -/
def State.recipeContext (carrier : Nat) (r : Recipe) (s : State) : Context :=
  s.decideMode
    { Context.bare .normal (some carrier) with
      key := some r.key, cycle := r.cycle, segments := r.segments, pattern := r.pattern, needsClaim := r.pattern.isSome }

/-- The held recipe under which a carrier is plated, unless its recipe pending flag is set; a carrier that has departed is plated under
the key it left with, while the cache holds it (R88; log 21). -/
def State.carrierRecipe (carrier : Nat) (s : State) : Option Recipe :=
  match s.carrier? carrier with
  | some e => if e.recipePending then none else s.recipeOf e
  | none => none

/-- The context built for a carrier (R88, R89). -/
def State.contextFor (carrier : Option Nat) (s : State) : Context :=
  if s.station.state.setpoints then
    match carrier with
    | none => Context.bare .rest none
    | some tag =>
      match s.carrierRecipe tag with
      | some r => s.recipeContext tag r
      | none => holdingContext s.cfg tag
  else Context.bare .off none

/-- The ready flag of a PREPARED context, decided at its build (R90). -/
def State.readyAtBuild (c : Context) (s : State) : Bool :=
  match c.pattern with
  | none => true
  | some p => !(c.mode == .normal || c.mode == .forwardOnly) || s.station.state != .joined || (s.matching p).isSome

/-- A context without the fields that a PREPARED context alone has. -/
def Context.activated (c : Context) : Context := { c with ready := false, readyByFailure := false }

/-- The ACTIVE context is replaced: the new one pins and touches its key, then the old one releases its own (R18, R21; log 22). -/
def State.putActive (c : Context) (s : State) : State :=
  let old := s.engine.active.key
  let s := (s.pinContext c.key).touchContext c.key
  (s.setEngine { s.engine with active := c }).unpinContext old

/-- The ACTIVE context is built for a carrier; during a trip rest it is REST and keeps the carrier (R88, R89, R103). -/
def State.buildActive (carrier : Option Nat) (s : State) : State :=
  if s.engine.tripRest then s.putActive (Context.bare .rest carrier)
  else s.putActive (s.contextFor carrier)

/-- The key of the PREPARED context. -/
def Engine.preparedKey (e : Engine) : Option Key :=
  match e.prepared with
  | some c => c.key
  | none => none

/-- The governing carrier of the PREPARED context. -/
def Engine.preparedCarrier (e : Engine) : Option Nat :=
  match e.prepared with
  | some c => c.carrier
  | none => none

/-- The PREPARED context is discarded and its key released (R96); committed in rest stays as it is (R103; log 64). -/
def State.discardPrepared (s : State) : State :=
  (s.setEngine { s.engine with prepared := none }).unpinContext s.engine.preparedKey

/-- A PREPARED context is built for a carrier in place of the one that stands, if any (R96); committed in rest stays as it is (log 64). -/
def State.buildPrepared (carrier : Nat) (s : State) : State :=
  let old := s.engine.preparedKey
  let c := s.contextFor (some carrier)
  let s := s.pinContext c.key
  (s.setEngine { s.engine with prepared := some { c with ready := s.readyAtBuild c } }).unpinContext old

/-- The PREPARED context, if present, is built anew for its carrier (R87, R99, R100). -/
def State.rebuildPrepared (s : State) : State :=
  match s.engine.preparedCarrier with
  | some tag => s.buildPrepared tag
  | none => s

/-- The swap: the PREPARED context becomes ACTIVE, its mode re-decided, its pin moves, and the outgoing context is released (R21,
R95, step 2). -/
def State.swapPrepared (s : State) : State :=
  match s.engine.prepared with
  | some c =>
    let c := (if c.key.isSome then s.decideMode c else c).activated
    let old := s.engine.active.key
    ((s.setEngine { s.engine with active := c, prepared := none }).touchContext c.key).unpinContext old
  | none => s

/-! ### Plan requests (R97) -/

/-- The settled owner and the request it gives (R97). -/
def State.settled (s : State) : Owner × Option Pattern :=
  if s.station.state.setpoints then
    if s.engine.active.mode = .forwardOnly ∧ s.engine.active.pattern.isSome then (.active, s.engine.active.pattern)
    else
      match s.engine.prepared with
      | some c => if c.ready = false ∨ c.readyByFailure then (.prepared, c.pattern) else (.none, none)
      | none => (.none, none)
  else (.none, none)

/-- The requested pattern is given, kept, replaced or cancelled (R97). -/
def State.giveRequest (owner : Owner) (p : Option Pattern) (s : State) : State :=
  let old := s.engine.requested
  let s := s.setEngine { s.engine with owner := owner, requested := p }
  if p = old then s
  else
    match p with
    | some p => s.askPlan p
    | none => s.cancelPlan

/-- The request is settled (R97). -/
def State.settle (s : State) : State := s.giveRequest s.settled.1 s.settled.2

/-- The standing request is cancelled (R96, R97). -/
def State.cancelRequest (s : State) : State :=
  if s.engine.requested.isSome then (s.setEngine { s.engine with owner := .none, requested := none }).cancelPlan else s

/-! ### Setpoints (R91 to R94) -/

/-- The segment in force at a cycle position, with the position it begins at (R91). -/
def segmentAt : Nat → List Segment → Nat → Option Segment
  | _, [], _ => none
  | start, g :: rest, pos => if pos < start + g.len then some g else segmentAt (start + g.len) rest pos

/-- The cycle position of a slot: (s - p) mod N (R91). -/
def Context.position (c : Context) (slot : Nat) : Nat := (slot + c.cycle - c.offset) % c.cycle

/-- The cycle positions of a run contain a position (R16). -/
def Run.covers (cycle pos : Nat) (r : Run) : Bool := decide ((pos + cycle - r.start) % cycle < r.len)

/-- The ceiling of the run that covers a position, among the runs of a pattern and their ceilings in the same order (R93). -/
def ceilingAt (cycle pos : Nat) : List Run → List Nat → Nat
  | r :: rs, c :: cs => if r.covers cycle pos then c else ceilingAt cycle pos rs cs
  | _, _ => 0

/-- What a slot hands: the setpoint, whether its current was clamped, and whether a REVERSE segment was run as REST. -/
structure SlotDrive where
  setpoint : Setpoint
  clamped : Bool
  asRest : Bool
  deriving DecidableEq, Repr

/-- A current handed in a direction; 0 is handed as REST (R92, R93), and a REVERSE segment whose current is 0 does not count as run as REST
(R94, R126; log 71). -/
def driveOf (dir : Dir) (formed limit : Nat) : SlotDrive :=
  if min formed limit = 0 then ⟨Setpoint.atRest, decide (limit < formed), false⟩
  else ⟨⟨dir, min formed limit⟩, decide (limit < formed), false⟩

/-- The forward current in 0.1 A: d × A / 1000, rounded down (R92). -/
def forwardCurrent (density area : Nat) : Nat := density * area / 1000

/-- The reverse current in 0.1 A: d × A × s / 8000, rounded down (R93). -/
def reverseCurrent (density area scale : Nat) : Nat := density * area * scale / 8000

/-- The ceiling of a slot in 0.1 A: ten times that of the covering run, at most ten times the reverse rating (R93). -/
def reverseLimit (cfg : Cfg) (c : Context) (pos : Nat) : Nat :=
  let ceiling :=
    match c.pattern with
    | some p => ceilingAt c.cycle pos p.runs c.ceilings
    | none => 0
  min (10 * ceiling) (10 * cfg.reverseRating)

/-- The drive of a segment in a slot (R92, R93). -/
def State.drive (c : Context) (slot : Nat) (g : Segment) (s : State) : SlotDrive :=
  match g.kind with
  | .rest => ⟨Setpoint.atRest, false, false⟩
  | .forward => driveOf .fwd (forwardCurrent g.density s.engine.area) (10 * s.cfg.forwardRating)
  | .reverse =>
    if c.mode = .normal ∧ coversOpt slot s.map.active then
      driveOf .rev (reverseCurrent g.density s.engine.area c.scale) (reverseLimit s.cfg c (c.position slot))
    else ⟨Setpoint.atRest, false, true⟩

/-- The setpoint and the slot record of a slot that begins, formed on a context (R91 to R94). -/
def State.slotRecordFor (c : Context) (slot : Nat) (s : State) : SlotRecord :=
  let segment := segmentAt 0 c.segments (c.position slot)
  let d : SlotDrive :=
    match segment with
    | some g => s.drive c slot g
    | none => ⟨Setpoint.atRest, false, false⟩
  let recipe :=
    match c.key with
    | some k => s.cache.recipe? k
    | none => none
  { slot := slot
    serial := s.boundary.serial
    mode := c.mode
    key := c.key
    cycle := c.cycle
    tolerance := (recipe.map Recipe.tolerance).getD 0
    segment := segment.map Segment.kind
    runAsRest := d.asRest
    scale := if c.mode = .forwardOnly then 0 else c.scale
    cycleStart := segment.isSome && c.position slot == 0
    clamped := d.clamped
    setpoint := d.setpoint }

/-- The context that governs a slot: REST during a trip rest, and in the slot at whose boundary the rest ended (R103, R117; log
33). -/
def Engine.governing (e : Engine) : Context :=
  if e.restThisSlot then Context.bare .rest e.active.carrier else e.active

/-- The engine's slot boundary (R91 to R94): the setpoint to the bridge link while the station state allows setpoints, and the slot
record to the dose integrator. A context without segments forms no cycle position; 0 is held (log 47). -/
def State.engineSlot (s : State) : State :=
  let slot := s.boundary.begun
  let c := s.engine.governing
  let r := s.slotRecordFor c slot
  let s := s.setEngine { s.engine with restThisSlot := false, cyclePos := if c.segments.isEmpty then 0 else c.position slot }
  if s.station.state.setpoints then
    ((s.setEngine { s.engine with setpoint := r.setpoint }).handSlotSetpoint r.setpoint).takeSlotRecord r
  else s.takeSlotRecord r

/-! ### The hand-over (R95) -/

/-- The carrier is none or has departed. -/
def State.goneCarrier (carrier : Option Nat) (s : State) : Bool :=
  match carrier with
  | some tag => (s.entry? tag).isNone
  | none => true

/-- The recipe key that a carrier names. -/
def State.namedKey (carrier : Option Nat) (s : State) : Option Key :=
  match carrier with
  | some tag =>
    match s.carrier? tag with
    | some e => e.record.recipe
    | none => none
  | none => none

/-- LATE on the carrier's open record when the rebuilt context runs FORWARD-ONLY while JOINED (R95, R104). -/
def State.markLate (carrier : Option Nat) (s : State) : State :=
  if s.engine.active.mode = .forwardOnly ∧ s.station.state = .joined then
    match carrier with
    | some tag => s.flagTag tag .late
    | none => s
  else s

/-- Step 1: a PREPARED context for another carrier than F is discarded (R95). -/
def State.dropStale (forecast : Option Nat) (s : State) : State :=
  match s.engine.prepared with
  | some c => if c.carrier = forecast then s else s.discardPrepared
  | none => s

/-- The PREPARED context is ready for D (R95, step 2). -/
def Engine.readyFor (dominant : Option Nat) (e : Engine) : Bool :=
  match e.prepared with
  | some c => c.ready && c.carrier == dominant
  | none => false

/-- Step 3's test: D is a new governing carrier (R95). -/
def State.mustRebuild (dominant : Option Nat) (s : State) : Bool :=
  dominant != s.engine.active.carrier
    && (dominant != s.engine.lastDominant || s.goneCarrier s.engine.active.carrier)

/-- Step 3's discard of a PREPARED context for D (R95). -/
def State.dropPreparedFor (dominant : Option Nat) (s : State) : State :=
  if s.engine.prepared.isSome && s.engine.preparedCarrier == dominant then s.discardPrepared else s

/-- Steps 2 to 4: swap, rebuild, or rebuild for a changed recipe (R95). Step 4 is the ACTIVE context's alone: a PREPARED context in HOLDING
whose carrier takes an identity with a held recipe stays as it was built (R102; log 72). -/
def State.followDominant (dominant : Option Nat) (s : State) : State :=
  if s.engine.readyFor dominant then s.swapPrepared
  else if s.mustRebuild dominant then ((s.buildActive dominant).markLate dominant).dropPreparedFor dominant
  else if dominant = s.engine.active.carrier ∧ dominant.isSome ∧ s.namedKey dominant ≠ s.engine.active.key then
    s.buildActive dominant
  else s

/-- Step 5: with no dominant carrier the ACTIVE context is REST (R95). -/
def State.restIfNone (dominant : Option Nat) (s : State) : State :=
  if dominant.isNone ∧ s.engine.active.mode ≠ .rest then s.buildActive none else s

/-- Step 6: a PREPARED context for a forecast that does not govern already (R95). -/
def State.prepareFor (forecast : Option Nat) (s : State) : State :=
  match forecast with
  | some tag =>
    if forecast ≠ s.engine.active.carrier ∧ s.engine.prepared.isNone then s.buildPrepared tag else s
  | none => s

/-- Step 7: the request is settled; the request of a PREPARED context discarded as stale is cancelled first, unless it passes to the
ACTIVE context (R95, R96). -/
def State.settleAfter (stale : Bool) (s : State) : State :=
  if stale ∧ ¬(s.settled.1 = .active ∧ s.settled.2 = s.engine.requested) then s.cancelRequest.settle else s.settle

/-- The PREPARED context that owns the request is stale (R96). -/
def Engine.staleOwner (forecast : Option Nat) (e : Engine) : Bool :=
  match e.prepared with
  | some c => e.owner == .prepared && c.carrier != forecast
  | none => false

/-- The engine takes the frame boundary hand-over: in OFF it records the dominant carrier alone; during a trip rest it makes no
swap and no rebuild of the ACTIVE context (R86, R95, R103). -/
def State.handOver (dominant forecast : Option Nat) (s : State) : State :=
  let record (s : State) : State := s.setEngine { s.engine with lastDominant := dominant }
  if s.engine.active.mode = .off then record s
  else
    let stale := s.engine.staleOwner forecast
    let s := s.dropStale forecast
    let s := if s.engine.tripRest then s else s.followDominant dominant
    record (((s.restIfNone dominant).prepareFor forecast).settleAfter stale)

/-! ### Notices of the slot map (R98 to R100) -/

/-- A failed plan (R98). -/
def State.planFailed (s : State) : State :=
  if s.engine.owner = .prepared then
    (s.setEngine { s.engine with prepared := s.engine.prepared.map fun c => { c with ready := true, readyByFailure := true } }).settle
  else s.settle

/-- The ACTIVE context is re-decided, if it carries a recipe key (R89). -/
def State.redecideActive (s : State) : State :=
  if s.engine.active.key.isSome then s.setEngine { s.engine with active := s.decideMode s.engine.active } else s

/-- A PREPARED context was ready for the part before: it has a pattern, and no failed plan set it ready. It matched the part when it was
built, or a commit in a trip rest set it ready (R90, R99, R100). -/
def Context.readyOnPart (c : Context) : Bool := c.ready && !c.readyByFailure && c.pattern.isSome

/-- A PREPARED context that was ready for the part before is built anew (R99, R100). -/
def State.renewPrepared (s : State) : State :=
  match s.engine.prepared with
  | some c => if c.readyOnPart then s.rebuildPrepared else s
  | none => s

/-- MIXED on the outgoing governing carrier, if it is still PRESENT and not the new one (R99). -/
def State.markMixed (outgoing : Option Nat) (s : State) : State :=
  match outgoing with
  | some tag => if s.engine.active.carrier = some tag then s else s.flagTag tag .mixed
  | none => s

/-- The setpoint for slot 0 handed anew, when one from the old context was handed before the commit, is reverse, and stands in a
slot that the new part does not cover (R99, last paragraph). Where it covers the slot the old setpoint stays, whatever the new ceiling
(log 76). The cycle position stays the one taken at the slot boundary (log 65). -/
def State.rehand (s : State) : State :=
  if s.boundary.owed.contains .engineSlot ∨ s.engine.tripRest ∨ s.engine.setpoint.dir ≠ .rev
      ∨ coversOpt s.boundary.begun s.map.active then s
  else
    let sp := (s.slotRecordFor s.engine.active s.boundary.begun).setpoint
    (s.setEngine { s.engine with setpoint := sp }).handSetpointNow sp

/-- A commit (R99). -/
def State.commitNotice (s : State) : State :=
  let s := s.setEngine { s.engine with requested := none }
  if s.engine.owner = .prepared then
    if s.engine.tripRest then
      (s.setEngine
        { s.engine with
          committedInRest := true
          prepared := s.engine.prepared.map fun c => { c with ready := true, readyByFailure := false } }).settle
    else
      let outgoing := s.engine.active.carrier
      ((s.swapPrepared).markMixed outgoing).settle.rehand
  else ((s.redecideActive).renewPrepared).settle.rehand

/-- The immediate stop (R100). -/
def State.stopReverse (s : State) : State :=
  if s.engine.setpoint.dir = .rev then
    (s.setEngine { s.engine with setpoint := Setpoint.atRest }).handSetpointNow Setpoint.atRest
  else s

/-- The requested pattern after a withdrawal: none where the withdrawal cleared the plan request, and standing where it did not
(R79 to R81, R100; log 24). -/
def State.forgetRequest (s : State) : State :=
  if s.map.request.isNone then s.setEngine { s.engine with requested := none } else s

/-- A withdrawal of the own active part (R100). -/
def State.withdrawNotice (s : State) : State := ((s.stopReverse.redecideActive).renewPrepared).forgetRequest.settle

/-! ### Slip, recipes, trips, station states (R87, R101 to R104) -/

/-- A slip: a context with reverse runs is rebuilt, in FORWARD-ONLY since the own part has gone (R101). -/
def State.engineSlip (s : State) : State :=
  if s.engine.active.pattern.isSome then (s.buildActive s.engine.active.carrier).settle else s

/-- A context is HOLDING for a carrier that names the key (R102). -/
def State.holdsFor (k : Key) (c : Context) (s : State) : Bool := c.mode == .holding && s.namedKey c.carrier == some k

/-- A missing recipe becomes available (R102). -/
def State.recipeAvailable (k : Key) (s : State) : State :=
  let s := if s.holdsFor k s.engine.active then s.buildActive s.engine.active.carrier else s
  let s :=
    match s.engine.prepared with
    | some c => if s.holdsFor k c then s.rebuildPrepared else s
    | none => s
  s.settle

/-- A trip; a second one during the rest changes nothing (R103). -/
def State.engineTrip (s : State) : State :=
  if s.engine.tripRest then s
  else
    let carrier := s.engine.active.carrier
    let s := s.setEngine { s.engine with tripRest := true, preTrip := carrier, setpoint := Setpoint.atRest }
    (s.buildActive carrier).settle

/-- The end of a trip rest (R104). A setpoint still owed for the slot that begins is REST (R117; log 33). Committed in rest is cleared in
both cases, where R104 says it of the swap alone (log 48). A PREPARED context that is not ready stays, also where the ACTIVE context is now
built for its carrier (log 70). -/
def State.engineRestEnd (s : State) : State :=
  if s.engine.tripRest then
    let s := s.setEngine
      { s.engine with tripRest := false, restThisSlot := s.boundary.owed.contains .engineSlot }
    let swap :=
      match s.engine.prepared with
      | some c => c.ready && (s.engine.committedInRest || c.carrier == s.engine.lastDominant)
      | none => false
    let s :=
      if swap then s.swapPrepared
      else
        let s' := s.buildActive s.engine.lastDominant
        if s.engine.lastDominant = s.engine.preTrip then s' else s'.markLate s.engine.lastDominant
    (s.setEngine { s.engine with committedInRest := false }).settle
  else s

/-- The carrier for which a change of station state rebuilds the ACTIVE context (R87). -/
def Engine.rebuildCarrier (e : Engine) : Option Nat := if e.active.carrier.isSome then e.active.carrier else e.lastDominant

/-- Entry to JOINED, JOINED to LISTENING, and entry to ISOLATED: both contexts are built anew (R87). -/
def State.engineRebuild (s : State) : State :=
  ((s.buildActive s.engine.rebuildCarrier).rebuildPrepared).settle

/-- Entry to LISTENING from SELF-TEST or LOCKOUT (R87). -/
def State.engineListen (s : State) : State := (s.buildActive s.engine.lastDominant).settle

/-- Entry to LOCKOUT; the station state is LOCKOUT already, so the ACTIVE context is built OFF, and it governs the slot at whose boundary
a trip rest ended as it governs every other (R87, R94). -/
def State.engineLockout (s : State) : State :=
  let s := s.setEngine { s.engine with tripRest := false, committedInRest := false, restThisSlot := false }
  (s.discardPrepared.cancelRequest).buildActive none

end Sys2Proof.Machine
end

