-- ==== Sys2Proof/Machine/SlotMap.lean ====
section
/-! DEFINITION. The slot map's events: withdrawals, slips, applied peer frames, frame ends, and the slot and frame boundary
(chapter 4). -/

namespace Sys2Proof.Machine

open Sys2Proof

/-! ### Withdrawal (R79 to R83) -/

/-- Both own parts and the plan request go (R81). The yield count and the hold stay. -/
def SlotMap.emptied (m : SlotMap) : SlotMap :=
  { m with active := none, pending := none, window := none, unneeded := 0, request := none }

/-- The CLAIM of a withdrawal: the frame with neither part in JOINED, and in LOCKOUT where the cause is the lockout; elsewhere the
queued CLAIM is taken back (R61, R81, R83; log 25), and a CLAIM still owed, the one of a lockout included, is owed no more (log 62). -/
def State.withdrawalClaim (lockout : Bool) (s : State) : State :=
  if s.station.state = .joined ∨ lockout then s.sendClaim
  else
    (s.setBus s.bus.takeBackClaim).setMap { s.map with sendDue := false, dueAtFrame := false, calls := false }

/-- A withdrawal request (R81). -/
def State.withdraw (lockout : Bool) (s : State) : State :=
  ((s.setMap s.map.emptied).clearStarved.withdrawalClaim lockout).withdrawNotice

/-- The own active part alone is withdrawn, by an active conflict or by unneeded expiry (R79, R80). -/
def SlotMap.dropActive (m : SlotMap) : SlotMap := { m with active := none, unneeded := 0, calls := true }

/-- A slip, or an aligning renumbering, empties the peer claim table (R82). -/
def SlotMap.forgetPeers (m : SlotMap) : SlotMap := { m with peers := [] }

/-- A slip as the slot map takes it; a map that is still inert has nothing to withdraw (R60, R82). A hold above 8 that runs already stands,
as R72 has it (log 69). -/
def State.mapSlip (s : State) : State :=
  let s := (s.setMap s.map.forgetPeers).withdraw false
  s.setMap { s.map with hold := max s.map.hold 8 }

/-! ### The peer claim table (R64, R65) -/

/-- A record takes its place by rising address, in place of the record of its address. -/
def insertPeer (p : Peer) : List Peer → List Peer
  | [] => [p]
  | x :: xs =>
    if x.address = p.address then p :: xs
    else if p.address < x.address then p :: x :: xs
    else x :: insertPeer p xs

/-- The table after an applied frame, and whether the frame was applied (R64). -/
def SlotMap.applyFrame (p : Peer) (m : SlotMap) : SlotMap × Bool :=
  if p.active.isNone ∧ p.pending.isNone then
    ({ m with peers := m.peers.filter fun x => x.address != p.address }, true)
  else if (m.peers.any fun x => x.address == p.address) ∨ m.peers.length < 47 then
    ({ m with peers := insertPeer p m.peers }, true)
  else (m, false)

/-- Every age rises by 1, and records that reach 24 go (R65). -/
def SlotMap.agePeers (m : SlotMap) : SlotMap :=
  { m with peers := (m.peers.map fun p => { p with age := p.age + 1 }).filter fun p => decide (p.age < 24) }

/-! ### Own tests after an applied frame (R76, R79) -/

/-- The active conflict test: at a conflict the own active part is withdrawn at once (R79). -/
def State.testConflict (sender : Peer) (s : State) : State :=
  match s.map.active with
  | some own =>
    if conflicts s.cfg own sender s.map then (s.setMap s.map.dropActive).withdrawNotice else s
  | none => s

/-- The objection test: at an objection the own pending part yields (R76, R77). -/
def State.testObjection (sender : Peer) (s : State) : State :=
  match s.map.pending with
  | some own => if objects s.cfg own sender s.map then s.setMap (s.map.yield s.cfg.stationAddress) else s
  | none => s

/-- An applied frame and the own tests (R63, steps 4 and 5). The engine takes the notice of a conflict's withdrawal, and may ask for another
plan, before the objection test (R97, R100; log 55). -/
def State.applyClaim (p : Peer) (s : State) : State :=
  let (m, applied) := s.map.applyFrame p
  if applied then (((s.setMap m).testConflict p).testObjection p).flushClaim else s.setMap m

/-! ### Frames that end (R68) -/

/-- A CLAIM frame sent (R68). -/
def SlotMap.claimSent (c : ClaimBody) (m : SlotMap) : SlotMap :=
  if c.pending.isSome ∧ c.pending = m.pending ∧ m.window.isNone then { m with window := some 0 } else m

/-- A CLAIM frame dropped after 8 collisions: a pending part that no peer heard is abandoned without a frame; otherwise the pair is
owed at the next frame boundary (R68). -/
def SlotMap.claimDropped (c : ClaimBody) (m : SlotMap) : SlotMap :=
  if c.pending.isSome ∧ c.pending = m.pending ∧ m.window.isNone then { m with pending := none }
  else { m with sendDue := true, dueAtFrame := true }

/-! ### The boundary (R67, R68, R72, R78, R80, R85) -/

/-- The window count at a slot boundary (R68). -/
def SlotMap.tickWindow (m : SlotMap) : SlotMap := { m with window := m.window.map fun n => min 127 (n + 1) }

/-- What a frame boundary tells the engine after its steps (log 24). -/
structure MapNotices where
  committed : Bool
  failed : Bool
  deriving DecidableEq, Repr

/-- The needs-claim flag is read; at 16 the own active part is withdrawn, which the flag handed back tells (R80). -/
def SlotMap.readNeed (needs : Bool) (m : SlotMap) : SlotMap × Bool :=
  if m.active.isNone then (m, false)
  else if needs then ({ m with unneeded := 0 }, false)
  else if m.unneeded + 1 = 16 then (m.dropActive, true)
  else ({ m with unneeded := m.unneeded + 1 }, false)

/-- The commit (R78). -/
def SlotMap.commit (m : SlotMap) : SlotMap :=
  { m with
    active := m.pending, pending := none, window := none, yieldCount := 0, unneeded := 0, request := none, calls := true }

/-- The window has closed. -/
def SlotMap.windowClosed (m : SlotMap) : Bool :=
  match m.window with
  | some n => decide (64 ≤ n)
  | none => false

/-- The commit re-check: true when the pending part has committed (R78). SLOT STARVED is cleared here, and the CLAIM of the event follows
at its end (R85; log 63). -/
def State.closeWindow (s : State) : State × Bool :=
  match s.map.pending with
  | some own =>
    if s.map.windowClosed then
      if fits s.cfg (s.map.recheckParts s.cfg.stationAddress) own then
        ((s.setMap s.map.commit).clearCond .slotStarved .commit, true)
      else (s.setMap (s.map.yield s.cfg.stationAddress), false)
    else (s, false)
  | none => (s, false)

/-- Planning is allowed (R72). -/
def State.mayPlan (s : State) : Bool :=
  s.station.state == .joined && !s.mon.isDeclared .busErrors && s.map.hold == 0 && s.map.pending.isNone

/-- Planning: the standing request is placed, or the plan fails; true when it failed (R72 to R75). -/
def State.plan (s : State) : State × Bool :=
  match s.map.request with
  | some p =>
    if s.mayPlan then
      match s.map.planned s.cfg p with
      | some part => (s.setMap { s.map with pending := some part, window := none, calls := true }, false)
      | none => ((s.setMap { s.map with hold := 8 }).declareCond .slotStarved .planFailed, true)
    else (s, false)
  | none => (s, false)

/-- A refresh falls due, or a CLAIM is owed, so that the frame boundary calls for a submission (R67 to R69). -/
def SlotMap.refreshed (m : SlotMap) : SlotMap :=
  let refresh := min 8 (m.refresh + 1)
  { m with refresh := refresh, calls := m.calls || m.sendDue || (refresh == 8 && !m.pairEmpty) }

/-- Step 2: the needs-claim flag is read, and the engine takes the notice of an unneeded expiry within the step, before the window is
looked at (R80, R85, R100; log 24). -/
def State.expireUnneeded (s : State) : State :=
  let (m, withdrawn) := s.map.readNeed s.engine.active.needsClaim
  if withdrawn then (s.setMap m).withdrawNotice else s.setMap m

/-- The notices of a commit or of a failed plan as the engine takes them. -/
def State.tellEngine (n : MapNotices) (s : State) : State :=
  let s := if n.committed then s.commitNotice else s
  if n.failed then s.planFailed else s

/-- Step 4: the hold falls by 1, and planning runs if allowed; not at a boundary at which the window closed, since a commit cleared
the request and a failed re-check set a hold (R72, R85; log 42). -/
def State.countAndPlan (closing : Bool) (s : State) : State × Bool :=
  let s := s.setMap { s.map with hold := s.map.hold - 1 }
  if closing then (s, false) else s.plan

/-- The five steps of a frame boundary, with the notices to the engine (R85; log 24). -/
def State.mapFrame (s : State) : State :=
  let s := (s.setMap s.map.agePeers).expireUnneeded
  let closing := s.map.windowClosed && s.map.pending.isSome
  let (s, committed) := s.closeWindow
  let (s, failed) := s.countAndPlan closing
  ((s.setMap s.map.refreshed).tellEngine ⟨committed, failed⟩).flushClaim

/-- A slot boundary that is no frame boundary: a CLAIM that was refused is submitted again (R67). -/
def State.retryClaim (s : State) : State := if s.map.sendDue ∧ s.map.dueAtFrame = false then s.submitClaim else s

/-- The slot map's boundary, while it is not inert (R60). -/
def State.mapBoundary (s : State) : State :=
  if s.map.live then
    let s := s.setMap s.map.tickWindow
    if s.boundary.frame then s.mapFrame else s.retryClaim
  else s

end Sys2Proof.Machine
end

