-- ==== Sys2Proof/Machine/Clock.lean ====
section
/-! DEFINITION. The slot clock: REFIN edges, slot ends, lock states, stamps, renumbering and slip (chapter 1). -/

namespace Sys2Proof.Machine

open Sys2Proof

/-! ### Thresholds (the table at the head of chapter 1), in 0.1 µs -/

/-- The values of one reference frequency. -/
structure Thresholds where
  glitch : Instant
  loss : Instant
  bandLow : Instant
  bandHigh : Instant
  nominalSlot : Instant
  clampLow : Instant
  clampHigh : Instant
  deriving DecidableEq, Repr

/-- The table at the head of chapter 1 (R2). -/
def thresholdsOf (f : RefFreq) : Thresholds :=
  match f with
  | .hz50 => ⟨150000, 250000, 194000, 206000, 12500, 12125, 12875⟩
  | .hz60 => ⟨125000, 208330, 161670, 171670, 10417, 10104, 10729⟩

/-- The configured thresholds. -/
def State.limits (s : State) : Thresholds := thresholdsOf s.cfg.refFreq

/-- The slot length of a measured period in whole microseconds: a sixteenth, in whole microseconds rounded down, clamped (R3;
log 7). -/
def slotLengthOf (h : Thresholds) (period : Nat) : Instant := max h.clampLow (min h.clampHigh (period / 16 * 10))

/-! ### REFIN edges (R2, R3, R6 to R8) -/

/-- The class of an edge by the time since the last accepted edge (R2). -/
inductive EdgeClass where
  | start
  | glitch
  | measured (elapsed : Instant)
  deriving DecidableEq, Repr

/-- The class of an edge (R2). -/
def Clock.classify (h : Thresholds) (t : Instant) (c : Clock) : EdgeClass :=
  match c.lastEdge with
  | none => .start
  | some e =>
    if t - e < h.glitch then .glitch
    else if t - e ≤ h.loss then .measured (t - e)
    else .start

/-- A measured edge is in tolerance (R2). -/
def Thresholds.inTolerance (h : Thresholds) (elapsed : Instant) : Bool :=
  decide (h.bandLow ≤ elapsed) && decide (elapsed ≤ h.bandHigh)

/-- An accepted start edge: no measurement, both runs 0, and HOLDOVER returns to LOCKED (R2, R8). -/
def Clock.startEdge (t : Instant) (c : Clock) : Clock :=
  { c with
    lastEdge := some t
    measured := none
    goodRun := 0
    badRun := 0
    lock := if c.lock = .holdover then .locked else c.lock
    holdoverCount := if c.lock = .holdover then 0 else c.holdoverCount }

/-- An accepted measured edge before its runs are taken (R2). -/
def Clock.measure (t elapsed : Instant) (c : Clock) : Clock := { c with lastEdge := some t, measured := some (elapsed / 10) }

/-- A measured edge in UNLOCKED (R6): at the eighth in tolerance the clock is LOCKED. -/
def Clock.edgeUnlocked (h : Thresholds) (elapsed : Instant) (c : Clock) : Clock × List Task :=
  if h.inTolerance elapsed then
    if c.goodRun + 1 = 8 then
      ({ c with lock := .locked, goodRun := 0, slotLength := slotLengthOf h (elapsed / 10) }, [.lockGainedStation, .lockGainedMonitor])
    else ({ c with goodRun := c.goodRun + 1 }, [])
  else ({ c with goodRun := 0 }, [])

/-- A measured edge in LOCKED (R3, R7): at the fourth out of tolerance the clock is UNLOCKED. -/
def Clock.edgeLocked (h : Thresholds) (elapsed : Instant) (c : Clock) : Clock × List Task :=
  if h.inTolerance elapsed then ({ c with badRun := 0, slotLength := slotLengthOf h (elapsed / 10) }, [])
  else if c.badRun + 1 = 4 then ({ c with lock := .unlocked, badRun := 0, slotLength := h.nominalSlot }, [.lockLost])
  else ({ c with badRun := c.badRun + 1, slotLength := slotLengthOf h (elapsed / 10) }, [])

/-- An accepted edge but for the end of the slot: the clock and the notices it sends. In HOLDOVER no edge is a measured one, since the
last accepted edge is none there (R8). -/
def Clock.acceptEdge (h : Thresholds) (t : Instant) (k : EdgeClass) (c : Clock) : Clock × List Task :=
  match k with
  | .glitch => (c, [])
  | .start => (c.startEdge t, [])
  | .measured elapsed =>
    match c.lock with
    | .unlocked => (c.measure t elapsed).edgeUnlocked h elapsed
    | .locked => (c.measure t elapsed).edgeLocked h elapsed
    | .holdover => (c.startEdge t, [])

/-! ### Slot ends (R4, R5, R8, R9) -/

/-- The next period begins: true when it opens a frame (R9). -/
def Clock.nextPeriod (c : Clock) : Clock × Bool := ({ c with sip := 0, pif := (c.pif + 1) % 4 }, c.pif == 3)

/-- The place of the slot after an accepted edge, by the half of the period (R4). -/
def Clock.placeAfterEdge (c : Clock) : Clock × Bool := if 8 ≤ c.sip then c.nextPeriod else ({ c with sip := 0 }, false)

/-- The period end of a slot 15 that ends at its timer: in HOLDOVER it raises the holdover count, and at 8 the reference is lost (R4,
R8). -/
def Clock.periodEnd (h : Thresholds) (c : Clock) : Clock × List Task :=
  if c.lock = .holdover then
    if c.holdoverCount + 1 = 8 then
      ({ c with lock := .unlocked, holdoverCount := 0, slotLength := h.nominalSlot },
       [.refLostMonitor, .refLostStation, .refLostDose, .refLostMap])
    else ({ c with holdoverCount := c.holdoverCount + 1 }, [])
  else (c, [])

/-- The loss limit's expiry but for the end of the slot (R5, R7). -/
def Clock.loseEdge (c : Clock) : Clock :=
  { c with
    lastEdge := none
    goodRun := 0
    badRun := 0
    lock := if c.lock = .locked then .holdover else c.lock
    holdoverCount := if c.lock = .locked then 0 else c.holdoverCount }

/-- The slot timer has run out at `t`. -/
def Clock.timerDue (t : Instant) (c : Clock) : Bool := decide (c.slotStart + c.slotLength ≤ t)

/-- The loss limit has passed at `t` since the last accepted edge, in slot 15 (R5). -/
def Clock.lossDue (h : Thresholds) (t : Instant) (c : Clock) : Bool :=
  match c.lastEdge with
  | some e => decide (e + h.loss ≤ t) && c.sip == 15
  | none => false

/-! ### Start (R1) -/

/-- The clock starts slot 0 at the instant the frequency is handed over (R1). -/
def Clock.started (t : Instant) (f : RefFreq) : Clock :=
  { Clock.reset with held := false, slotLength := (thresholdsOf f).nominalSlot, slotStart := t }

/-! ### Stamps (R10) -/

/-- The verdict on a stamp. -/
inductive Verdict where
  | agree
  | early
  | disagree (q : Nat)
  | reject
  deriving DecidableEq, Repr

/-- The offset of a stamp: (r - s) mod 64 (R10). -/
def stampOffset (own stamp : Nat) : Nat := (own + 64 - stamp % 64) % 64

/-- The class of an offset (R10). -/
def verdictOf (d : Nat) : Verdict :=
  if d = 0 ∨ d = 1 then .agree
  else if d = 63 then .early
  else if d % 16 = 0 then .disagree d
  else if d % 16 = 1 then .disagree (d - 1)
  else if d % 16 = 15 then .disagree ((d + 1) % 64)
  else .reject

/-- The frame is applied for AGREE and EARLY (R10). -/
def Verdict.applies (v : Verdict) : Bool := v == .agree || v == .early

/-! ### Renumbering, alignment and slip (R11 to R14) -/

/-- The clock's own part of a renumbering by q slots (R11). -/
def Clock.renumbered (q : Nat) (c : Clock) : Clock := { c with pif := (c.pif + 4 - q / 16) % 4, tracker := [] }

/-- The number that a slot number becomes in a renumbering (R11). -/
def newNumber (q slot : Nat) : Nat := (slot + 64 - q) % 64

/-- A renumbering by q: the stored slot record of the slot in progress and the boundary still owed name the slot by its new number
(R11, R126; log 40). -/
def State.renumber (q : Nat) (s : State) : State :=
  let new := newNumber q s.clock.slot
  let s := s.setClock (s.clock.renumbered q)
  let s := s.setDose (s.dose.retag s.boundary.serial new)
  s.setBoundary { s.boundary with begun := new }

/-- A slip by q, with its notices in the order of R14's list, so that SLIP is raised before the withdrawal (R14, R82, R101, R128; log
53). -/
def State.slip (q : Nat) (s : State) : State :=
  (((s.renumber q).raise .slip .shift).mapSlip.engineSlip).flagAll .slotLost

/-- The disagreement tracker takes a disagreeing peer: its record goes to the tail (R13). -/
def Clock.disagreed (address q : Nat) (c : Clock) : Clock :=
  { c with tracker := c.tracker.filter (fun x => x.address != address) ++ [⟨address, q⟩] }

/-- Three peers disagree by the same offset (R13). -/
def Clock.slips (q : Nat) (c : Clock) : Bool := decide (3 ≤ (c.tracker.filter fun x => x.offset == q).length)

/-- The tracker takes a verdict on the stamp of a peer (R13). -/
def State.trackVerdict (address : Nat) (v : Verdict) (s : State) : State :=
  match v with
  | .agree => s.setClock { s.clock with tracker := [] }
  | .early => s
  | .reject => s.raise .slip .mismatch
  | .disagree q =>
    let c := s.clock.disagreed address q
    if c.slips q then (s.setClock c).slip q else s.setClock c

/-- The aligned flag is set. -/
def State.setAligned (s : State) : State := s.setClock { s.clock with aligned := true }

/-- A stamp judged while the aligned flag is clear: the first verdict that is no REJECT aligns the numbering (R12, R82). -/
def State.alignTo (v : Verdict) (d : Nat) (s : State) : State × Verdict :=
  match v with
  | .agree => (s.setAligned, .agree)
  | .early => (s.setAligned, .early)
  | .reject => (s.raise .slip .mismatch, .reject)
  | .disagree q =>
    let s := s.renumber q
    ((s.setMap s.map.forgetPeers).setAligned, verdictOf ((d + 64 - q) % 64))

/-- The slot clock judges a stamp from a peer (R10, R12, R13). -/
def State.judgeStamp (address stamp : Nat) (s : State) : State × Verdict :=
  let d := stampOffset s.clock.slot stamp
  let v := verdictOf d
  if s.clock.aligned then (s.trackVerdict address v, v) else s.alignTo v d

end Sys2Proof.Machine
end

