-- ==== Sys2Proof/Machine/Tracker.lean ====
section
/-! DEFINITION. The carrier tracker: records from the line, gates and travel, geometry and dominance, departure, and carrier
queries (chapter 3). -/

namespace Sys2Proof.Machine

open Sys2Proof

/-! ### Geometry and dominance (R48, R50, R52) -/

/-- The in-zone length for a leading position: the greater of 0 and min(leading, zone length) - max(trailing, 0) (R48). -/
def inZoneLength (zoneLength leading length : Nat) : Nat := min leading zoneLength - (leading - length)

/-- The in-zone area of an entry with its leading position raised by `ahead` (R48, R52). -/
def Entry.areaAhead (zoneLength ahead : Nat) (e : Entry) : Nat :=
  e.record.area * inZoneLength zoneLength (e.leading + ahead) e.length / e.length

/-- The in-zone area (R48). -/
def Entry.inZoneArea (zoneLength : Nat) (e : Entry) : Nat := e.areaAhead zoneLength 0

/-- The entry of greatest area, the older on a tie (R50). -/
def greatest (area : Entry → Nat) : List Entry → Option Entry
  | [] => none
  | e :: rest =>
    match greatest area rest with
    | some x => if area e < area x then some x else some e
    | none => some e

/-- The PRESENT entries, oldest first. -/
def presentOf (table : List Entry) : List Entry := table.filter Entry.present

/-- The dominant carrier (R50). -/
def dominantOf (zoneLength : Nat) (table : List Entry) : Option Nat :=
  (greatest (Entry.inZoneArea zoneLength) (presentOf table)).map Entry.tag

/-- The forecast: the dominant carrier two frames ahead (R52). An entry past the zone is left out on a stopped conveyor too (log 75). -/
def forecastOf (zoneLength speed : Nat) (table : List Entry) : Option Nat :=
  let ahead := 2 * speed
  let inside := (presentOf table).filter fun e => decide (e.leading + ahead ≤ zoneLength + e.length)
  (greatest (Entry.areaAhead zoneLength ahead) inside).map Entry.tag

/-- The dominant carrier formed anew (R50). -/
def State.formDominant (s : State) : State :=
  s.setTracker { s.tracker with dominant := dominantOf s.cfg.zoneLength s.tracker.table }

/-- The area snapshot of a slot that ended (R49). -/
def State.snapshot (ended serial : Nat) (s : State) : Snapshot :=
  let shares : List Share :=
    (presentOf s.tracker.table).map fun e => ⟨e.tag, e.record.carrierId, e.inZoneArea s.cfg.zoneLength⟩
  ⟨ended, serial, shares, (shares.map Share.area).sum⟩

/-! ### The table -/

/-- The table is replaced. -/
def State.setTable (table : List Entry) (s : State) : State := s.setTracker { s.tracker with table := table }

/-- The entry of a tag takes `f`. -/
def State.updateEntry (tag : Nat) (f : Entry → Entry) (s : State) : State :=
  s.setTable (updateWhere (fun e => e.tag == tag) f s.tracker.table)

/-- The id stands in the table. -/
def Tracker.hasId (id : Nat) (t : Tracker) : Bool := t.table.any fun e => e.record.carrierId == id

/-- The id stands in the retained list. -/
def Tracker.retainsId (id : Nat) (t : Tracker) : Bool := t.retained.any fun d => d.carrierId == id

/-- The oldest unannounced entry. -/
def Tracker.unannounced? (t : Tracker) : Option Entry := t.table.find? Entry.unannounced

/-- The table holds 6 entries (R35). -/
def Tracker.full (t : Tracker) : Bool := decide (6 ≤ t.table.length)

/-- TRACKING is raised (R141). The CONDITION frame that the raise may submit names the dominant carrier as it stands then; where the rule's
event also forms it anew, LENGTH, ORDER and POSITION are raised before, and UNANNOUNCED, EXIT MISSED and FORCED after (R50, R144; log
52). -/
def State.tracking (cause : Cause) (s : State) : State := s.raise .tracking cause

/-! ### Departure (R47, R53 to R55) -/

/-- The zone to which a departing record goes: the next one, or the line end (R54). -/
def nextZone (cfg : Cfg) : Nat := if cfg.lastZone ∨ cfg.zoneIndex = 48 then 0 else cfg.zoneIndex + 1

/-- A record enters the retained list unless its id is 0; the head of a full list goes first (R55). -/
def retain (d : DoseRecord) (retained : List DoseRecord) : List DoseRecord :=
  if d.carrierId = 0 then retained
  else if 4 ≤ retained.length then retained.drop (retained.length - 3) ++ [d]
  else retained ++ [d]

/-- The dose record a departing entry leaves with (R53, steps 1 and 2). -/
def Entry.departing (closed : Option ZoneRecord) (e : Entry) : DoseRecord :=
  { e.record with
    originUnknown := e.record.originUnknown || e.unannounced
    resent := false
    zones := if e.record.orderError then e.record.zones else e.record.zones ++ closed.toList }

/-- A key that may be none is released by a carrier (R20). -/
def State.releaseCarrier (key : Option Key) (s : State) : State :=
  match key with
  | some k => s.setCache (s.cache.release k)
  | none => s

/-- The departed carriers that the engine still names, with one that leaves now; it waits for its recipe no more (R88; log 21). -/
def State.recall (e : Entry) (s : State) : List Entry :=
  (s.tracker.departed ++ [{ e with recipePending := false }]).filter fun x => s.names x.tag

/-- The departure of an entry (R53): its zone record closes, it leaves the table and its pin, its record is retained and handed over.
A forecast that names the entry stands until the next frame boundary (R52; log 61). -/
def State.departEntry (e : Entry) (s : State) : State :=
  let (closed, s) := s.closeRecord e
  let d := e.departing closed
  let s := (s.setTable (s.tracker.table.filter fun x => x.tag != e.tag)).releaseCarrier e.record.recipe
  let s := s.setTracker { s.tracker with retained := retain d s.tracker.retained, departed := s.recall e }
  (s.submit (.handover d) (.zone (nextZone s.cfg))).1.formDominant

/-- The departure of the entry of a tag, if it is still in the table. -/
def State.depart (tag : Nat) (s : State) : State :=
  match s.entry? tag with
  | some e => s.departEntry e
  | none => s

/-- The trailing position exceeds the zone length by more than 25 mm (R47). -/
def Entry.pastLimit (zoneLength : Nat) (e : Entry) : Bool :=
  e.present && decide (zoneLength + gateTolerance + e.length < e.leading)

/-- A forced departure (R47); FORCED is raised after the departure has submitted its HANDOVER (log 60). -/
def State.forceDeparture (tag : Nat) (s : State) : State :=
  ((s.flagTag tag .forcedDeparture).depart tag).tracking .forced

/-- Every entry past the forced departure limit departs, the older first (R47). -/
def State.checkLimit (s : State) : State :=
  ((s.tracker.table.filter (Entry.pastLimit s.cfg.zoneLength)).map Entry.tag).foldl (fun s tag => s.forceDeparture tag) s

/-- After a change of areas, positions or lengths: the dominant carrier formed anew, and the limit checked (R43, R47, R50). -/
def State.settleTable (s : State) : State := s.formDominant.checkLimit

/-! ### Carrier queries (R56) -/

/-- The nonzero ids in the table, in table order. -/
def Tracker.ids (t : Tracker) : List Nat := (t.table.map fun e => e.record.carrierId).filter fun id => id != 0

/-- An accepted query: sends rises by 1, and the next is 4 frames away (R56). -/
def Entry.queryAccepted (e : Entry) : Entry := { e with querySends := e.querySends + 1, queryDue := false, framesToNext := 4 }

/-- A CARRIER QUERY for an unannounced entry (R56). -/
def State.queryCarrier (tag : Nat) (s : State) : State :=
  match s.submit (.carrierQuery s.cfg.zoneIndex s.tracker.ids) (.zone (s.cfg.zoneIndex - 1)) with
  | (s', true) => s'.updateEntry tag Entry.queryAccepted
  | (s', false) => s'.updateEntry tag fun e => { e with queryDue := true }

/-- One entry's query timer at a frame boundary (R56). -/
def State.tickQuery (e : Entry) (s : State) : State :=
  if e.unannounced then
    if e.queryDue then s.queryCarrier e.tag
    else if e.querySends < 3 then
      let s' := s.updateEntry e.tag fun x => { x with framesToNext := x.framesToNext - 1 }
      if e.framesToNext ≤ 1 then s'.queryCarrier e.tag else s'
    else s
  else s

/-- The query timers of every unannounced entry, in table order (R51, step 5; R56; log 51). -/
def State.tickQueries (s : State) : State := s.tracker.table.foldl (fun s e => s.tickQuery e) s

/-! ### Records arriving from the line (R36 to R39) -/

/-- An entry that a record announces, before its pin request is answered (R37, R38). RESENT is cleared in the kept record (R36). -/
def Tracker.expected (d : DoseRecord) (t : Tracker) : Entry where
  tag := t.nextTag
  present := false
  recipePending := false
  length := d.length
  leading := 0
  entryTravel := 0
  trailingSeen := false
  atExit := false
  unannounced := false
  querySends := 0
  framesToNext := 0
  queryDue := false
  record := { d with resent := false }

/-- An entry is appended at the tail and takes the next tag (R35). -/
def State.appendEntry (e : Entry) (s : State) : State :=
  s.setTracker { s.tracker with table := s.tracker.table ++ [e], nextTag := s.tracker.nextTag + 1 }

/-- The pin request for an entry's key; recipe pending follows the answer (R19, R37, R39). -/
def State.pinEntry (tag : Nat) (key : Option Key) (s : State) : State :=
  match key with
  | some k =>
    match s.pinCarrier k with
    | (s', held) => s'.updateEntry tag fun e => { e with recipePending := !held }
  | none => s.updateEntry tag fun e => { e with recipePending := false }

/-- A record becomes an EXPECTED entry at the tail (R37, R38). -/
def State.announce (d : DoseRecord) (s : State) : State :=
  let tag := s.tracker.nextTag
  (s.appendEntry (s.tracker.expected d)).pinEntry tag d.recipe

/-- The last zone record reaches the own zone index (R38). -/
def DoseRecord.outOfOrder (zone : Nat) (d : DoseRecord) : Bool :=
  match d.zones.getLast? with
  | some z => decide (zone ≤ z.zone)
  | none => false

/-- The ORDER ERROR examination of an appended or matched HANDOVER (R38). -/
def State.examineOrder (tag : Nat) (d : DoseRecord) (s : State) : State :=
  if d.outOfOrder s.cfg.zoneIndex then
    (s.updateEntry tag fun e => { e with record := { e.record with orderError := true } }).tracking .order
  else s

/-- An entry's fields after an identity match (R39). -/
def Entry.matched (d : DoseRecord) (e : Entry) : Entry :=
  { e with
    record := { d with resent := false }
    length := if e.trailingSeen then e.length else d.length
    unannounced := false
    querySends := 0
    framesToNext := 0
    queryDue := false }

/-- The length check of an identity match: the measured length is the travel between the two ENTRY edges, as R42 defines it, and not
the length field, which is held within 100..3000 mm (R39, R42; log 43). -/
def State.matchLength (e : Entry) (d : DoseRecord) (s : State) : State :=
  if e.trailingSeen && farApart e.entryTravel d.length then (s.flagTag e.tag .trackError).tracking .length else s

/-- LATE IDENTITY is set and UNIDENTIFIED cleared on an entry's open record (R39). -/
def State.markIdentified (tag : Nat) (s : State) : State :=
  s.setDose (s.dose.markTag tag fun r => (r.set .lateIdentity).clear .unidentified)

/-- The target of a tag's open record is fixed where R125 lets it be. -/
def State.fixTargetOf (tag : Nat) (s : State) : State :=
  match s.entry? tag with
  | some e => s.fixTarget e
  | none => s

/-- An identity match of a record with an unannounced entry (R39); `examine` holds for a HANDOVER. LENGTH is raised before
the pin request's RECIPE QUERY is submitted and ORDER after it (log 60), both before the dominant carrier is formed anew (log 52). -/
def State.identify (examine : Bool) (e : Entry) (d : DoseRecord) (s : State) : State :=
  let s := (s.updateEntry e.tag (Entry.matched d)).matchLength e d
  let s := ((s.markIdentified e.tag).pinEntry e.tag d.recipe).fixTargetOf e.tag
  let s := if examine then s.examineOrder e.tag d else s
  s.settleTable

/-- A checked ADMIT (R37). -/
def State.takeAdmission (d : DoseRecord) (s : State) : State :=
  let s := s.setTracker { s.tracker with retained := s.tracker.retained.filter fun x => x.carrierId != d.carrierId }
  if s.tracker.hasId d.carrierId then s
  else
    match s.tracker.unannounced? with
    | some e => s.identify false e d
    | none => if s.tracker.full then s.tracking .tableFull else s.announce d

/-- A HANDOVER appended as EXPECTED, or refused by a full table (R38, last two cases). The pin request's RECIPE QUERY is submitted before
ORDER is raised (log 60). -/
def State.appendHandover (d : DoseRecord) (s : State) : State :=
  if s.tracker.full then s.tracking .tableFull
  else (s.announce d).examineOrder s.tracker.nextTag d

/-- A checked HANDOVER (R38). -/
def State.takeRecord (d : DoseRecord) (s : State) : State :=
  if d.carrierId ≠ 0 ∧ (s.tracker.retainsId d.carrierId ∨ s.tracker.hasId d.carrierId) then s
  else
    match s.tracker.unannounced? with
    | some e =>
      if d.carrierId ≠ 0 then s.identify true e d
      else if d.resent then s
      else s.appendHandover d
    | none => if d.resent then s else s.appendHandover d

/-- A frame addressed to the own zone (R36). -/
def State.ownZone (f : RxFrame) (s : State) : Bool := f.dest == .zone s.cfg.zoneIndex

/-- An ADMIT taken from the receive queue (R36, R37). -/
def State.takeAdmitFrame (f : RxFrame) (s : State) : State :=
  if s.ownZone f then
    match checkedDoseRecord .admission f.payload with
    | some d => s.takeAdmission d
    | none => s.tracking .badRecord
  else s

/-- A HANDOVER taken from the receive queue (R36, R38). -/
def State.takeHandoverFrame (f : RxFrame) (s : State) : State :=
  if s.ownZone f then
    match checkedDoseRecord .handover f.payload with
    | some d => s.takeRecord d
    | none => s.tracking .badRecord
  else s

/-! ### Answering a CARRIER QUERY (R58) -/

/-- The ids of a CARRIER QUERY's list. -/
def queryIds : Nat → List Byte → List Nat
  | 0, _ => []
  | n + 1, bs => fieldAt32 bs 0 :: queryIds n (bs.drop 4)

/-- A CARRIER QUERY payload that is not ignored: the querier zone and the list (R58, chapter 11). -/
def readCarrierQuery (own : Nat) (payload : List Byte) : Option (Nat × List Nat) :=
  let zone := byteAt payload 0
  let count := byteAt payload 1
  let ids := queryIds count (payload.drop 2)
  if payload.length = 2 + 4 * count ∧ zone ≤ 48 ∧ zone ≠ own ∧ count ≤ 6 ∧ ids.contains 0 = false then some (zone, ids) else none

/-- A CARRIER QUERY taken from the receive queue: the youngest retained record that the list does not name goes out with RESENT set
(R58). -/
def State.takeQueryFrame (f : RxFrame) (s : State) : State :=
  if s.ownZone f then
    match readCarrierQuery s.cfg.zoneIndex f.payload with
    | some (zone, ids) =>
      match findLast (fun d => !ids.contains d.carrierId) s.tracker.retained with
      | some d => (s.submit (.handover { d with resent := true }) (.zone zone)).1
      | none => s
    | none => s
  else s

/-! ### Gates and travel (R40 to R46) -/

/-- An EXPECTED entry as it becomes PRESENT (R40). -/
def Entry.arrive (e : Entry) : Entry :=
  { e with present := true, leading := 0, entryTravel := 0, trailingSeen := false, atExit := false }

/-- The dose record of an unannounced entry (R41). -/
def unannouncedRecord (cfg : Cfg) : DoseRecord where
  carrierId := 0
  recipe := none
  area := cfg.defaultArea
  length := cfg.defaultLength
  resent := false
  orderError := false
  originUnknown := false
  zones := []

/-- An unannounced entry as it is made (R41); its frames to next query are 0 until its first query is accepted (R56; log 46). -/
def Tracker.unknownEntry (cfg : Cfg) (t : Tracker) : Entry :=
  { t.expected (unannouncedRecord cfg) with present := true, unannounced := true, queryDue := true }

/-- An accepted ENTRY edge with no EXPECTED entry (R41); UNANNOUNCED is raised after the dominant carrier is formed anew (log
52) and before the first CARRIER QUERY is submitted (log 60). -/
def State.arriveUnknown (s : State) : State :=
  if s.tracker.full then s.tracking .tableFull
  else
    let e := s.tracker.unknownEntry s.cfg
    ((((s.appendEntry e).openRecord e).formDominant).tracking .unannounced).queryCarrier e.tag

/-- An accepted ENTRY edge: the oldest EXPECTED entry becomes PRESENT, and its zone record opens (R40). -/
def State.arrive (s : State) : State :=
  match s.tracker.table.find? fun e => !e.present with
  | some e => ((s.updateEntry e.tag Entry.arrive).openRecord e.arrive).formDominant
  | none => s.arriveUnknown

/-- The ENTRY edge comes within 25 mm of travel of the last accepted one (R40). -/
def Tracker.entryGlitch (t : Tracker) : Bool :=
  match t.entryTravel with
  | some n => decide (n < gateTolerance)
  | none => false

/-- An ENTRY rising edge (R40). -/
def State.entryRise (s : State) : State :=
  if s.tracker.entryGlitch then s.tracking .entryGlitch
  else (s.setTracker { s.tracker with entryTravel := some 0 }).arrive

/-- An entry whose trailing edge has passed ENTRY (R42). -/
def Entry.measureLength (e : Entry) : Entry := { e with trailingSeen := true, length := max 100 (min 3000 e.entryTravel) }

/-- The length check of an ENTRY falling edge (R42). -/
def State.checkLength (e : Entry) (s : State) : State :=
  if !e.unannounced && farApart e.entryTravel e.record.length then (s.flagTag e.tag .trackError).tracking .length else s

/-- An ENTRY falling edge (R42); LENGTH is raised before the dominant carrier is formed anew (log 52). -/
def State.entryFall (s : State) : State :=
  match (presentOf s.tracker.table).getLast? with
  | some e =>
    if e.trailingSeen then s.tracking .noMatch
    else if e.entryTravel < gateTolerance then s.tracking .entryGlitch
    else ((s.updateEntry e.tag Entry.measureLength).checkLength e).settleTable
  | none => s.tracking .noMatch

/-- A PRESENT entry moved by 1 mm (R43). -/
def Entry.advance (e : Entry) : Entry :=
  if e.present then
    { e with
      leading := sat16 (e.leading + 1)
      entryTravel := if e.trailingSeen then e.entryTravel else sat16 (e.entryTravel + 1) }
  else e

/-- A forward count (R43). -/
def State.countForward (s : State) : State :=
  (s.setTracker
    { s.tracker with
      table := s.tracker.table.map Entry.advance
      entryTravel := s.tracker.entryTravel.map fun n => sat16 (n + 1)
      frameCount := sat16 (s.tracker.frameCount + 1) }).settleTable

/-- A backward count (R44). -/
def State.countBackward (s : State) : State :=
  if s.tracker.backwardSeen then s
  else ((s.setTracker { s.tracker with backwardSeen := true }).flagAll .trackError).tracking .backward

/-- A PRESENT entry whose leading edge has been matched to an EXIT edge. -/
def Entry.leaving (e : Entry) : Bool := e.present && e.atExit

/-- An entry whose EXIT falling edge was missed departs (R45, step 1); EXIT MISSED is raised after its HANDOVER is submitted (log 60). -/
def State.exitMissed (tag : Nat) (s : State) : State :=
  (((s.flagTag tag .forcedDeparture).flagTag tag .trackError).depart tag).tracking .exitMissed

/-- R45, step 1. -/
def State.departMissed (s : State) : State :=
  ((s.tracker.table.filter Entry.leaving).map Entry.tag).foldl (fun s tag => s.exitMissed tag) s

/-- The younger entries that a corrected entry would reach are pushed back behind it; the tags of those moved come with the table (R45).
`limit` is the leading position of the entry before. -/
def pushBack : Nat → List Entry → List Entry × List Nat
  | _, [] => ([], [])
  | limit, e :: rest =>
    if e.present then
      if e.leading < limit then
        let (rest', moved) := pushBack e.leading rest
        (e :: rest', moved)
      else
        let (rest', moved) := pushBack (limit - 1) rest
        ({ e with leading := limit - 1 } :: rest', e.tag :: moved)
    else (e :: rest, [])

/-- The table after the EXIT correction of the entry of a tag (R45, step 3). -/
def correctTable (zoneLength tag : Nat) : List Entry → List Entry × List Nat
  | [] => ([], [])
  | e :: rest =>
    if e.tag = tag then
      let (rest', moved) := pushBack zoneLength rest
      ({ e with leading := zoneLength } :: rest', e.tag :: moved)
    else
      let (rest', moved) := correctTable zoneLength tag rest
      (e :: rest', moved)

/-- R45, step 3: a matched entry more than 25 mm from the zone length is moved to it. -/
def State.correctExit (e : Entry) (s : State) : State :=
  if farApart e.leading s.cfg.zoneLength then
    let (table, moved) := correctTable s.cfg.zoneLength e.tag s.tracker.table
    (moved.foldl (fun s tag => s.flagTag tag .trackError) (s.setTable table)).tracking .position
  else s

/-- An EXIT rising edge (R45); POSITION is raised before the dominant carrier is formed anew, EXIT MISSED after its departure (log 52). -/
def State.exitRise (s : State) : State :=
  let s := s.departMissed
  match s.tracker.table.find? fun e => e.present && !e.atExit with
  | some e => ((s.correctExit e).updateEntry e.tag fun x => { x with atExit := true }).settleTable
  | none => s.tracking .noMatch

/-- An EXIT falling edge (R46). -/
def State.exitFall (s : State) : State :=
  match s.tracker.table.find? Entry.leaving with
  | some e => s.depart e.tag
  | none => s.tracking .noMatch

/-! ### Boundaries (R49, R51) -/

/-- The count history and the speed at a frame boundary, and backward seen cleared (R51, steps 1 to 3). -/
def Tracker.newFrame (t : Tracker) : Tracker :=
  let history := (t.history ++ [t.frameCount]).drop 1
  { t with history := history, frameCount := 0, speed := history.sum / 4, backwardSeen := false }

/-- The tracker's frame boundary (R51): what it hands the engine stands in the boundary record. -/
def State.trackerFrame (s : State) : State :=
  let t := s.tracker.newFrame
  let t := { t with forecast := forecastOf s.cfg.zoneLength t.speed t.table }
  let s := (s.setTracker t).setBoundary { s.boundary with dominant := t.dominant, forecast := t.forecast }
  s.tickQueries

/-- The tracker's slot boundary: the area snapshot to the dose integrator and to the engine (R49), and at a frame boundary R51. -/
def State.trackerBoundary (s : State) : State :=
  let snap := s.snapshot s.boundary.ended s.boundary.endedSerial
  let s := (s.setDose (s.dose.takeSnapshot snap)).setEngine { s.engine with area := snap.total }
  if s.boundary.frame then s.trackerFrame else s

end Sys2Proof.Machine
end

