-- ==== Sys2Proof/Machine/Station.lean ====
section
/-! DEFINITION. The station controller: changes of station state as every block takes them, the self-test, lock notices, lockout and
release (chapter 10), with the zone bus's and the bridge link's part in them (R121, R155, R163). -/

namespace Sys2Proof.Machine

open Sys2Proof

/-! ### The bus controller at a change of station state (R155, R163) -/

/-- A frame that carries a claim part. -/
def TxFrame.carriesPart (f : TxFrame) : Bool :=
  match f.body with
  | .claim c => c.active.isSome || c.pending.isSome
  | .handover _ => false
  | .carrierQuery _ _ => false
  | .recipe _ => false
  | .recipeQuery _ _ => false
  | .condition _ => false
  | .test _ => false

/-- A follow-on that carries a part goes (R155). -/
def dropPartFollowOn (c : Option ClaimBody) : Option ClaimBody :=
  match c with
  | some c => if c.active.isSome || c.pending.isSome then none else some c
  | none => none

/-- Entry to ISOLATED: what has not started is discarded, a frame in SENDING runs to its end, and one that waits or backs off is
discarded (R155). The submission occasions that the discards bring meet a bus that refuses (R149), so they change nothing. -/
def Bus.isolate (b : Bus) : Bus :=
  let b := { b with urgent := [], normal := [], followOn := none }
  if b.tx = .sending then { b with inFlight := b.inFlight.map fun f => { f with lastRun := true } }
  else { b with inFlight := none, tx := .idle, attempts := 0 }

/-- The frame in flight runs to its END or leaves at its ABORT (R155). -/
def Bus.markLastRun (b : Bus) : Bus := { b with inFlight := b.inFlight.map fun f => { f with lastRun := true } }

/-- The frame in flight is gone, and with it the attempts; the transmitter does not pick yet. -/
def Bus.clearFlight (b : Bus) : Bus := { b with inFlight := none, attempts := 0 }

/-- The transmitter becomes IDLE, a follow-on becomes a CLAIM frame, and the next frame is picked (R151, R152). -/
def Bus.restart (b : Bus) : Bus := { b.promoteFollowOn with tx := .idle }.pick

/-- The frame in flight leaves: the condition monitor is told, and the transmitter goes on (R153 to R155). -/
def State.leaveFlight (s : State) : State :=
  let s := (s.setBus s.bus.clearFlight).offer
  s.setBus s.bus.restart

/-- Frames of the urgent class that carry a part go; true when one did (R155). -/
def Bus.dropQueuedParts (b : Bus) : Bus × Bool :=
  ({ b with urgent := b.urgent.filter fun f => !f.carriesPart }, b.urgent.any TxFrame.carriesPart)

/-- The station leaves JOINED for LISTENING or LOCKOUT (R155). -/
def State.busLeaveJoined (s : State) : State :=
  let (b, dropped) := s.bus.dropQueuedParts
  let s := s.setBus { b with followOn := dropPartFollowOn b.followOn }
  match s.bus.inFlight with
  | some f =>
    if f.carriesPart then
      if s.bus.tx = .sending then s.setBus s.bus.markLastRun else s.leaveFlight
    else if dropped then s.offer else s
  | none => if dropped then s.offer else s

/-- Exit from SELF-TEST: the loop is off, the queue and the frame in reception are emptied, and the receiver hunts on the bus, whose
quiet time starts at 0 (R163). -/
def Bus.leaveLoop (now : Instant) (b : Bus) : Bus :=
  { b with
    loop := false
    urgent := []
    normal := []
    inFlight := none
    followOn := none
    tx := .idle
    attempts := 0
    rx := .hunting
    ownStart := false
    lastActivity := some now }

/-- Entry to SELF-TEST: the loop is on and the receiver hunts on it (R148, R163). -/
def Bus.enterLoop (now : Instant) (b : Bus) : Bus := { b with loop := true, rx := .hunting, lastActivity := some now }

/-! ### The bridge link asked to leave OFF (R121) -/

/-- The bridge link leaves OFF: the REST SETPOINT is placed, or placed at the END of an OFF that still waits unsent (R121). -/
def Bridge.leaveOff (b : Bridge) : Bridge :=
  if b.state = .off then
    if b.buffer.any LaneMsg.isOff then { b with leaving := .afterOff }
    else { b.placeSetpoint Setpoint.atRest with leaving := .placed }
  else b

/-- RELEASE: the trip count and the trip window are first set to 0 (R121). -/
def Bridge.release (b : Bridge) : Bridge := { b with tripCount := 0, tripWindow := 0 }.leaveOff

/-! ### Changes of station state (R87, R155, R169 to R174) -/

/-- The station state and the join count. -/
def State.setStanding (st : StationState) (join : Option Nat) (s : State) : State :=
  s.setStation { s.station with state := st, joinCount := join }

/-- The slot map leaves its inert state at the first entry to LISTENING or ISOLATED (R60). -/
def State.enliven (s : State) : State := s.setMap { s.map with live := true }

/-- The slot clock at an entry to LISTENING (R12). -/
def State.clearAligned (s : State) : State := s.setClock { s.clock with aligned := false, tracker := [] }

/-- The join count at an entry to LISTENING (R169). -/
def Station.freshJoin (st : Station) : Option Nat := if st.refLocked then some 0 else none

/-- Entry to LISTENING from SELF-TEST (R168); the condition monitor is told last, when the bus takes its frames (R143; log 59). -/
def State.passSelfTest (s : State) : State :=
  let s := (s.setStanding .listening s.station.freshJoin).clearAligned.enliven
  let s := s.setBus (s.bus.leaveLoop s.now)
  let s := (s.setBridge s.bridge.leaveOff).engineListen
  s.tellMonitor .listening

/-- Entry to LISTENING from LOCKOUT (R173). -/
def State.releaseToListening (s : State) : State :=
  ((s.setStanding .listening s.station.freshJoin).clearAligned.engineListen).tellMonitor .listening

/-- What JOINED to LISTENING makes of the own claim: own parts that still stand are emptied, the bus controller discards the frames that
carry a part, and the slot map takes back what is left of its queued CLAIM (R61, R81, R83, R155; log 59). -/
def State.dropClaims (s : State) : State :=
  if s.map.pairEmpty then s.busLeaveJoined
  else (((s.setMap s.map.emptied).clearStarved.busLeaveJoined).withdrawalClaim false).withdrawNotice

/-- JOINED to LISTENING at a reference loss (R170). The condition monitor is told first, then the slot map, the bus controller and the engine
(R143, R174; log 59). -/
def State.loseJoined (s : State) : State :=
  ((((s.setStanding .listening none).clearAligned).tellMonitor .listening).dropClaims).engineRebuild

/-- Entry to JOINED from LISTENING or from LOCKOUT, which sets the aligned flag (R12, R87, R169; log 45 on R173). -/
def State.enterJoined (s : State) : State := (((s.setStanding .joined none).setAligned).engineRebuild).tellMonitor .joined

/-- Entry to ISOLATED as the blocks take it, whatever the bus controller does first (R83, R87, R33). -/
def State.isolateBlocks (s : State) : State :=
  let s := ((s.setStanding .isolated none).enliven).withdraw false
  let s := s.setCache { s.cache with answers := [] }
  s.engineRebuild

/-- Entry to ISOLATED from LISTENING, JOINED or LOCKOUT (R171); nothing is transmitted, in whichever order the blocks take it (R143, R149;
log 59). -/
def State.enterIsolated (s : State) : State :=
  let s := s.isolateBlocks
  (s.setBus s.bus.isolate).tellMonitor .isolated

/-- Entry to ISOLATED at a failed self-test (R168). -/
def State.failSelfTest (s : State) : State :=
  let s := s.isolateBlocks
  (s.setBus (s.bus.leaveLoop s.now)).tellMonitor .isolated

/-- A request to enter ISOLATED, by the station state (R171). -/
def State.askIsolated (s : State) : State := if s.station.state.onBus then s.enterIsolated else s

/-- A clash: the declaration and the request reach the monitor and the station controller in either order (R143, R171; log 5). -/
def State.clash (kind : Kind) (declareFirst : Bool) (s : State) : State :=
  if declareFirst then (s.declareCond kind .clash).askIsolated else s.askIsolated.declareCond kind .clash

/-- LOCKOUT is declared with cause SECOND TRIP. -/
def State.declareLockout (s : State) : State := s.declareCond .lockout .secondTrip

/-- The change of state to LOCKOUT and its declaration reach the condition monitor in either order (R147; log 5). -/
def State.tellLockout (declareFirst : Bool) (s : State) : State :=
  if declareFirst then (s.declareLockout.setStanding .lockout none).tellMonitor .lockout
  else ((s.setStanding .lockout none).tellMonitor .lockout).declareLockout

/-- Entry to LOCKOUT (R83, R87, R155, R172). The condition monitor is told first; then the slot map withdraws and submits its CLAIM, the bus
controller discards what carries a part, and the engine follows (R143, R147, R174; log 59). -/
def State.enterLockout (declareFirst : Bool) (s : State) : State :=
  let joined := s.station.state == .joined
  let s := (s.tellLockout declareFirst).withdraw true
  let s := if joined then s.busLeaveJoined else s
  s.engineLockout

/-- The bridge link's request for LOCKOUT, by the station state (R172). -/
def State.askLockout (declareFirst : Bool) (s : State) : State :=
  match s.station.state with
  | .listening => s.enterLockout declareFirst
  | .joined => s.enterLockout declareFirst
  | .isolated => s.declareLockout
  | .loading => s
  | .configFault => s
  | .selfTest => s
  | .lockout => s

/-- RELEASE in LOCKOUT (R173). The monitor takes the clearing before the change of state (log 77 on R146). -/
def State.release (s : State) : State :=
  let s := (s.setBridge s.bridge.release).clearCond .lockout .release
  if s.station.refLocked then s.enterJoined else s.releaseToListening

/-- A RELEASE frame, by the station state (R173). -/
def State.takeReleaseFrame (s : State) : State := if s.station.state = .lockout then s.release else s

/-! ### Lock notices (R169, R170) -/

/-- Lock gained (R169). -/
def State.lockGained (s : State) : State :=
  let join := if s.station.state = .listening then some 0 else s.station.joinCount
  s.setStation { s.station with refLocked := true, joinCount := join }

/-- Lock lost: reference locked is cleared, and in LISTENING the count is none (R169, R170). -/
def State.lockLost (s : State) : State :=
  let join := if s.station.state = .listening then none else s.station.joinCount
  s.setStation { s.station with refLocked := false, joinCount := join }

/-- Reference lost: a loss of lock, and JOINED moves to LISTENING (R170). -/
def State.refLost (s : State) : State :=
  let s := s.lockLost
  if s.station.state = .joined then s.loseJoined else s

/-! ### Self-test (R167, R168) -/

/-- The fault seen flag of the self-test record is set. -/
def State.selfFault (s : State) : State := s.setStation { s.station with selfFault := true }

/-- A TEST frame equals the one that next expected names (R167). -/
def State.expectedTest (f : RxFrame) (s : State) : Bool :=
  f.kind == .test && f.source == s.cfg.stationAddress && f.dest == .station s.cfg.stationAddress
    && decide (s.station.selfNext ≤ 3) && f.payload == testPayload s.station.selfNext

/-- A TEST frame handed back by the loop (R167). -/
def State.takeTest (f : RxFrame) (s : State) : State :=
  if s.expectedTest f then s.setStation { s.station with selfNext := s.station.selfNext + 1 } else s.selfFault

/-- The verdict of the self-test is PASS (R168). -/
def Station.selfPass (st : Station) : Bool := st.selfNext == 4 && !st.selfFault

/-- A frame boundary in SELF-TEST: at the second the verdict is formed (R167, R168). -/
def State.selfTestFrame (s : State) : State :=
  let s := s.setStation { s.station with selfFrames := s.station.selfFrames + 1 }
  if s.station.selfFrames = 2 then if s.station.selfPass then s.passSelfTest else s.failSelfTest else s

/-- A frame boundary in LISTENING: the ninth of the join count enters JOINED (R169). -/
def State.joinFrame (s : State) : State :=
  match s.station.joinCount with
  | some n => if n + 1 = 9 then s.enterJoined else s.setStation { s.station with joinCount := some (n + 1) }
  | none => s

/-- The station controller's frame boundary. -/
def State.stationFrame (s : State) : State :=
  match s.station.state with
  | .selfTest => s.selfTestFrame
  | .listening => s.joinFrame
  | .loading => s
  | .configFault => s
  | .joined => s
  | .isolated => s
  | .lockout => s

/-! ### Configuration (R164 to R167) -/

/-- The self-test's submission of one TEST frame (R167). -/
def State.submitTest (n : Nat) (s : State) : State := (s.submit (.test n) (.station s.cfg.stationAddress)).1

/-- Entry to SELF-TEST with a good image (R1, R165, R167). -/
def State.startSelfTest (c : Cfg) (s : State) : State :=
  let s := s.setStation
    { s.station with
      state := .selfTest, cfg := some c, selfNext := 1, selfFault := false, selfFrames := 0, reading := false }
  let s := s.setClock (Clock.started s.now c.refFreq)
  let s := s.setBus (s.bus.enterLoop s.now)
  (((s.submitTest 1).submitTest 2).submitTest 3).tellMonitor .selfTest

/-- Entry to CONFIG FAULT with a bad image (R166). -/
def State.configFault (s : State) : State :=
  (s.setStation { s.station with state := .configFault, reading := false }).tellMonitor .configFault

/-- The configuration read has taken an image (R165); a read that is not under way, or an image of another length, is no event of the
station controller (log 6, log 12). -/
def State.takeImage (image : List Byte) (s : State) : State :=
  if s.station.reading ∧ image.length = 66 then
    match judgeImage image with
    | some c => s.startSelfTest c
    | none => s.configFault
  else s

/-- Hardware reset: every block takes its reset state, and RSTN is asserted. The pin level of BLROOM, the instant and the waiting
commands are not the part's own state (R164; log 9). -/
def State.hardReset (s : State) : State :=
  { State.reset with pending := s.pending, now := s.now, bridge := { Bridge.reset with blroom := s.bridge.blroom } }

/-- RSTN is released, or power-on completes: the configuration read begins (R164). -/
def State.releaseReset (s : State) : State :=
  if s.station.held then s.setStation { s.station with held := false, reading := true } else s

end Sys2Proof.Machine
end

