-- ==== Sys2Proof/Machine/Recipes.lean ====
section
/-! DEFINITION. The recipe cache's frames: a RECIPE stored with its notices, and a RECIPE QUERY scheduled for an answer (R22 to R27,
R31). -/

namespace Sys2Proof.Machine

open Sys2Proof

/-- The entry names the key. -/
def Entry.names (k : Key) (e : Entry) : Bool := e.record.recipe == some k

/-- The tracker's part of the notice: recipe pending is cleared (R27). -/
def State.clearPending (k : Key) (s : State) : State :=
  s.setTable (updateWhere (Entry.names k) (fun e => { e with recipePending := false }) s.tracker.table)

/-- The integrator's part of the notice: targets are fixed on the open records of the entries that name the key (R27, R125). -/
def State.fixTargetsFor (k : Key) (s : State) : State :=
  (s.tracker.table.filter (Entry.names k)).foldl (fun s e => s.fixTarget e) s

/-- The notice that a wanted recipe is now available (R27, R102, R125). -/
def State.recipeNotice (k : Key) (s : State) : State := ((s.clearPending k).fixTargetsFor k).recipeAvailable k

/-- A new entry: a flush where the placement asks for one, room, the store, and the notice where the key was wanted (R24 to R27). -/
def State.storeRecipe (flushed : Option Key) (r : Recipe) (s : State) : State :=
  let wanted := s.cache.wants r.key
  let s := s.setCache (((s.cache.flushFor flushed).makeRoom).store r)
  if wanted then s.recipeNotice r.key else s

/-- A record that met the store test is placed (R22, steps 4 and 5). -/
def State.placeRecipe (r : Recipe) (s : State) : State :=
  match s.cache.placement r with
  | .held h =>
    let s := s.setCache (s.cache.touch r.key)
    if h = r then s else s.raise .recipeReject .recipeConflict
  | .new flushed => s.storeRecipe flushed r
  | .limit => s.raise .recipeReject .revisionLimit
  | .ignored => s

/-- A RECIPE frame taken from the receive queue (R15, R22). -/
def State.takeRecipeFrame (f : RxFrame) (s : State) : State :=
  match checkedRecipe (f.payload.drop 1) with
  | none => s.raise .recipeReject .invalid
  | some r =>
    let s := s.setCache (s.cache.cancelAnswer r.key)
    if s.cache.storeTest (byteAt f.payload 0 != 0) r then s.placeRecipe r else s

/-- The key and the querier zone of a RECIPE QUERY payload that is not ignored (R31). -/
def readRecipeQuery (payload : List Byte) : Option (Key × Nat) :=
  let k : Key := ⟨fieldAt16 payload 0, byteAt payload 2⟩
  if k.id ≠ 0 ∧ k.rev ≠ 0 ∧ byteAt payload 3 ≤ 48 then some (k, byteAt payload 3) else none

/-- A RECIPE QUERY taken from the receive queue: an answer is scheduled for a held key where the station state allows RECIPE (R31,
R33). -/
def State.takeRecipeQueryFrame (f : RxFrame) (s : State) : State :=
  match readRecipeQuery f.payload with
  | some (k, zone) =>
    if s.cache.holds k ∧ s.station.state.onBus then s.setCache (s.cache.schedule k (answerDelay s.cfg.zoneIndex zone)) else s
  | none => s

end Sys2Proof.Machine
end

