-- ==== Sys2Proof/Machine/Bridge.lean ====
section
/-! DEFINITION. The bridge link's events: ends of messages, take and reading windows, misses, trips, acknowledgements, readings, and the
slot and frame boundary (chapter 6). -/

namespace Sys2Proof.Machine

open Sys2Proof

/-- The bridge link's record is replaced. -/
def State.updateBridge (f : Bridge → Bridge) (s : State) : State := s.setBridge (f s.bridge)

/-! ### Reports (R109, R113) -/

/-- The report of a slot from its log (R113). -/
def SlotLog.report (reading : Option Measured) (l : SlotLog) : SlotReport where
  slot := l.slot
  serial := l.serial
  duration := l.duration
  reading := reading
  accepted := l.accepted.getD Setpoint.atRest
  cls := l.cls
  trip := l.trip

/-- The report of a slot marked OFF, with no reading (R109). It carries the setpoint accepted in the slot, also for the slot in which the
bridge went OFF, whose commanded charge then counts in LOCKOUT (R113, R123, R127; log 73). -/
def offReport (b : Boundary) (l : Option SlotLog) : SlotReport where
  slot := b.ended
  serial := b.endedSerial
  duration := b.duration
  reading := none
  accepted := (l.bind SlotLog.accepted).getD Setpoint.atRest
  cls := .off
  trip := (l.map SlotLog.trip).getD false

/-! ### Trips (R116, R119) -/

/-- ACK awaited after a trip (R116, step 3; log 28). -/
def Bridge.awaitedAfterTrip (b : Bridge) : Option Confirm :=
  if b.acked = .fwd ∨ b.acked = .rev ∨ b.state = .changing then some .notStarted
  else if b.acked = .rest then none
  else b.awaited

/-- Steps 1 to 3 of a trip; one taken in TRIPPED leaves them as they stand (R116). -/
def Bridge.enterTripped (b : Bridge) : Bridge :=
  if b.state = .tripped then b
  else
    { b.placeSetpoint Setpoint.atRest with
      held := none, state := .tripped, target := .rest, restCount := 0, awaited := b.awaitedAfterTrip }

/-- Steps 4 and 5 of a trip (R116). -/
def Bridge.countTrip (b : Bridge) : Bridge :=
  { b.logSlot (fun l => { l with trip := true }) with tripCount := min 2 (b.tripCount + 1), tripWindow := 0 }

/-- The bridge link's own part of the escalation (R119). -/
def Bridge.escalate (b : Bridge) : Bridge :=
  { (b.placeOff.logSlot fun l => { l with cls := .off }) with
    state := .off, held := none, awaited := none, restCount := 0, missCount := 0 }

/-- The escalation to lockout: the dose integrator marks the carriers PRESENT, and the station controller is asked (R119, R128). -/
def State.escalate (declareFirst : Bool) (s : State) : State :=
  ((s.flagAll .unplated).updateBridge Bridge.escalate).askLockout declareFirst

/-- A trip (R116); in OFF none is taken (R106). -/
def State.trip (cause : Cause) (declareFirst : Bool) (s : State) : State :=
  if s.bridge.state = .off then s
  else
    let s := s.updateBridge fun b => b.enterTripped.countTrip
    let s := ((s.raise .trip cause).flagAll .tripped).engineTrip
    if s.bridge.tripCount = 2 then s.escalate declareFirst else s

/-! ### Misses (R109) -/

/-- A miss: the second in a row trips with cause SILENT; in OFF none is counted (R106, R109). -/
def State.miss (declareFirst : Bool) (s : State) : State :=
  if s.bridge.state = .off then s
  else if s.bridge.missCount = 1 then (s.updateBridge fun b => { b with missCount := 0 }).trip .silent declareFirst
  else s.updateBridge fun b => { b with missCount := 1 }

/-- A slot whose reading does not come in time: its report with no reading, and a miss (R109). -/
def State.missReading (log : SlotLog) (declareFirst : Bool) (s : State) : State :=
  (s.handReport (log.report none)).miss declareFirst

/-! ### Ends of messages (R107 to R112, R121) -/

/-- A take window is 50 µs (R108). -/
def takeTime : Instant := 500

/-- A reading window is 200 µs (R109). -/
def readingTime : Instant := 2000

/-- The confirm limit in 0.1 µs. -/
def State.confirmTime (s : State) : Instant := s.cfg.confirmLimit * 10

/-- The END of any message: the lane is free, the power stage lowers BLROOM, and a take window opens (R107, R108; log 10). -/
def Bridge.endMessage (t : Instant) (b : Bridge) : Bridge :=
  { b with sending := none, blroom := false, take := some ⟨t + takeTime, true⟩ }

/-- A direction change: CHANGING towards a target, with the confirm timer running (R110). -/
def Bridge.startChange (due : Instant) (target : Dir) (b : Bridge) : Bridge :=
  { b.logSlot (fun l => { l with cls := l.cls.changed }) with
    state := .changing, target := target, awaited := some (.running due) }

/-- The direction of a bridge state that drives one. -/
def BridgeState.dir? : BridgeState → Option Dir
  | .rest => some .rest
  | .forward => some .fwd
  | .reverse => some .rev
  | .off => none
  | .changing => none
  | .tripped => none

/-- The bridge state that drives a direction. -/
def Dir.bridgeState : Dir → BridgeState
  | .rest => .rest
  | .fwd => .forward
  | .rev => .reverse

/-- The END of a SETPOINT in OFF: the REST that leaves OFF starts the leaving change, any other changes nothing (R121). -/
def Bridge.setpointEndOff (due : Instant) (sp : Setpoint) (b : Bridge) : Bridge :=
  if b.leaving = .placed ∧ sp.dir = .rest then { b.startChange due .rest with leaving := .no } else b

/-- The END of a SETPOINT in TRIPPED: that of the REST the trip placed starts the confirm timer. While that REST still waits, the message
that ends was going out before the trip, and its END starts nothing (R116, step 3; log 27). -/
def Bridge.setpointEndTripped (due : Instant) (b : Bridge) : Bridge :=
  if b.awaited = some .notStarted ∧ b.buffer.any LaneMsg.isSetpoint = false then { b with awaited := some (.running due) } else b

/-- The END of a SETPOINT by the bridge state (R110 to R112, R116, R121; log 26). -/
def Bridge.setpointEnd (due : Instant) (sp : Setpoint) (b : Bridge) : Bridge :=
  let b := { b.logSlot (SlotLog.ended sp) with lastSent := .setpoint sp }
  match b.state with
  | .off => b.setpointEndOff due sp
  | .tripped => b.setpointEndTripped due
  | .changing => b.startChange due sp.dir
  | .rest => if sp.dir = .rest then b else b.startChange due sp.dir
  | .forward => if sp.dir = .fwd then b else b.startChange due sp.dir
  | .reverse => if sp.dir = .rev then b else b.startChange due sp.dir

/-- The END of an OFF: the REST SETPOINT that waited for it is placed (R121). -/
def Bridge.offEnd (b : Bridge) : Bridge :=
  let b := { b with lastSent := .off }
  if b.leaving = .afterOff then { b.placeSetpoint Setpoint.atRest with leaving := .placed } else b

/-- SETPOINT sent. -/
def State.sentSetpoint (t : Instant) (s : State) : State :=
  match s.bridge.sending with
  | some (.setpoint sp) => s.updateBridge fun b => (b.endMessage t).setpointEnd (t + s.confirmTime) sp
  | some (.mark _) => s
  | some .off => s
  | none => s

/-- OFF sent. -/
def State.sentOff (t : Instant) (s : State) : State :=
  match s.bridge.sending with
  | some .off => s.updateBridge fun b => (b.endMessage t).offEnd
  | some (.mark _) => s
  | some (.setpoint _) => s
  | none => s

/-- An expectation that the END of a MARK ends: as a miss while its window runs, without one after (R109, R113). -/
def State.endExpectation (declareFirst : Bool) (s : State) : State :=
  match s.bridge.expect with
  | some e =>
    let s := s.updateBridge fun b => { b with expect := none }
    if e.window.isSome then s.missReading e.log declareFirst else s
  | none => s

/-- MARK sent: the earlier expectation ends, and a new one opens (R109). -/
def State.sentMark (t : Instant) (declareFirst : Bool) (s : State) : State :=
  match s.bridge.sending with
  | some (.mark log) =>
    let s := (s.updateBridge (Bridge.endMessage t)).endExpectation declareFirst
    s.updateBridge fun b => { b with expect := some ⟨log, some (t + readingTime), none⟩ }
  | some (.setpoint _) => s
  | some .off => s
  | none => s

/-- The head message starts on BLTX: BLROOM is high and no message is going out (R107). -/
def Bridge.send (b : Bridge) : Bridge :=
  match b.buffer with
  | m :: rest => if b.blroom ∧ b.sending.isNone then { b with sending := some m, buffer := rest } else b
  | [] => b

/-- BLROOM rises: a take in the first window is in time (R108). -/
def Bridge.room (b : Bridge) : Bridge :=
  let b := { b with blroom := true }
  match b.take with
  | some w => if w.first then { b with take := none, missCount := 0 } else { b with take := none }
  | none => b

/-! ### Windows and timers (R108 to R110) -/

/-- A take window runs out: a miss, and a new window (R108). -/
def State.takeRunOut (t : Instant) (declareFirst : Bool) (s : State) : State :=
  match s.bridge.take with
  | some w =>
    if w.due ≤ t then (s.updateBridge fun b => { b with take := some ⟨t + takeTime, false⟩ }).miss declareFirst else s
  | none => s

/-- The report with no reading is handed, and the expectation stays open without a window, with the span that counted the report (R109,
R113; R127, last paragraph; log 36). -/
def State.reportNoReading (log : SlotLog) (s : State) : State :=
  let s := s.handReport (log.report none)
  s.updateBridge fun b => { b with expect := some ⟨log, none, s.dose.span.map Span.serial⟩ }

/-- A reading window runs out: the expectation stays open without a window, and a miss is counted (R109, R113; log 29). -/
def State.readingRunOut (t : Instant) (declareFirst : Bool) (s : State) : State :=
  match s.bridge.expect with
  | some e =>
    match e.window with
    | some due => if due ≤ t then (s.reportNoReading e.log).miss declareFirst else s
    | none => s
  | none => s

/-- The confirm timer runs out: the next slot boundary is the deadline (R110). -/
def Bridge.confirmRunOut (t : Instant) (b : Bridge) : Bridge :=
  match b.awaited with
  | some (.running due) => if due ≤ t then { b with awaited := some .runOut } else b
  | some .notStarted => b
  | some .runOut => b
  | none => b

/-- The deadline (R112). -/
def State.deadline (declareFirst : Bool) (s : State) : State :=
  if s.bridge.awaited = some .runOut then s.trip .noConfirm declareFirst else s

/-! ### Acknowledgements (R106, R112) -/

/-- The direction an ACK names is a target. -/
def AckDir.isDir (d : Dir) (a : AckDir) : Bool :=
  match a, d with
  | .rest, .rest => true
  | .fwd, .fwd => true
  | .rev, .rev => true
  | .rest, .fwd => false
  | .rest, .rev => false
  | .fwd, .rest => false
  | .fwd, .rev => false
  | .rev, .rest => false
  | .rev, .fwd => false
  | .off, _ => false

/-- A change completes: the held setpoint, if any, is placed as in the new state (R112). -/
def Bridge.completeChange (b : Bridge) : Bridge :=
  let b' := { b with
    state := b.target.bridgeState, slowSeen := b.slowSeen || b.awaited == some .runOut, awaited := none, held := none }
  match b.held with
  | some sp => b'.driveSetpoint sp
  | none => b'

/-- An ACK in TRIPPED: REST settles the awaited acknowledgement, and one that comes after the confirm limit makes the frame bad for
BRIDGE SLOW (R112, R120). -/
def Bridge.ackInTripped (a : AckDir) (b : Bridge) : Bridge :=
  if a = .rest then { b with acked := a, slowSeen := b.slowSeen || b.awaited == some .runOut, awaited := none }
  else { b with acked := a }

/-- An ACK (R106, R112). -/
def State.takeAck (a : AckDir) (declareFirst : Bool) (s : State) : State :=
  match s.bridge.state with
  | .off => if a = .off then s.updateBridge fun b => { b with acked := .off } else s
  | .tripped => s.updateBridge (Bridge.ackInTripped a)
  | .changing =>
    let s := s.updateBridge fun b => { b with acked := a }
    if a.isDir s.bridge.target then s.updateBridge Bridge.completeChange else s.trip .wrongDirection declareFirst
  | .rest =>
    let s := s.updateBridge fun b => { b with acked := a }
    if a = .rest then s else s.trip .wrongDirection declareFirst
  | .forward =>
    let s := s.updateBridge fun b => { b with acked := a }
    if a = .fwd then s else s.trip .wrongDirection declareFirst
  | .reverse =>
    let s := s.updateBridge fun b => { b with acked := a }
    if a = .rev then s else s.trip .wrongDirection declareFirst

/-! ### Readings (R113, R114) -/

/-- The direction floor: 2 % of the rating in 0.1 A, rounded down (R114). -/
def directionFloor (cfg : Cfg) (d : Dir) : Nat := ratingOf cfg d * 2 / 100

/-- The direction of a current: F when positive, R when negative (R114). -/
def directionOf (current : Int) : Dir := if current < 0 then .rev else if 0 < current then .fwd else .rest

/-- The overcurrent test (R114). -/
def overcurrent (cfg : Cfg) (log : SlotLog) (current : Int) : Bool :=
  let d := directionOf current
  current != 0
    && (decide (ratingOf cfg d < current.natAbs)
      || decide (max (log.reference * (100 + cfg.overcurrentMargin) / 100) (directionFloor cfg d) < current.natAbs))

/-- The direction test (R114). -/
def wrongDirection (cfg : Cfg) (log : SlotLog) (current : Int) : Bool :=
  decide (directionFloor cfg (directionOf current) < current.natAbs)
    && ((log.cls == .fwd && decide (current < 0)) || (log.cls == .rev && decide (0 < current)))

/-- A reading judged; overcurrent comes first (R114). -/
def State.judgeReading (log : SlotLog) (current : Int) (declareFirst : Bool) (s : State) : State :=
  if overcurrent s.cfg log current then s.trip .overcurrent declareFirst
  else if wrongDirection s.cfg log current then s.trip .wrongDirection declareFirst
  else s

/-- The awaited READING: in its window the miss count becomes 0 and the report is handed; after its window the report replaces the one
with no reading; the trip, if any, comes after (R113, R114). -/
def State.takeAwaited (e : Expectation) (m : Measured) (declareFirst : Bool) (s : State) : State :=
  let r := e.log.report (some m)
  let s :=
    if e.window.isSome then (s.updateBridge fun b => { b with expect := none, missCount := 0 }).handReport r
    else (s.updateBridge fun b => { b with expect := none }).handLateReport e.counted r
  s.judgeReading e.log m.current declareFirst

/-- A READING (R106, R113, R180). -/
def State.takeReading (m : Measured) (slotMod4 : Nat) (declareFirst : Bool) (s : State) : State :=
  if s.bridge.state = .off then s
  else
    match s.bridge.expect with
    | some e => if e.log.slot % 4 = slotMod4 then s.takeAwaited e m declareFirst else s
    | none => s

/-! ### The boundary (R109, R117, R119, R120) -/

/-- The trip rest: its count rises in TRIPPED, and at 64 the rest ends (R117). -/
def State.tickRest (s : State) : State :=
  if s.bridge.state = .tripped then
    if s.bridge.restCount + 1 = 64 then
      (s.updateBridge fun b => { b with state := .rest, restCount := 64 }).engineRestEnd
    else s.updateBridge fun b => { b with restCount := b.restCount + 1 }
  else s

/-- A MARK for the slot that ended; a MARK still waiting is removed, and its slot is a miss, which is taken once the new MARK stands in
the lane, so that the REST of a trip it brings stands behind (R107, R109; log 56). -/
def State.markSlot (log : SlotLog) (declareFirst : Bool) (s : State) : State :=
  match s.bridge.waitingMark with
  | some old => (s.updateBridge (Bridge.placeMark log)).missReading old declareFirst
  | none => s.updateBridge (Bridge.placeMark log)

/-- The slot that ended: a MARK when it began outside OFF and the bridge is outside OFF, else a report marked OFF (R109). -/
def State.endSlotLog (log : Option SlotLog) (declareFirst : Bool) (s : State) : State :=
  let b := s.boundary
  match log with
  | some l =>
    if s.bridge.state = .off ∨ l.fromOff then s.handReport (offReport b (some l))
    else s.markSlot { l with slot := b.ended, serial := b.endedSerial, duration := b.duration } declareFirst
  | none => s.handReport (offReport b none)

/-- The log of the slot that begins; a setpoint accepted before is recorded in it (R109; logs 32 and 50). -/
def Bridge.beginLog (slot : Nat) (b : Bridge) : Bridge :=
  let log := match b.early with
    | some a => (b.openLog slot).accept a.sp
    | none => b.openLog slot
  { b with log := some log, early := none }

/-- The bridge link's slot boundary: the rest, the deadline, the slot that ended and the slot that begins (R109, R112, R117). The trip of
a deadline is recorded in the log of the slot that ended (R116, step 4; log 57) and comes before that slot's MARK or OFF report (R109; log
67); a trip that a MARK removed unsent brings is recorded in the log of the slot that begins (log 66). -/
def State.bridgeSlot (s : State) : State :=
  let df := s.boundary.df
  let s := s.tickRest.deadline df
  let log := s.bridge.log
  let s := s.updateBridge (Bridge.beginLog s.boundary.begun)
  s.endSlotLog log df

/-- The trip window at a frame boundary (R119). -/
def Bridge.tickWindow (b : Bridge) : Bridge :=
  if b.tripCount = 1 then
    if b.tripWindow + 1 = 16 then { b with tripCount := 0, tripWindow := 16 } else { b with tripWindow := b.tripWindow + 1 }
  else b

/-- The bridge link's frame boundary: the trip window, and the BRIDGE SLOW verdict (R119, R120). -/
def State.bridgeFrame (s : State) : State :=
  let s := (s.updateBridge Bridge.tickWindow).verdict .bridgeSlow s.bridge.slowSeen .frames
  s.updateBridge fun b => { b with slowSeen := false }

end Sys2Proof.Machine
end

