-- ==== Sys2Proof/Machine/Reception.lean ====
section
/-! DEFINITION. The receiver of the zone bus: symbols, complete frames, the destination filter, CLAIM frames and the receive queue
(chapter 9; R63). -/

namespace Sys2Proof.Machine

open Sys2Proof

/-- The bus controller's record is replaced. -/
def State.updateBus (f : Bus → Bus) (s : State) : State := s.setBus (f s.bus)

/-! ### Faults (R162, R163) -/

/-- The faults that the receiver adds. -/
inductive RxFault where
  | check | timeout | overrun
  deriving DecidableEq, Repr

/-- A fault added to the set. -/
def Faults.add (k : RxFault) (f : Faults) : Faults :=
  match k with
  | .check => { f with check := true }
  | .timeout => { f with timeout := true }
  | .overrun => { f with overrun := true }

/-- A fault: added to the fault set, or on the internal loop reported to the station controller (R162, R163). -/
def State.busFault (k : RxFault) (s : State) : State :=
  if s.bus.loop then s.selfFault else s.updateBus fun b => { b with faults := b.faults.add k }

/-- The frame in reception ends, and the receiver hunts. -/
def Bus.hunt (b : Bus) : Bus := { b with rx := .hunting }

/-- A frame dropped with a fault (R156 to R158). -/
def State.dropRx (k : RxFault) (s : State) : State := (s.updateBus Bus.hunt).busFault k

/-- A frame dropped by ABORT or by an invalid symbol: no fault is added, and on the loop the drop is reported to the station
controller (R156, R163; log 18). -/
def State.dropQuiet (s : State) : State :=
  let s := s.updateBus Bus.hunt
  if s.bus.loop then s.selfFault else s

/-! ### CLAIM frames (R63, R178) -/

/-- The parts of a CLAIM that passes the field test (R63, step 2; R178). -/
def fieldTest (zone : Nat) (payload : List Byte) : Option (Option ClaimPart × Option ClaimPart) :=
  if 1 ≤ zone ∧ zone ≤ 48 then
    match readClaimParts payload with
    | some (active, pending) => if validPart active ∧ validPart pending then some (active, pending) else none
    | none => none
  else none

/-- A delivered CLAIM frame (R63). -/
def State.takeClaim (f : RxFrame) (declareFirst : Bool) (s : State) : State :=
  let zone := byteAt f.payload 1
  if zone = s.cfg.zoneIndex then s.clash .zoneClash declareFirst
  else
    let (s, verdict) := s.judgeStamp f.source (byteAt f.payload 0)
    match fieldTest zone f.payload with
    | some (active, pending) =>
      if verdict.applies then s.applyClaim ⟨f.source, zone, active, pending, 0⟩ else s
    | none => s

/-! ### The filter (R159 to R161) -/

/-- The destination is this station's (R159). -/
def State.addressed (d : Dest) (s : State) : Bool :=
  d == .all || d == .station s.cfg.stationAddress || d == .zone s.cfg.zoneIndex

/-- A delivered frame that is no CLAIM enters the receive queue, or meets it full (R161). -/
def State.enqueueRx (f : RxFrame) (s : State) : State :=
  if s.bus.rxQueue.length < 8 then s.updateBus fun b => { b with rxQueue := b.rxQueue ++ [f] } else s.busFault .overrun

/-- The destination filter on the bus; `own` tells that the own transmitter sent the frame's START (R159). -/
def State.filterFrame (f : RxFrame) (own declareFirst : Bool) (s : State) : State :=
  if f.source = s.cfg.stationAddress then if own then s else s.clash .addressClash declareFirst
  else if f.kind = .condition then s
  else if s.addressed f.dest then if f.kind = .claim then s.takeClaim f declareFirst else s.enqueueRx f
  else s

/-- A checked frame: on the loop a TEST goes to the station controller and nothing else is delivered (R163); on the bus the filter
takes it. -/
def State.deliver (f : RxFrame) (own declareFirst : Bool) (s : State) : State :=
  if s.bus.loop then if f.kind = .test then s.takeTest f else s else s.filterFrame f own declareFirst

/-! ### Symbols (R156, R157) -/

/-- A START: a new frame in reception; a frame that it cuts is dropped with CHECK (R156). -/
def State.receiveStart (s : State) : State :=
  let fresh (s : State) : State :=
    s.updateBus fun b => { b with rx := .receiving ⟨[], s.now, b.ownStart⟩, ownStart := false }
  match s.bus.rx with
  | .off => s
  | .hunting => fresh s
  | .receiving _ => fresh (s.dropRx .check)

/-- A data symbol: added where the frame expects one, with the length check once the header is whole (R156, R157). -/
def State.receiveData (x : Byte) (s : State) : State :=
  match s.bus.rx with
  | .off => s
  | .hunting => s
  | .receiving r =>
    if expectsData r.bytes then
      let bytes := r.bytes ++ [x]
      if bytes.length = 6 ∧ 1200 < statedLength bytes then s.dropRx .check
      else s.updateBus fun b => { b with rx := .receiving { r with bytes := bytes } }
    else s.dropRx .check

/-- An END: a complete frame is checked and delivered; any other is dropped with CHECK (R156, R158). -/
def State.receiveEnd (declareFirst : Bool) (s : State) : State :=
  match s.bus.rx with
  | .off => s
  | .hunting => s
  | .receiving r =>
    if expectsData r.bytes then s.dropRx .check
    else
      match checkFrame s.bus.loop r.bytes with
      | some f => (s.updateBus Bus.hunt).deliver f r.own declareFirst
      | none => s.dropRx .check

/-- An ABORT or an invalid symbol: the frame is dropped with no fault (R156). -/
def State.receiveBad (s : State) : State :=
  match s.bus.rx with
  | .off => s
  | .hunting => s
  | .receiving _ => s.dropQuiet

/-- A last bit of line activity at an instant; activity that lasts longer, as the own ABORT does, stands (R148). -/
def Bus.activeUntil (t : Instant) (b : Bus) : Bus := { b with lastActivity := some (max t (b.lastActivity.getD 0)) }

/-- Line activity whose last bit comes at an instant restarts the quiet time, which is none while the receiver is off (R148). -/
def State.activeUntil (t : Instant) (s : State) : State := if s.bus.rx = .off then s else s.updateBus (Bus.activeUntil t)

/-- A symbol whose first bit has just come: the line is busy from it to the symbol's last bit (R148; log 14). -/
def State.symbolActive (s : State) : State := s.activeUntil (s.now + symbolTime s.cfg.busRate)

/-- A symbol other than START on the line, stamped at its last bit inside a frame in reception, and at its first bit otherwise (R148; log
14). Between the first bit of a symbol inside a frame and its row, the operand of TX_START keeps the line busy. A symbol that is half over
when the receiver begins to hunt counts whole from the present instant (log 74). -/
def State.lineActive (s : State) : State :=
  match s.bus.rx with
  | .receiving _ => s.activeUntil s.now
  | .hunting => s.symbolActive
  | .off => s

/-- A symbol read on the line or on the loop (R156). -/
def State.receiveSymbol (x : Symbol) (declareFirst : Bool) (s : State) : State :=
  match readSymbol x with
  | .start => s.symbolActive.receiveStart
  | .data b => s.lineActive.receiveData b
  | .endMark => s.lineActive.receiveEnd declareFirst
  | .abort => s.lineActive.receiveBad
  | .invalid => s.lineActive.receiveBad

/-- The receive timeout (R157). -/
def State.rxTimeout (s : State) : State :=
  match s.bus.rx with
  | .off => s
  | .hunting => s
  | .receiving r => if r.startTime + receiveTimeout s.cfg.busRate ≤ s.now then s.dropRx .timeout else s

/-- The receiver hears a symbol: on the bus every one; on the internal loop, where the line is not read, only while the own transmitter
sends or a frame of its is in reception (R163; log 49). -/
def Bus.hears (b : Bus) : Bool :=
  !b.loop || b.tx == .sending ||
    match b.rx with
    | .receiving _ => true
    | .hunting => false
    | .off => false

/-- A symbol as the receiver takes it, if it hears it. -/
def State.ifHeard (s : State) (f : State → State) : State := if s.bus.hears then f s else s

/-! ### The commands -/

/-- START_MARK_RECEIVED, stamped at the START's first bit (R148, R156; log 14). -/
def execStartMarkReceived (t : Instant) (s : State) : Host.Outcome State Fault Refusal :=
  .next (s.unlessHeld fun s => (s.advance t).ifHeard fun s => s.symbolActive.receiveStart)

/-- DATA_SYMBOL_RECEIVED (R156, R157). -/
def execDataSymbolReceived (t : Instant) (byte : Byte) (s : State) : Host.Outcome State Fault Refusal :=
  .next (s.unlessHeld fun s => (s.advance t).ifHeard fun s => s.lineActive.receiveData byte)

/-- FRAME_END_RECEIVED: an END (R156, R158 to R161). -/
def execFrameEndReceived (t : Instant) (df : Bool) (s : State) : Host.Outcome State Fault Refusal :=
  .next (s.unlessHeld fun s => (s.advance t).ifHeard fun s => s.lineActive.receiveEnd df)

/-- RX_FRAME_ABANDONED: the symbol that drops the frame in reception (R156, R157). A symbol that drops none has the effect it has
as its own row. -/
def execRxFrameAbandoned (t : Instant) (symbol : Symbol) (s : State) : Host.Outcome State Fault Refusal :=
  .next (s.unlessHeld fun s => (s.advance t).ifHeard fun s => s.receiveSymbol symbol true)

/-- RECEIVE_TIMEOUT (R157). -/
def execReceiveTimeout (t : Instant) (s : State) : Host.Outcome State Fault Refusal :=
  .next (s.unlessHeld fun s => (s.advance t).rxTimeout)

end Sys2Proof.Machine
end

