-- ==== Sys2Proof/Machine/Transmission.lean ====
section
/-! DEFINITION. The transmitter of the zone bus: starts, ends, collisions and backoff (R152 to R155). -/

namespace Sys2Proof.Machine

open Sys2Proof

/-- The slot map is told how a CLAIM frame ended, unless it leaves on its last run (R68, R155). -/
def State.reportClaim (f : TxFrame) (sent : Bool) (s : State) : State :=
  match f.body with
  | .claim c => if f.lastRun then s else s.setMap (if sent then s.map.claimSent c else s.map.claimDropped c)
  | .handover _ => s
  | .carrierQuery _ _ => s
  | .recipe _ => s
  | .recipeQuery _ _ => s
  | .condition _ => s
  | .test _ => s

/-- The line is idle: the quiet time has reached the idle gap, and no symbol is under way. `underWay`: the line carries a symbol whose first
bit has come and whose own row has not. On the internal loop the line is not read (R148, R163; log 14). -/
def State.lineIdle (underWay : Bool) (s : State) : Bool := s.bus.idleAt s.cfg.busRate s.now && (s.bus.loop || !underWay)

/-- START goes out: a CLAIM is stamped with the slot number in force (R152, R153). -/
def State.startFrame (underWay : Bool) (s : State) : State :=
  if s.bus.tx = .waiting ∧ s.lineIdle underWay then
    let stamped (f : TxFrame) : TxFrame := { f with started := true, stamp := if f.isClaim then s.clock.slot else f.stamp }
    s.updateBus fun b =>
      { b with
        tx := .sending
        inFlight := b.inFlight.map stamped
        ownStart := true
        lastActivity := some (s.now + symbolTime s.cfg.busRate) }
  else s

/-- The frame in flight has read back up to its END (R153). -/
def State.frameSent (s : State) : State :=
  match s.bus.inFlight with
  | some f =>
    if s.bus.tx = .sending then
      let s := s.updateBus fun b => { b with lastActivity := some s.now }
      (s.reportClaim f true).leaveFlight
    else s
  | none => s

/-- The own drop after 8 collisions adds COLLISIONS, but not on the loop (R154, R162, R163). -/
def Bus.noteCollisions (b : Bus) : Bus := if b.loop then b else { b with faults := { b.faults with collisions := true } }

/-- The wait after a collision (R154). The ABORT ends one symbol time after the collision (log 16). -/
def State.startBackoff (attempts : Nat) (s : State) : State :=
  let wait := symbolTime s.cfg.busRate + backoffWait s.cfg.busRate s.cfg.stationAddress attempts
  s.updateBus fun b => { b with tx := .backoff, attempts := attempts, backoffEnd := s.now + wait }

/-- A collision with its ABORT (R154, R155, R163; log 16). -/
def State.collide (s : State) : State :=
  match s.bus.inFlight with
  | some f =>
    if s.bus.tx = .sending then
      let s := s.updateBus fun b => { b with ownStart := false, lastActivity := some (s.now + symbolTime s.cfg.busRate) }
      let s := if s.bus.loop then s.selfFault else s
      if f.lastRun then s.leaveFlight
      else if s.bus.attempts + 1 = 8 then ((s.updateBus Bus.noteCollisions).reportClaim f false).leaveFlight
      else s.startBackoff (s.bus.attempts + 1)
    else s
  | none => s

/-- The backoff wait has run (R154). -/
def State.backoffDone (s : State) : State :=
  if s.bus.tx = .backoff ∧ s.bus.backoffEnd ≤ s.now then s.updateBus fun b => { b with tx := .waiting } else s

/-! ### The commands -/

/-- TX_START (R152, R153). -/
def execTxStart (look : LineLook) (s : State) : Host.Outcome State Fault Refusal :=
  .next (s.unlessHeld fun s => (s.advance look.instant).startFrame look.underWay)

/-- TX_FRAME_SENT (R153). -/
def execTxFrameSent (t : Instant) (s : State) : Host.Outcome State Fault Refusal :=
  .next (s.unlessHeld fun s => (s.advance t).frameSent)

/-- COLLISION (R154). -/
def execCollision (t : Instant) (s : State) : Host.Outcome State Fault Refusal :=
  .next (s.unlessHeld fun s => (s.advance t).collide)

/-- BACKOFF_EXPIRY (R154). -/
def execBackoffExpiry (t : Instant) (s : State) : Host.Outcome State Fault Refusal :=
  .next (s.unlessHeld fun s => (s.advance t).backoffDone)

end Sys2Proof.Machine
end

