-- ==== Sys2Proof/Machine/Boundary.lean ====
section
/-! DEFINITION. Slot and frame boundaries: what each block takes of one, in which order, and the slot clock's commands that bring one
(R4 to R9, R174). -/

namespace Sys2Proof.Machine

open Sys2Proof

/-! ### What each block takes -/

/-- The slot clock's request for a withdrawal at a reference loss, which an inert map does not take (R8, R60, R83). -/
def State.refLostMap (s : State) : State := if s.map.live then s.withdraw false else s

/-- The bus controller's frame boundary: the verdict from the first entry to LISTENING on, and the fault set emptied (R162; log
19). -/
def State.busFrame (s : State) : State :=
  let f := s.bus.faults
  let s := if s.mon.listeningReached then s.verdict .busErrors f.any f.cause else s
  s.updateBus fun b => { b with faults := Faults.empty }

/-- One block's taking. -/
def runTask (t : Task) (s : State) : State :=
  match t with
  | .lockGainedStation => s.lockGained
  | .lockGainedMonitor => s.clearCond .referenceLost .lock
  | .lockLost => s.lockLost
  | .refLostMonitor => s.declareCond .referenceLost .holdoverExpired
  | .refLostStation => s.refLost
  | .refLostDose => s.flagAll .slotLost
  | .refLostMap => s.refLostMap
  | .tracker => s.trackerBoundary
  | .handOver => s.handOver s.boundary.dominant s.boundary.forecast
  | .engineSlot => s.engineSlot
  | .bridgeSlot => s.bridgeSlot
  | .bridgeFrame => s.bridgeFrame
  | .doseFrame => s.doseFrame
  | .busFrame => s.busFrame
  | .cacheSlot => s.tickAnswers
  | .cacheFrame => s.tickWantedList
  | .slotMap => s.mapBoundary
  | .station => s.stationFrame
  | .monitor => s.offer

/-- What a taking needs taken before it: the engine has the tracker's hand-over and snapshot, and works on the hand-over before it
runs the slot (R49, R50, R95); a slot's report finds the snapshot of its end (R127; log 3). -/
def taskNeeds (t : Task) : List Task :=
  match t with
  | .handOver => [.tracker]
  | .engineSlot => [.tracker, .handOver]
  | .bridgeSlot => [.tracker]
  | .lockGainedStation => []
  | .lockGainedMonitor => []
  | .lockLost => []
  | .refLostMonitor => []
  | .refLostStation => []
  | .refLostDose => []
  | .refLostMap => []
  | .tracker => []
  | .bridgeFrame => []
  | .doseFrame => []
  | .busFrame => []
  | .cacheSlot => []
  | .cacheFrame => []
  | .slotMap => []
  | .station => []
  | .monitor => []

/-- The boundary no longer owes a taking. -/
def Boundary.paid (t : Task) (b : Boundary) : Boundary := { b with owed := b.owed.filter fun x => x != t }

/-- A taking that is still owed is made, and its one CLAIM submission follows (log 23). -/
def State.runOwed (t : Task) (s : State) : State :=
  if s.boundary.owed.contains t then (runTask t (s.setBoundary (s.boundary.paid t))).flushClaim else s

/-- A taking, after those it needs. -/
def State.takeTask (t : Task) (s : State) : State := ((taskNeeds t).foldl (fun s t => s.runOwed t) s).runOwed t

/-- Takings in the order given. -/
def State.takeTasks (ts : List Task) (s : State) : State := ts.foldl (fun s t => s.takeTask t) s

/-- Every taking, in the order in which what is still owed is taken (log 3). -/
def allTasks : List Task :=
  [.lockGainedStation, .lockGainedMonitor, .lockLost, .refLostMonitor, .refLostStation, .refLostDose, .refLostMap, .tracker,
   .handOver, .engineSlot, .bridgeSlot, .bridgeFrame, .doseFrame, .busFrame, .cacheSlot, .cacheFrame, .slotMap, .station, .monitor]

/-- What is still owed of the boundary before is taken. -/
def State.drain (s : State) : State := s.takeTasks allTasks

/-- The takings of a slot boundary, without the notices (R9). -/
def boundaryTasks (frame : Bool) : List Task :=
  if frame then
    [.tracker, .handOver, .engineSlot, .bridgeSlot, .bridgeFrame, .doseFrame, .busFrame, .cacheSlot, .cacheFrame, .slotMap, .station,
     .monitor]
  else [.tracker, .engineSlot, .bridgeSlot, .cacheSlot, .slotMap, .monitor]

/-- What the block does with no command waiting: the first taking still owed, or nothing (log 4). -/
def State.quiet (s : State) : State :=
  match s.boundary.owed with
  | t :: _ => s.takeTask t
  | [] => s

/-! ### The end of a slot (R4, R9) -/

/-- The slot in progress ends at the present instant: `next` is the clock with the place of the slot that begins, and whether the
boundary is a frame boundary; `notices` are the slot clock's (R9). -/
def State.closeSlot (next : Clock × Bool) (notices : List Task) (df : Bool) (s : State) : State :=
  let boundary : Boundary :=
    { serial := s.boundary.serial + 1
      ended := s.clock.slot
      duration := (s.now - s.clock.slotStart) / 10
      begun := next.1.slot
      frame := next.2
      owed := notices ++ boundaryTasks next.2
      df := df
      dominant := none
      forecast := none }
  (s.setClock { next.1 with slotStart := s.now }).setBoundary boundary

/-- The slot boundary is delivered, and the blocks take it in the order the command names (log 3). -/
def State.endSlot (next : Clock × Bool) (notices : List Task) (ord : List Task) (df : Bool) (s : State) : State :=
  (s.closeSlot next notices df).takeTasks ord

/-- A REFIN edge (R2, R4). -/
def State.refinEdge (ord : List Task) (df : Bool) (s : State) : State :=
  if s.clock.held then s
  else
    match s.clock.classify s.limits s.now with
    | .glitch => s
    | .start =>
      let s := s.drain
      let (c, notices) := s.clock.acceptEdge s.limits s.now .start
      s.endSlot c.placeAfterEdge notices ord df
    | .measured elapsed =>
      let s := s.drain
      let (c, notices) := s.clock.acceptEdge s.limits s.now (.measured elapsed)
      s.endSlot c.placeAfterEdge notices ord df

/-- The slot in progress is slot 15 of a period with no last accepted edge, so its timer ends the period (R4). -/
def Clock.endsPeriod (c : Clock) : Bool := c.sip == 15 && c.lastEdge.isNone

/-- A period ends at its timer (R4, R8). -/
def State.endPeriod (ord : List Task) (df : Bool) (s : State) : State :=
  let s := s.drain
  let (c, notices) := s.clock.periodEnd s.limits
  s.endSlot c.nextPeriod notices ord df

/-- The slot timer (R4, R8). A timer that has not run out, and a stretched slot 15, end nothing. -/
def State.slotTimer (ord : List Task) (df : Bool) (s : State) : State :=
  if s.clock.held ∨ s.clock.timerDue s.now = false then s
  else if s.clock.sip < 15 then
    let s := s.drain
    s.endSlot ({ s.clock with sip := s.clock.sip + 1 }, false) [] ord df
  else if s.clock.endsPeriod then s.endPeriod ord df
  else s

/-- The loss limit (R5, R7). -/
def State.lossLimit (ord : List Task) (df : Bool) (s : State) : State :=
  if s.clock.held = false ∧ s.clock.lossDue s.limits s.now then
    let s := s.drain
    s.endSlot s.clock.loseEdge.nextPeriod [] ord df
  else s

/-- The eighth period end in HOLDOVER is at hand (R8). -/
def Clock.holdoverEnds (c : Clock) : Bool := c.lock == .holdover && c.holdoverCount == 7 && c.endsPeriod

/-- The period end that raises the holdover count to 8 (R8). -/
def State.holdoverExpiry (ord : List Task) (df : Bool) (s : State) : State :=
  if s.clock.held = false ∧ s.clock.timerDue s.now ∧ s.clock.holdoverEnds then s.endPeriod ord df else s

/-! ### The commands -/

/-- REFIN_EDGE (R2). -/
def execRefinEdge (t : Instant) (ord : List Task) (df : Bool) (s : State) : Host.Outcome State Fault Refusal :=
  .next (s.unlessHeld fun s => (s.advance t).refinEdge ord df)

/-- SLOT_TIMER_EXPIRY (R4). -/
def execSlotTimerExpiry (t : Instant) (ord : List Task) (df : Bool) (s : State) : Host.Outcome State Fault Refusal :=
  .next (s.unlessHeld fun s => (s.advance t).slotTimer ord df)

/-- LOSS_LIMIT_EXPIRY (R5). -/
def execLossLimitExpiry (t : Instant) (ord : List Task) (df : Bool) (s : State) : Host.Outcome State Fault Refusal :=
  .next (s.unlessHeld fun s => (s.advance t).lossLimit ord df)

/-- HOLDOVER_EXPIRY (R8). -/
def execHoldoverExpiry (t : Instant) (ord : List Task) (df : Bool) (s : State) : Host.Outcome State Fault Refusal :=
  .next (s.unlessHeld fun s => (s.advance t).holdoverExpiry ord df)

/-- A block's own row of the table at a boundary: when the thing is at hand and the taking is still owed, the block takes its boundary
now (log 3). -/
def State.ownTaking (t : Task) (due : State → Bool) (s : State) : State :=
  s.unlessHeld fun s => if s.boundary.owed.contains t && due s then s.takeTask t else s

/-! ### Rows of the cache, the tracker, the bridge link and the station controller -/

/-- A scheduled answer is at its last slot boundary (R32). -/
def State.answerDue (s : State) : Bool := s.cache.answers.any fun a => a.remaining == 1

/-- A wanted record acts at this frame boundary (R29, R30). -/
def State.wantedDue (unavailable : Bool) (s : State) : Bool :=
  s.cache.wanted.any fun w => w.unavailable == unavailable && (w.sendDue || decide (w.framesToNext ≤ 1))

/-- An unannounced entry's query is submitted at this frame boundary (R56). -/
def State.carrierQueryDue (s : State) : Bool :=
  s.boundary.frame
    && s.tracker.table.any fun e => e.unannounced && (e.queryDue || (decide (e.querySends < 3) && decide (e.framesToNext ≤ 1)))

/-- ANSWER_DUE (R32). -/
def execAnswerDue (s : State) : Host.Outcome State Fault Refusal := .next (s.ownTaking .cacheSlot State.answerDue)

/-- RECIPE_QUERY_DUE (R29). -/
def execRecipeQueryDue (s : State) : Host.Outcome State Fault Refusal := .next (s.ownTaking .cacheFrame (State.wantedDue false))

/-- UNAVAILABLE_QUERY_DUE (R30). -/
def execUnavailableQueryDue (s : State) : Host.Outcome State Fault Refusal :=
  .next (s.ownTaking .cacheFrame (State.wantedDue true))

/-- CARRIER_QUERY_DUE (R56). -/
def execCarrierQueryDue (s : State) : Host.Outcome State Fault Refusal := .next (s.ownTaking .tracker State.carrierQueryDue)

/-- The deadline is at hand (R110, R112). -/
def State.deadlineDue (s : State) : Bool := s.bridge.awaited == some .runOut

/-- The 64th slot boundary of a trip rest (R117). -/
def State.restDue (s : State) : Bool := s.bridge.state == .tripped && s.bridge.restCount == 63

/-- The sixteenth frame boundary of a trip window (R119). -/
def State.tripWindowDue (s : State) : Bool := s.bridge.tripCount == 1 && s.bridge.tripWindow == 15

/-- The choice of log 5 that a command brings to the boundary. -/
def State.choose (df : Bool) (s : State) : State := s.setBoundary { s.boundary with df := df }

/-- CONFIRM_DEADLINE (R112). -/
def execConfirmDeadline (df : Bool) (s : State) : Host.Outcome State Fault Refusal :=
  .next ((s.unlessHeld (State.choose df)).ownTaking .bridgeSlot State.deadlineDue)

/-- TRIP_REST_END (R117). -/
def execTripRestEnd (df : Bool) (s : State) : Host.Outcome State Fault Refusal :=
  .next ((s.unlessHeld (State.choose df)).ownTaking .bridgeSlot State.restDue)

/-- TRIP_WINDOW_EXPIRY (R119). -/
def execTripWindowExpiry (s : State) : Host.Outcome State Fault Refusal := .next (s.ownTaking .bridgeFrame State.tripWindowDue)

/-- The second frame boundary in SELF-TEST (R168). -/
def State.verdictDue (s : State) : Bool := s.station.state == .selfTest && s.station.selfFrames == 1

/-- The ninth frame boundary of the join count (R169). -/
def State.joinDue (s : State) : Bool := s.station.state == .listening && s.station.joinCount == some 8

/-- SELF_TEST_VERDICT (R168). -/
def execSelfTestVerdict (t : Instant) (s : State) : Host.Outcome State Fault Refusal :=
  .next ((s.unlessHeld (State.advance t)).ownTaking .station State.verdictDue)

/-- JOIN_COUNT_EXPIRY (R169). -/
def execJoinCountExpiry (s : State) : Host.Outcome State Fault Refusal := .next (s.ownTaking .station State.joinDue)

/-! ### Rows of the slot map -/

/-- A peer record reaches age 24 at this frame boundary (R65). -/
def State.ageOutDue (s : State) : Bool := s.boundary.frame && s.map.peers.any fun p => decide (23 ≤ p.age)

/-- The unneeded count reaches 16 at this frame boundary (R80). -/
def State.unneededDue (s : State) : Bool :=
  s.boundary.frame && s.map.active.isSome && !s.engine.active.needsClaim && s.map.unneeded == 15

/-- The window closes at this frame boundary, its own slot boundary counted (R78). -/
def State.windowDue (s : State) : Bool := s.boundary.frame && s.map.pending.isSome && s.map.tickWindow.windowClosed

/-- The planning hold reaches 0 at this frame boundary (R72). -/
def State.holdDue (s : State) : Bool := s.boundary.frame && s.map.hold == 1

/-- The refresh count reaches 8 at this frame boundary (R69). -/
def State.refreshDue (s : State) : Bool := s.boundary.frame && !s.map.pairEmpty && decide (7 ≤ s.map.refresh)

/-- A CLAIM is owed at this boundary (R67, R68). -/
def State.retryDue (s : State) : Bool := s.map.sendDue && (s.boundary.frame || !s.map.dueAtFrame)

/-- PEER_RECORD_AGE_OUT (R65). -/
def execPeerRecordAgeOut (s : State) : Host.Outcome State Fault Refusal := .next (s.ownTaking .slotMap State.ageOutDue)

/-- UNNEEDED_EXPIRY (R80). -/
def execUnneededExpiry (s : State) : Host.Outcome State Fault Refusal := .next (s.ownTaking .slotMap State.unneededDue)

/-- WINDOW_CLOSE (R78). -/
def execWindowClose (s : State) : Host.Outcome State Fault Refusal := .next (s.ownTaking .slotMap State.windowDue)

/-- PLANNING_HOLD_EXPIRY (R72). -/
def execPlanningHoldExpiry (s : State) : Host.Outcome State Fault Refusal := .next (s.ownTaking .slotMap State.holdDue)

/-- REFRESH_DUE (R69). -/
def execRefreshDue (s : State) : Host.Outcome State Fault Refusal := .next (s.ownTaking .slotMap State.refreshDue)

/-- CLAIM_RETRY (R67, R68). -/
def execClaimRetry (s : State) : Host.Outcome State Fault Refusal := .next (s.ownTaking .slotMap State.retryDue)

end Sys2Proof.Machine
end

