-- ==== Sys2Proof/Machine/Frames.lean ====
section
/-! DEFINITION. Frames that their owners take from the receive queue (R36, R161, R173). -/

namespace Sys2Proof.Machine

open Sys2Proof

/-- The head frame leaves the queue when its owner takes it; a head of another kind, or an empty queue, gives the owner nothing
(R161). -/
def State.takeFrame (kind : FrameKind) (act : RxFrame → State → State) (s : State) : State :=
  s.unlessHeld fun s =>
    match s.bus.rxQueue with
    | f :: rest => if f.kind = kind then (act f (s.updateBus fun b => { b with rxQueue := rest })).flushClaim else s
    | [] => s

/-- TAKE_ADMIT (R36, R37). -/
def execTakeAdmit (s : State) : Host.Outcome State Fault Refusal := .next (s.takeFrame .admission State.takeAdmitFrame)

/-- TAKE_HANDOVER (R36, R38). -/
def execTakeHandover (s : State) : Host.Outcome State Fault Refusal := .next (s.takeFrame .handover State.takeHandoverFrame)

/-- TAKE_CARRIER_QUERY (R36, R58). -/
def execTakeCarrierQuery (s : State) : Host.Outcome State Fault Refusal :=
  .next (s.takeFrame .carrierQuery State.takeQueryFrame)

/-- TAKE_RECIPE (R22). -/
def execTakeRecipe (s : State) : Host.Outcome State Fault Refusal := .next (s.takeFrame .recipe State.takeRecipeFrame)

/-- TAKE_RECIPE_QUERY (R31). -/
def execTakeRecipeQuery (s : State) : Host.Outcome State Fault Refusal :=
  .next (s.takeFrame .recipeQuery State.takeRecipeQueryFrame)

/-- TAKE_RELEASE (R173). -/
def execTakeRelease (s : State) : Host.Outcome State Fault Refusal :=
  .next (s.takeFrame .release fun _ s => s.takeReleaseFrame)

end Sys2Proof.Machine
end

