-- ==== Sys2Proof/Machine/Gates.lean ====
section
/-! DEFINITION. Gate edges and encoder counts (R40 to R46). -/

namespace Sys2Proof.Machine

open Sys2Proof

/-- A gate edge or an encoder count, in the states in which the tracker takes them (R34, R59). -/
def State.sense (act : State → State) (s : State) : State :=
  s.unlessHeld fun s => if s.station.state.tracks then act s else s

/-- ENTRY_RISING (R40, R41). -/
def execEntryRising (s : State) : Host.Outcome State Fault Refusal := .next (s.sense State.entryRise)

/-- ENTRY_FALLING (R42). -/
def execEntryFalling (s : State) : Host.Outcome State Fault Refusal := .next (s.sense State.entryFall)

/-- EXIT_RISING (R45). -/
def execExitRising (s : State) : Host.Outcome State Fault Refusal := .next (s.sense State.exitRise)

/-- EXIT_FALLING (R46). -/
def execExitFalling (s : State) : Host.Outcome State Fault Refusal := .next (s.sense State.exitFall)

/-- FORWARD_COUNT (R43). -/
def execForwardCount (s : State) : Host.Outcome State Fault Refusal := .next (s.sense State.countForward)

/-- BACKWARD_COUNT (R44). -/
def execBackwardCount (s : State) : Host.Outcome State Fault Refusal := .next (s.sense State.countBackward)

end Sys2Proof.Machine
end

