-- ==== Sys2Proof/Machine/Link.lean ====
section
/-! DEFINITION. The commands of the bridge link: the lane, its windows and timers, and the messages of the power stage (chapter 6). -/

namespace Sys2Proof.Machine

open Sys2Proof

/-- LANE_SEND (R107). -/
def execLaneSend (s : State) : Host.Outcome State Fault Refusal := .next (s.unlessHeld (State.updateBridge Bridge.send))

/-- BLROOM_RISE (R108). While RSTN is asserted the pin level alone changes. -/
def execBlroomRise (s : State) : Host.Outcome State Fault Refusal :=
  if s.station.held then .next (s.updateBridge fun b => { b with blroom := true }) else .next (s.updateBridge Bridge.room)

/-- SETPOINT_SENT (R107, R108, R110). -/
def execSetpointSent (t : Instant) (s : State) : Host.Outcome State Fault Refusal :=
  .next (s.unlessHeld fun s => (s.advance t).sentSetpoint (s.advance t).now)

/-- MARK_SENT (R107 to R109). -/
def execMarkSent (t : Instant) (df : Bool) (s : State) : Host.Outcome State Fault Refusal :=
  .next (s.unlessHeld fun s => ((s.advance t).sentMark (s.advance t).now df).flushClaim)

/-- OFF_SENT (R107, R108, R121). -/
def execOffSent (t : Instant) (s : State) : Host.Outcome State Fault Refusal :=
  .next (s.unlessHeld fun s => (s.advance t).sentOff (s.advance t).now)

/-- TAKE_WINDOW_EXPIRY (R108). -/
def execTakeWindowExpiry (t : Instant) (df : Bool) (s : State) : Host.Outcome State Fault Refusal :=
  .next (s.unlessHeld fun s => ((s.advance t).takeRunOut (s.advance t).now df).flushClaim)

/-- READING_WINDOW_EXPIRY (R109). -/
def execReadingWindowExpiry (t : Instant) (df : Bool) (s : State) : Host.Outcome State Fault Refusal :=
  .next (s.unlessHeld fun s => ((s.advance t).readingRunOut (s.advance t).now df).flushClaim)

/-- CONFIRM_TIMER_EXPIRY (R110). -/
def execConfirmTimerExpiry (t : Instant) (s : State) : Host.Outcome State Fault Refusal :=
  .next (s.unlessHeld fun s => (s.advance t).updateBridge (Bridge.confirmRunOut (s.advance t).now))

/-- ACK_RECEIVED (R112, R180); a message that fails its check, or is no ACK, is discarded (log 11). -/
def execAckReceived (message : LinkWord) (df : Bool) (s : State) : Host.Outcome State Fault Refusal :=
  .next (s.unlessHeld fun s =>
    match readReturn message with
    | some (.ack a) => (s.takeAck a df).flushClaim
    | some (.reading _ _ _) => s
    | some (.fault _) => s
    | none => s)

/-- READING_RECEIVED (R113, R114, R180); a message that fails its check, or is no READING, is discarded (log 11). -/
def execReadingReceived (message : LinkWord) (df : Bool) (s : State) : Host.Outcome State Fault Refusal :=
  .next (s.unlessHeld fun s =>
    match readReturn message with
    | some (.reading current voltage slot) => (s.takeReading ⟨current, voltage⟩ slot df).flushClaim
    | some (.ack _) => s
    | some (.fault _) => s
    | none => s)

/-- FAULT_RECEIVED (R115, R180); a message that fails its check, or is no FAULT, is discarded (log 11). -/
def execFaultReceived (message : LinkWord) (df : Bool) (s : State) : Host.Outcome State Fault Refusal :=
  .next (s.unlessHeld fun s =>
    match readReturn message with
    | some (.fault cause) => (s.trip cause df).flushClaim
    | some (.ack _) => s
    | some (.reading _ _ _) => s
    | none => s)

end Sys2Proof.Machine
end

