-- ==== Sys2Proof/Machine/Life.lean ====
section
/-! DEFINITION. The commands of reset and configuration (R164 to R167). -/

namespace Sys2Proof.Machine

open Sys2Proof

/-- HARDWARE_RESET (R164). -/
def execHardwareReset (s : State) : Host.Outcome State Fault Refusal := .next s.hardReset

/-- RSTN_RELEASE (R164). -/
def execRstnRelease (s : State) : Host.Outcome State Fault Refusal := .next s.releaseReset

/-- CONFIGURATION_READ_DONE (R165 to R167). -/
def execConfigurationReadDone (t : Instant) (image : List Byte) (s : State) : Host.Outcome State Fault Refusal :=
  .next (s.unlessHeld fun s => (s.advance t).takeImage image)

end Sys2Proof.Machine
end

