-- ==== Sys2Proof/Machine/Dispatch.lean ====
section
/-! DEFINITION. The dispatch of a command to its meaning: one arm per row of the table. -/

namespace Sys2Proof.Machine

open Sys2Proof

def exec (i : Instr) (s : State) : Host.Outcome State Fault Refusal :=
  match i with
  | .hardwareReset => Sys2Proof.Machine.execHardwareReset s
  | .rstnRelease => Sys2Proof.Machine.execRstnRelease s
  | .configurationReadDone t image => Sys2Proof.Machine.execConfigurationReadDone t image s
  | .refinEdge t ord df => Sys2Proof.Machine.execRefinEdge t ord df s
  | .slotTimerExpiry t ord df => Sys2Proof.Machine.execSlotTimerExpiry t ord df s
  | .lossLimitExpiry t ord df => Sys2Proof.Machine.execLossLimitExpiry t ord df s
  | .holdoverExpiry t ord df => Sys2Proof.Machine.execHoldoverExpiry t ord df s
  | .frameEndReceived t df => Sys2Proof.Machine.execFrameEndReceived t df s
  | .rxFrameAbandoned t symbol => Sys2Proof.Machine.execRxFrameAbandoned t symbol s
  | .receiveTimeout t => Sys2Proof.Machine.execReceiveTimeout t s
  | .txStart look => Sys2Proof.Machine.execTxStart look s
  | .txFrameSent t => Sys2Proof.Machine.execTxFrameSent t s
  | .collision t => Sys2Proof.Machine.execCollision t s
  | .backoffExpiry t => Sys2Proof.Machine.execBackoffExpiry t s
  | .takeAdmit => Sys2Proof.Machine.execTakeAdmit s
  | .takeHandover => Sys2Proof.Machine.execTakeHandover s
  | .takeCarrierQuery => Sys2Proof.Machine.execTakeCarrierQuery s
  | .takeRecipe => Sys2Proof.Machine.execTakeRecipe s
  | .takeRecipeQuery => Sys2Proof.Machine.execTakeRecipeQuery s
  | .answerDue => Sys2Proof.Machine.execAnswerDue s
  | .recipeQueryDue => Sys2Proof.Machine.execRecipeQueryDue s
  | .unavailableQueryDue => Sys2Proof.Machine.execUnavailableQueryDue s
  | .takeRelease => Sys2Proof.Machine.execTakeRelease s
  | .entryRising => Sys2Proof.Machine.execEntryRising s
  | .entryFalling => Sys2Proof.Machine.execEntryFalling s
  | .exitRising => Sys2Proof.Machine.execExitRising s
  | .exitFalling => Sys2Proof.Machine.execExitFalling s
  | .forwardCount => Sys2Proof.Machine.execForwardCount s
  | .backwardCount => Sys2Proof.Machine.execBackwardCount s
  | .carrierQueryDue => Sys2Proof.Machine.execCarrierQueryDue s
  | .peerRecordAgeOut => Sys2Proof.Machine.execPeerRecordAgeOut s
  | .unneededExpiry => Sys2Proof.Machine.execUnneededExpiry s
  | .windowClose => Sys2Proof.Machine.execWindowClose s
  | .planningHoldExpiry => Sys2Proof.Machine.execPlanningHoldExpiry s
  | .refreshDue => Sys2Proof.Machine.execRefreshDue s
  | .claimRetry => Sys2Proof.Machine.execClaimRetry s
  | .laneSend => Sys2Proof.Machine.execLaneSend s
  | .blroomRise => Sys2Proof.Machine.execBlroomRise s
  | .setpointSent t => Sys2Proof.Machine.execSetpointSent t s
  | .markSent t df => Sys2Proof.Machine.execMarkSent t df s
  | .offSent t => Sys2Proof.Machine.execOffSent t s
  | .takeWindowExpiry t df => Sys2Proof.Machine.execTakeWindowExpiry t df s
  | .readingWindowExpiry t df => Sys2Proof.Machine.execReadingWindowExpiry t df s
  | .confirmTimerExpiry t => Sys2Proof.Machine.execConfirmTimerExpiry t s
  | .confirmDeadline df => Sys2Proof.Machine.execConfirmDeadline df s
  | .ackReceived message df => Sys2Proof.Machine.execAckReceived message df s
  | .readingReceived message df => Sys2Proof.Machine.execReadingReceived message df s
  | .faultReceived message df => Sys2Proof.Machine.execFaultReceived message df s
  | .tripRestEnd df => Sys2Proof.Machine.execTripRestEnd df s
  | .tripWindowExpiry => Sys2Proof.Machine.execTripWindowExpiry s
  | .selfTestVerdict t => Sys2Proof.Machine.execSelfTestVerdict t s
  | .joinCountExpiry => Sys2Proof.Machine.execJoinCountExpiry s
  | .startMarkReceived t => Sys2Proof.Machine.execStartMarkReceived t s
  | .dataSymbolReceived t byte => Sys2Proof.Machine.execDataSymbolReceived t byte s

end Sys2Proof.Machine
end

