-- ==== Sys2Proof/Safety.lean ====
section
/-! DEFINITION. What stays true of the TZ-40 at every step: the bounds and relations that the rules give its state, and the vocabulary
of the statements. -/

namespace Sys2Proof.Machine

open Sys2Proof

/-! ### The slot clock (chapter 1) -/

/-- The clock without the aligned flag and the disagreement tracker, which the station controller also moves (R12). -/
def Clock.core (c : Clock) : Clock := { c with aligned := false, tracker := [] }

/-- The counts lie in the ranges of chapter 1's table, and the counts of one lock state are 0 in the others (R5 to R8). -/
def Clock.countsInRange (c : Clock) : Prop :=
  c.sip ≤ 15 ∧ c.pif ≤ 3 ∧ c.goodRun ≤ 7 ∧ c.badRun ≤ 3 ∧ c.holdoverCount ≤ 7
    ∧ (c.lock ≠ .unlocked → c.goodRun = 0) ∧ (c.lock ≠ .locked → c.badRun = 0) ∧ (c.lock ≠ .holdover → c.holdoverCount = 0)

/-- In HOLDOVER there is no last accepted edge (R5, R8). -/
def Clock.holdoverHasNoEdge (c : Clock) : Prop := c.lock = .holdover → c.lastEdge = none

/-- A running clock gives slots of nominal length while UNLOCKED, and of a length within the clamp in every lock state (R3). -/
def Clock.lengthInClamp (h : Thresholds) (c : Clock) : Prop :=
  c.held = false →
    h.clampLow ≤ c.slotLength ∧ c.slotLength ≤ h.clampHigh ∧ (c.lock = .unlocked → c.slotLength = h.nominalSlot)

/-- The disagreement tracker: one record per peer address, each with an offset of one, two or three periods, and at most two records
for each offset (R13). -/
def trackerInRange (records : List Disagreement) : Prop :=
  (records.map Disagreement.address).Nodup
    ∧ (∀ x ∈ records, x.offset = 16 ∨ x.offset = 32 ∨ x.offset = 48)
    ∧ ∀ q, (records.filter fun x => x.offset == q).length ≤ 2

/-- The slot clock's invariant. -/
def ClockInv (s : State) : Prop :=
  s.clock.countsInRange ∧ s.clock.holdoverHasNoEdge ∧ s.clock.lengthInClamp s.limits ∧ trackerInRange s.clock.tracker

/-! ### Reverse current only under a claim (R61, R93, R100) -/

/-- A station held in reset or reading its configuration is in LOADING; outside JOINED the own pair is empty; and a reverse setpoint is
in force only while the own active part stands. -/
def ReverseInv (s : State) : Prop :=
  (s.station.held = true ∨ s.station.reading = true → s.station.state = .loading)
    ∧ (s.station.state ≠ .joined → s.map.active = none ∧ s.map.pending = none)
    ∧ (s.engine.setpoint.dir = .rev → s.map.active.isSome = true)

/-! ### The bridge is OFF where nothing may be plated, and no current exceeds its rating (R106) -/

/-- The station states in which the bridge is kept OFF (R106). -/
def StationState.bridgeOff : StationState → Bool
  | .loading => true
  | .configFault => true
  | .selfTest => true
  | .lockout => true
  | .listening => false
  | .joined => false
  | .isolated => false

/-- A setpoint lies within the rating of its direction; REST has current 0 (R106). -/
def Setpoint.within (cfg : Cfg) (sp : Setpoint) : Prop := sp.current ≤ ratingOf cfg sp.dir

/-- Every setpoint that waits, goes out, is held, was accepted early or was last sent lies within its rating. -/
def Bridge.withinRatings (cfg : Cfg) (b : Bridge) : Prop :=
  (∀ sp, .setpoint sp ∈ b.buffer → sp.within cfg) ∧ (∀ sp, b.sending = some (.setpoint sp) → sp.within cfg)
    ∧ (∀ sp, b.held = some sp → sp.within cfg) ∧ (∀ a, b.early = some a → a.sp.within cfg)
    ∧ ∀ sp, b.lastSent = .setpoint sp → sp.within cfg

/-- The bridge is OFF, and nothing has asked it to leave OFF, in LOADING, CONFIG FAULT, SELF-TEST and LOCKOUT; a bridge outside OFF has
left it; and no commanded current exceeds its rating. -/
def BridgeInv (s : State) : Prop :=
  (s.station.held = true ∨ s.station.reading = true → s.station.state = .loading ∧ s.station.cfg = none)
    ∧ (s.station.state.bridgeOff = true → s.bridge.state = .off ∧ s.bridge.leaving = .no)
    ∧ (s.bridge.state ≠ .off → s.bridge.leaving = .no)
    ∧ s.bridge.withinRatings s.cfg

/-! ### The queues of the zone bus (R150, R151, R161) -/

/-- The CLAIM frames held. -/
def Bus.claimsHeld (b : Bus) : Nat := (b.inFlight.toList ++ b.urgent ++ b.normal).countP TxFrame.isClaim

/-- The frame in flight is a CLAIM that has started. -/
def Bus.startedClaim (b : Bus) : Bool := b.inFlight.any fun f => f.isClaim && f.started

/-- At most 8 frames and at most one CLAIM are held to send, at most 8 frames wait to be taken, the transmitter is IDLE exactly when no
frame is in flight, and a follow-on stands only behind a started CLAIM. -/
def Bus.inBounds (b : Bus) : Prop :=
  b.heldFrames ≤ 8 ∧ b.claimsHeld ≤ 1 ∧ b.rxQueue.length ≤ 8 ∧ (b.tx = .idle ↔ b.inFlight = none)
    ∧ (b.followOn.isSome = true → b.startedClaim = true)

/-! ### The pending report set (R142) -/

/-- The reports stand by strictly rising priority number, so at most one stands for each kind, and no superseded count is above 15. -/
def reportsInOrder (rs : List Report) : Prop :=
  rs.Pairwise (fun a b => a.kind.priority < b.kind.priority) ∧ ∀ r ∈ rs, r.superseded ≤ 15

/-! ### The carrier table (R35, R50, R55) -/

/-- At most 6 entries, no two with one tag or with a tag still to be given, every PRESENT one before every EXPECTED one, and at most 4
retained records. -/
def Tracker.inBounds (t : Tracker) : Prop :=
  t.table.length ≤ 6 ∧ t.table.Pairwise (fun a b => a.tag ≠ b.tag) ∧ (∀ e ∈ t.table, e.tag < t.nextTag)
    ∧ t.table.Pairwise (fun a b => b.present = true → a.present = true) ∧ t.retained.length ≤ 4

/-! ### Claims called for (R63, R67, R85) -/

/-- Between two events no CLAIM frame is called for: an event that calls for one submits it, or finds that the station state forbids
it, before it ends (log 23). -/
def State.claimsFlushed (s : State) : Prop := s.map.calls = false

/-- The queues, the report set and the tables lie in their bounds, no CLAIM is left called for, and no open record has a tag still to be
given. -/
def BoundsInv (s : State) : Prop :=
  s.bus.inBounds ∧ reportsInOrder s.mon.reports ∧ s.tracker.inBounds ∧ s.claimsFlushed
    ∧ ∀ r ∈ s.dose.records, r.tag < s.tracker.nextTag

/-! ### Words of the statements -/

/-- RSTN is released, so that the part takes events (R164). -/
def State.running (s : State) : Prop := s.station.held = false

/-- The slot clock of a running part runs: it is not held (R1). -/
def State.clockRuns (s : State) : Prop := s.running ∧ s.clock.held = false

/-- The instant at which an event stamped `t` is taken (log 1). -/
def State.at (t : Instant) (s : State) : Instant := max s.now t

/-- The instant from which the quiet time counts after line activity to `t`: the later of it and of activity already known (R148). -/
def State.quietFrom (t : Instant) (s : State) : Instant := max t (s.bus.lastActivity.getD 0)

/-- The element of a slot in a store: the last of that slot itself, by its serial number, or with that not stored the last of its number
(R127; log 35). -/
def IsOfSlot {α : Type} (slotOf serialOf : α → Nat) (slot serial : Nat) (xs : List α) (x : α) : Prop :=
  ∃ pre post, xs = pre ++ x :: post ∧ slotOf x = slot
    ∧ ((serialOf x = serial ∧ ∀ y ∈ post, slotOf y = slot → serialOf y ≠ serial)
      ∨ ((∀ y ∈ xs, slotOf y = slot → serialOf y ≠ serial) ∧ ∀ y ∈ post, slotOf y ≠ slot))

/-- The boundary that `u` holds ended the slot in progress of `s`, with what a slot boundary event carries (R9). -/
def SlotEnded (s u : State) (frame : Bool) : Prop :=
  u.boundary.ended = s.clock.slot
    ∧ u.boundary.duration = (u.now - s.clock.slotStart) / 10
    ∧ u.boundary.begun = u.clock.slot
    ∧ u.boundary.frame = frame
    ∧ u.clock.slotStart = u.now

/-- The step answers a next state of which `p` holds. -/
def Completes (o : Host.Outcome State Fault Refusal) (p : State → Prop) : Prop := ∃ t, o = .next t ∧ p t

end Sys2Proof.Machine
end

