-- ==== Sys2Proof/Certificates/Slice0/Obligations.lean ====
section
/-! DEFINITION. The statements for the provers. -/

open Sys2Proof Sys2Proof.Machine

/-! ### The machine -/

/-- A step with a command waiting is that command's meaning, on the state with the rest of the queue. With none waiting it takes the
first thing that the last slot boundary still owes, and idles when it owes nothing: the model's choice (log 4). What a block takes of a
boundary is the operation that the other statements speak of, and the CLAIM it calls for follows; the engine's hand-over and slot, and the
bridge link's slot, wait for what they need. Model's choices in it: logs 3, 4, 23. -/
def Obligations.StepRunsTheFrontCommand : Prop :=
  (∀ (c : Instr) (rest : List Instr) (s : State), s.pending = c :: rest → step s = exec c (s.setPending rest))
    ∧ (∀ s : State, s.pending = [] →
      (s.boundary.owed = [] → step s = .next s)
        ∧ ∀ t ts, s.boundary.owed = t :: ts → step s = .next (s.takeTask t))
    ∧ ∀ (s : State) (t : Task), t ∈ s.boundary.owed →
      let left : State := { s with boundary := { s.boundary with owed := s.boundary.owed.filter fun x => x != t } }
      (t = .tracker → s.takeTask t = left.trackerBoundary.flushClaim)
        ∧ (t = .handOver → .tracker ∉ s.boundary.owed →
          s.takeTask t = (left.handOver s.boundary.dominant s.boundary.forecast).flushClaim)
        ∧ (t = .engineSlot → .tracker ∉ s.boundary.owed → .handOver ∉ s.boundary.owed →
          s.takeTask t = left.engineSlot.flushClaim)
        ∧ (t = .bridgeSlot → .tracker ∉ s.boundary.owed → s.takeTask t = left.bridgeSlot.flushClaim)
        ∧ (t = .doseFrame → s.takeTask t = left.doseFrame.flushClaim)
        ∧ (t = .busFrame → s.takeTask t = left.busFrame.flushClaim)
        ∧ (t = .monitor → s.takeTask t = left.offer.flushClaim)

/-! ### Reset and configuration (R164 to R167) -/

/-- Hardware reset gives every block the reset values of its chapter's table; the waiting commands, the instant and the level
of BLROOM are not the part's own (log 9). Model's choices in it: logs 8, 9, 10, 15, 20, 21, 23, 32, 33, 36,
47. -/
def Obligations.HardwareResetLeavesEveryBlockAtReset : Prop :=
  ∀ s : State, Completes (exec .hardwareReset s) fun u =>
    u.pending = s.pending ∧ u.now = s.now
      ∧ u.station = ⟨.loading, none, 1, false, 0, false, none, true, false⟩
      ∧ u.clock = ⟨true, .unlocked, none, none, 0, 0, 0, 0, 0, 0, false, [], 0⟩
      ∧ u.bus = ⟨.idle, none, 0, none, [], [], none, 0, .off, false, [], ⟨false, false, false, false⟩, false⟩
      ∧ u.cache = ⟨[], [], []⟩
      ∧ u.tracker = ⟨[], [], none, 0, [0, 0, 0, 0], 0, false, none, none, 0, []⟩
      ∧ u.map = ⟨[], none, none, none, 0, 0, none, 0, 0, false, false, false, false⟩
      ∧ u.engine = ⟨⟨.off, none, none, 64, 0, [], none, 0, [], false, false, false⟩, none, .none, none, false, none, false,
          none, 0, ⟨.rest, 0⟩, 0, false⟩
      ∧ u.bridge = ⟨.off, .rest, none, .off, .none, [.off], none, none, none, none, 0, none, none, 0, 0, 0, false, .no,
          s.bridge.blroom⟩
      ∧ u.dose = ⟨[], [], [], 0, 0, 0, 0, false, none, 0⟩
      ∧ u.mon = ⟨0, ⟨0, 0⟩, ⟨0, 0⟩, ⟨0, 0⟩, ⟨0, 0⟩, [], .loading, false, true⟩
      ∧ u.boundary.owed = []

/-- While RSTN is asserted every block holds what it has: no command but the reset itself, the release of RSTN and the level of
BLROOM changes anything. The release begins the configuration read. Model's choices in it: logs 6, 9, 10. -/
def Obligations.HeldPartTakesNothing : Prop :=
  ∀ s : State,
    (s.station.held = true →
      exec .rstnRelease s = .next { s with station := { s.station with held := false, reading := true } }
        ∧ exec .blroomRise s = .next { s with bridge := { s.bridge with blroom := true } }
        ∧ ∀ c, c ≠ .hardwareReset → c ≠ .rstnRelease → c ≠ .blroomRise → exec c s = .next s)
      ∧ (s.station.held = false → exec .rstnRelease s = .next s)

/-- The image read at start-up: a good one starts the slot clock at slot 0 and the self-test on the internal loop with the
three TEST frames, a bad one leads to CONFIG FAULT. An image is good exactly when its check word agrees and every field lies in
its range. Model's choices in it: logs 1, 9, 12, 38. -/
def Obligations.ConfigurationReadIsJudged : Prop :=
  (∀ (s : State) (t : Instant) (image : List Byte),
      s.running → s.station.reading = true → image.length = 66 →
      (judgeImage image = none →
        exec (.configurationReadDone t image) s = .next
          { s with
            now := s.at t
            station := { s.station with state := .configFault, reading := false }
            mon := { s.mon with told := .configFault, faultn := true } })
        ∧ ∀ c, judgeImage image = some c → s.bus.tx = .idle → s.bus.inFlight = none → s.bus.urgent = [] → s.bus.normal = [] →
          exec (.configurationReadDone t image) s = .next
            { s with
              now := s.at t
              station :=
                { s.station with
                  state := .selfTest, cfg := some c, selfNext := 1, selfFault := false, selfFrames := 0, reading := false }
              clock :=
                { held := false, lock := .unlocked, lastEdge := none, measured := none
                  slotLength := (thresholdsOf c.refFreq).nominalSlot, sip := 0, pif := 0, goodRun := 0, badRun := 0
                  holdoverCount := 0, aligned := false, tracker := [], slotStart := s.at t }
              bus :=
                { s.bus with
                  loop := true, rx := .hunting, lastActivity := some (s.at t), tx := .waiting, attempts := 0
                  inFlight := some (freshFrame (.test 1) (.station c.stationAddress))
                  normal := [freshFrame (.test 2) (.station c.stationAddress), freshFrame (.test 3) (.station c.stationAddress)] }
              mon :=
                { s.mon with told := .selfTest, faultn := !s.mon.listeningReached || s.mon.isDeclared .referenceLost } })
    ∧ (∀ (image : List Byte) (c : Cfg), judgeImage image = some c ↔
      checkBytes (image.take 64) = image.drop 64 ∧ readFields image = some c
        ∧ (1 ≤ c.stationAddress ∧ c.stationAddress ≤ 62) ∧ (1 ≤ c.zoneIndex ∧ c.zoneIndex ≤ 48)
        ∧ (300 ≤ c.zoneLength ∧ c.zoneLength ≤ 6000) ∧ (1 ≤ c.zoneWindowArea ∧ c.zoneWindowArea ≤ 65535)
        ∧ (1 ≤ c.defaultArea ∧ c.defaultArea ≤ 20000) ∧ (100 ≤ c.defaultLength ∧ c.defaultLength ≤ 3000)
        ∧ (1 ≤ c.forwardRating ∧ c.forwardRating ≤ 6000) ∧ (1 ≤ c.reverseRating ∧ c.reverseRating ≤ 6000)
        ∧ (1 ≤ c.lineReverseBudget ∧ c.lineReverseBudget ≤ 65535) ∧ (1 ≤ c.onsetLimit ∧ c.onsetLimit ≤ 8)
        ∧ c.holdingDensity ≤ 500 ∧ (100 ≤ c.confirmLimit ∧ c.confirmLimit ≤ 1000)
        ∧ (5 ≤ c.overcurrentMargin ∧ c.overcurrentMargin ≤ 50) ∧ c.anodeVoltageLimit ≤ 65535
        ∧ (1 ≤ c.deviationThreshold ∧ c.deviationThreshold ≤ 8)
        ∧ ∀ r ∈ [c.bridgeSlow, c.reverseDeficit, c.anodeVoltage, c.busErrors],
            (1 ≤ r.declareAt ∧ r.declareAt ≤ 255) ∧ (1 ≤ r.clearAt ∧ r.clearAt ≤ 255))

/-! ### The slot clock (R2 to R14) -/

/-- A REFIN edge below the glitch limit changes nothing; one with no last accepted edge, or above the loss limit, is a start
edge: no measurement, both runs 0, HOLDOVER back to LOCKED with the held slot length, and the slot in progress ends by the half
rule. Model's choices in it: logs 1, 3. -/
def Obligations.RefinGlitchAndStartEdge : Prop :=
  ∀ (s : State) (t : Instant) (ord : List Task) (df : Bool), s.clockRuns →
    (∀ e, s.clock.lastEdge = some e → s.at t - e < s.limits.glitch →
      exec (.refinEdge t ord df) s = .next { s with now := s.at t })
      ∧ ((∀ e, s.clock.lastEdge = some e → s.limits.glitch ≤ s.at t - e ∧ s.limits.loss < s.at t - e) →
        Completes (exec (.refinEdge t ord df) s) fun u =>
          u.pending = s.pending ∧ u.now = s.at t
            ∧ u.clock.core = Clock.core
              { s.clock with
                lastEdge := some (s.at t), measured := none, goodRun := 0, badRun := 0
                lock := if s.clock.lock = .holdover then .locked else s.clock.lock
                holdoverCount := if s.clock.lock = .holdover then 0 else s.clock.holdoverCount
                sip := 0, pif := if 8 ≤ s.clock.sip then (s.clock.pif + 1) % 4 else s.clock.pif, slotStart := s.at t }
            ∧ SlotEnded s u (decide (8 ≤ s.clock.sip ∧ s.clock.pif = 3))
            ∧ (ord = [] → u.boundary.owed = boundaryTasks (decide (8 ≤ s.clock.sip ∧ s.clock.pif = 3))))

/-- A measured edge. In UNLOCKED the good-period run counts the edges in tolerance, and the eighth makes the clock LOCKED with
the slot length of its period. In LOCKED one in tolerance clears the bad-period run, the fourth out of tolerance makes the
clock UNLOCKED at the nominal slot length, and otherwise the slot length follows the period, within the clamp. The notices of a gained lock set
reference locked, start the join count in LISTENING and clear REFERENCE LOST; that of a lost lock clears reference locked, and ends the
count in LISTENING. Model's choices in it: logs 1, 3, 7. -/
def Obligations.RefinMeasuredEdge : Prop :=
  (∀ (s : State) (t : Instant) (ord : List Task) (df : Bool) (e : Instant), s.clockRuns →
      s.clock.lock = .unlocked → s.clock.lastEdge = some e →
      s.limits.glitch ≤ s.at t - e → s.at t - e ≤ s.limits.loss →
      let good := s.limits.bandLow ≤ s.at t - e ∧ s.at t - e ≤ s.limits.bandHigh
      let locks := good ∧ s.clock.goodRun = 7
      Completes (exec (.refinEdge t ord df) s) fun u =>
        u.pending = s.pending ∧ u.now = s.at t
          ∧ u.clock.core = Clock.core
            { s.clock with
              lastEdge := some (s.at t), measured := some ((s.at t - e) / 10)
              lock := if locks then .locked else .unlocked
              goodRun := if locks then 0 else if good then s.clock.goodRun + 1 else 0
              slotLength := if locks then slotLengthOf s.limits ((s.at t - e) / 10) else s.clock.slotLength
              sip := 0, pif := if 8 ≤ s.clock.sip then (s.clock.pif + 1) % 4 else s.clock.pif, slotStart := s.at t }
          ∧ SlotEnded s u (decide (8 ≤ s.clock.sip ∧ s.clock.pif = 3))
          ∧ (ord = [] →
            u.boundary.owed = (if locks then [.lockGainedStation, .lockGainedMonitor] else [])
              ++ boundaryTasks (decide (8 ≤ s.clock.sip ∧ s.clock.pif = 3)))
          ∧ (locks → s.boundary.owed = [] → ord = [.lockGainedStation, .lockGainedMonitor] →
            u.station =
                { s.station with
                  refLocked := true, joinCount := if s.station.state = .listening then some 0 else s.station.joinCount }
              ∧ u.mon.isDeclared .referenceLost = false))
    ∧ (∀ (s : State) (t : Instant) (ord : List Task) (df : Bool) (e : Instant), s.clockRuns →
      s.clock.lock = .locked → s.clock.lastEdge = some e →
      s.limits.glitch ≤ s.at t - e → s.at t - e ≤ s.limits.loss →
      let good := s.limits.bandLow ≤ s.at t - e ∧ s.at t - e ≤ s.limits.bandHigh
      let unlocks := ¬good ∧ s.clock.badRun = 3
      Completes (exec (.refinEdge t ord df) s) fun u =>
        u.pending = s.pending ∧ u.now = s.at t
          ∧ u.clock.core = Clock.core
            { s.clock with
              lastEdge := some (s.at t), measured := some ((s.at t - e) / 10)
              lock := if unlocks then .unlocked else .locked
              badRun := if good ∨ s.clock.badRun = 3 then 0 else s.clock.badRun + 1
              slotLength :=
                if unlocks then s.limits.nominalSlot
                else max s.limits.clampLow (min s.limits.clampHigh ((s.at t - e) / 10 / 16 * 10))
              sip := 0, pif := if 8 ≤ s.clock.sip then (s.clock.pif + 1) % 4 else s.clock.pif, slotStart := s.at t }
          ∧ SlotEnded s u (decide (8 ≤ s.clock.sip ∧ s.clock.pif = 3))
          ∧ (ord = [] →
            u.boundary.owed = (if unlocks then [.lockLost] else [])
              ++ boundaryTasks (decide (8 ≤ s.clock.sip ∧ s.clock.pif = 3)))
          ∧ (unlocks → s.boundary.owed = [] → ord = [.lockLost] →
            u.station =
              { s.station with
                refLocked := false, joinCount := if s.station.state = .listening then none else s.station.joinCount }))

/-- The slot timer ends slots 0 to 14 of a period, and slot 15 where no last accepted edge stands; a timer that has not run out
and a stretched slot 15 end nothing. In HOLDOVER a period end raises the holdover count. Model's choices in it: logs 1, 2, 3. -/
def Obligations.SlotTimerEndsSlots : Prop :=
  ∀ (s : State) (t : Instant) (ord : List Task) (df : Bool), s.clockRuns →
    let due := s.clock.slotStart + s.clock.slotLength ≤ s.at t
    (¬due ∨ (s.clock.sip = 15 ∧ s.clock.lastEdge ≠ none) →
      exec (.slotTimerExpiry t ord df) s = .next { s with now := s.at t })
      ∧ (due → s.clock.sip < 15 → Completes (exec (.slotTimerExpiry t ord df) s) fun u =>
        u.pending = s.pending ∧ u.now = s.at t
          ∧ u.clock.core = Clock.core { s.clock with sip := s.clock.sip + 1, slotStart := s.at t }
          ∧ SlotEnded s u false ∧ (ord = [] → u.boundary.owed = boundaryTasks false))
      ∧ (due → s.clock.sip = 15 → s.clock.lastEdge = none → ¬(s.clock.lock = .holdover ∧ s.clock.holdoverCount = 7) →
        Completes (exec (.slotTimerExpiry t ord df) s) fun u =>
          u.pending = s.pending ∧ u.now = s.at t
            ∧ u.clock.core = Clock.core
              { s.clock with
                sip := 0, pif := (s.clock.pif + 1) % 4, slotStart := s.at t
                holdoverCount := if s.clock.lock = .holdover then s.clock.holdoverCount + 1 else s.clock.holdoverCount }
            ∧ SlotEnded s u (s.clock.pif == 3) ∧ (ord = [] → u.boundary.owed = boundaryTasks (s.clock.pif == 3)))

/-- The loss limit ends a stretched slot 15, clears the last accepted edge and both runs, and moves LOCKED to HOLDOVER; before
it has passed, and with no last accepted edge, nothing happens. The eighth period end in HOLDOVER makes the clock UNLOCKED at
the nominal slot length; its notices declare REFERENCE LOST, clear reference locked, move JOINED to LISTENING, set SLOT LOST on
every open record and empty the own claim pair. Model's choices in it: logs 1, 2, 3, 6. -/
def Obligations.LossOfTheReference : Prop :=
  (∀ (s : State) (t : Instant) (ord : List Task) (df : Bool), s.clockRuns →
      ((∀ e, s.clock.lastEdge = some e → s.at t < e + s.limits.loss) →
        exec (.lossLimitExpiry t ord df) s = .next { s with now := s.at t })
        ∧ ∀ e, s.clock.lastEdge = some e → e + s.limits.loss ≤ s.at t → s.clock.sip = 15 →
          Completes (exec (.lossLimitExpiry t ord df) s) fun u =>
            u.pending = s.pending ∧ u.now = s.at t
              ∧ u.clock.core = Clock.core
                { s.clock with
                  lastEdge := none, goodRun := 0, badRun := 0
                  lock := if s.clock.lock = .locked then .holdover else s.clock.lock
                  holdoverCount := if s.clock.lock = .locked then 0 else s.clock.holdoverCount
                  sip := 0, pif := (s.clock.pif + 1) % 4, slotStart := s.at t }
              ∧ SlotEnded s u (s.clock.pif == 3) ∧ (ord = [] → u.boundary.owed = boundaryTasks (s.clock.pif == 3)))
    ∧ (∀ (s : State) (t : Instant) (ord : List Task) (df : Bool), s.clockRuns →
      s.clock.slotStart + s.clock.slotLength ≤ s.at t → s.clock.sip = 15 → s.clock.lastEdge = none →
      s.clock.lock = .holdover → s.clock.holdoverCount = 7 →
      Completes (exec (.holdoverExpiry t ord df) s) fun u =>
        u.pending = s.pending ∧ u.now = s.at t
          ∧ u.clock.core = Clock.core
            { s.clock with
              lock := .unlocked, holdoverCount := 0, slotLength := s.limits.nominalSlot
              sip := 0, pif := (s.clock.pif + 1) % 4, slotStart := s.at t }
          ∧ SlotEnded s u (s.clock.pif == 3)
          ∧ (ord = [] → u.boundary.owed =
              [.refLostMonitor, .refLostStation, .refLostDose, .refLostMap] ++ boundaryTasks (s.clock.pif == 3))
          ∧ (s.boundary.owed = [] → ord = [.refLostMonitor, .refLostStation, .refLostDose, .refLostMap] →
              u.mon.isDeclared .referenceLost = true ∧ u.station.refLocked = false
                ∧ (s.station.state = .joined → u.station.state = .listening ∧ u.station.joinCount = none)
                ∧ (∀ r ∈ u.dose.records, r.has .slotLost = true)
                ∧ (s.map.live = true → u.map.active = none ∧ u.map.pending = none)))

/-- The offset of a stamp and its class, by the table of R10. -/
def Obligations.StampVerdicts : Prop :=
  ∀ own stamp : Nat, own < 64 → stamp < 64 →
    ∃ d : Nat, d < 64 ∧ ((own : Int) - (stamp : Int)) % 64 = (d : Int) ∧ stampOffset own stamp = d
      ∧ (verdictOf d = .agree ↔ d = 0 ∨ d = 1)
      ∧ (verdictOf d = .early ↔ d = 63)
      ∧ (verdictOf d = .reject ↔ 2 ≤ d % 16 ∧ d % 16 ≤ 14)
      ∧ ∀ q, verdictOf d = .disagree q ↔
        d ≠ 0 ∧ d ≠ 1 ∧ d ≠ 63
          ∧ (d % 16 = 0 ∧ q = d ∨ d % 16 = 1 ∧ q = d - 1 ∨ d % 16 = 15 ∧ q = (d + 1) % 64)

/-- What the slot clock does with a peer's stamp: while aligned, the disagreement tracker and, at the third peer of one offset, a slip;
while not aligned, the alignment. A slip renumbers, raises SLIP with cause SHIFT, empties the peer table and the own pair, holds planning
for at least 8 frames, has the engine rebuild an ACTIVE context with reverse runs in FORWARD-ONLY, and sets SLOT LOST on every open record;
a longer hold that runs already stands. Model's choices in it: logs 40, 53, 69. -/
def Obligations.PeerStampsAreJudged : Prop :=
  (∀ (s : State) (address stamp : Nat),
    let d := stampOffset s.clock.slot stamp
    let tracked (q : Nat) := s.clock.tracker.filter (fun x => x.address != address) ++ [⟨address, q⟩]
    (s.clock.aligned = true →
      (verdictOf d = .agree → s.judgeStamp address stamp = ({ s with clock := { s.clock with tracker := [] } }, .agree))
        ∧ (verdictOf d = .early → s.judgeStamp address stamp = (s, .early))
        ∧ (verdictOf d = .reject → s.judgeStamp address stamp = (s.raise .slip .mismatch, .reject))
        ∧ ∀ q, verdictOf d = .disagree q →
          (((tracked q).filter fun x => x.offset == q).length < 3 →
            s.judgeStamp address stamp = ({ s with clock := { s.clock with tracker := tracked q } }, .disagree q))
            ∧ (3 ≤ ((tracked q).filter fun x => x.offset == q).length →
              let u := (s.judgeStamp address stamp).1
              (s.judgeStamp address stamp).2 = .disagree q
                ∧ u = (((s.renumber q).raise .slip .shift).mapSlip.engineSlip).flagAll .slotLost
                ∧ u.clock = { s.clock with pif := (s.clock.pif + 4 - q / 16) % 4, tracker := [] }
                ∧ u.map.peers = [] ∧ u.map.active = none ∧ u.map.pending = none ∧ u.map.hold = max s.map.hold 8
                ∧ ∀ r ∈ u.dose.records, r.has .slotLost = true))
      ∧ (s.clock.aligned = false →
        (verdictOf d = .agree ∨ verdictOf d = .early →
          s.judgeStamp address stamp = ({ s with clock := { s.clock with aligned := true } }, verdictOf d))
          ∧ (verdictOf d = .reject → s.judgeStamp address stamp = (s.raise .slip .mismatch, .reject))
          ∧ ∀ q, verdictOf d = .disagree q →
            let u := (s.judgeStamp address stamp).1
            ((s.judgeStamp address stamp).2 = .agree ∨ (s.judgeStamp address stamp).2 = .early)
              ∧ u.clock = { s.clock with pif := (s.clock.pif + 4 - q / 16) % 4, tracker := [], aligned := true }
              ∧ u.map = { s.map with peers := [] }))
    ∧ ∀ s : State,
      (s.engine.active.pattern = none → s.engineSlip = s)
        ∧ (s.engine.active.pattern ≠ none → s.map.active = none → s.station.state.setpoints = true → s.engine.tripRest = false →
          ∀ tag e k r, s.engine.active.carrier = some tag → s.entry? tag = some e → e.recipePending = false →
            e.record.recipe = some k → s.cache.recipe? k = some r → r.pattern ≠ none →
            s.engineSlip.engine.active.mode = .forwardOnly ∧ s.engineSlip.engine.active.carrier = some tag
              ∧ s.engineSlip.engine.active.key = some r.key ∧ s.engineSlip.engine.active.pattern = r.pattern)

/-! ### The zone bus (R148 to R163) -/

/-- A dropped frame: the receiver hunts, and the fault is added to the fault set, or on the internal loop reported to the
station controller. ABORT or an invalid symbol abandons a frame in reception with no fault (on the internal loop the station
controller is told), the receive timeout with TIMEOUT. Model's choices in it: logs 1, 2, 14, 18. -/
def Obligations.ReceptionIsAbandoned : Prop :=
  (∀ (k : RxFault) (s : State),
      s.dropRx k =
        if s.bus.loop then
          { s with bus := { s.bus with rx := .hunting }, station := { s.station with selfFault := true } }
        else
          { s with
            bus :=
              { s.bus with
                rx := .hunting
                faults :=
                  { check := s.bus.faults.check || k == .check, timeout := s.bus.faults.timeout || k == .timeout
                    overrun := s.bus.faults.overrun || k == .overrun, collisions := s.bus.faults.collisions } } })
    ∧ (∀ (s : State) (t : Instant) (r : Reception), s.running → s.bus.rx = .receiving r →
      (∀ x, readSymbol x = .abort ∨ readSymbol x = .invalid →
        exec (.rxFrameAbandoned t x) s = .next
          { s with
            now := s.at t
            bus := { s.bus with lastActivity := some (s.quietFrom (s.at t)), rx := .hunting }
            station := { s.station with selfFault := s.station.selfFault || s.bus.loop } })
        ∧ (r.startTime + 1300 * (10 * bitTime s.cfg.busRate) ≤ s.at t →
          exec (.receiveTimeout t) s = .next (State.dropRx .timeout { s with now := s.at t }))
        ∧ (s.at t < r.startTime + 1300 * (10 * bitTime s.cfg.busRate) →
          exec (.receiveTimeout t) s = .next { s with now := s.at t }))

/-- START begins a frame in reception, and drops the one it cuts with CHECK; the line is busy to its last bit. A data symbol is added where
the frame expects one, with the length check after the sixth byte, and drops the frame with CHECK where it expects END. On the internal loop
nothing is heard while the own transmitter does not send and no frame of its is in reception. Any other symbol with no frame in reception
makes the line busy to its last bit, and changes nothing else. Model's choices in it: logs 1, 14, 15, 49, 74. -/
def Obligations.StartAndDataSymbolsBuildTheFrame : Prop :=
  ∀ (s : State) (t : Instant), s.running → s.bus.rx ≠ .off →
    let busyTo (x : Instant) : State := { s with now := s.at t, bus := { s.bus with lastActivity := some (s.quietFrom x) } }
    let heard : State := busyTo (s.at t)
    let started : State := busyTo (s.at t + 10 * bitTime s.cfg.busRate)
    let fresh (u : State) : State :=
      { u with bus := { u.bus with rx := .receiving ⟨[], s.at t, s.bus.ownStart⟩, ownStart := false } }
    (s.bus.rx = .hunting → s.bus.loop = true → s.bus.tx ≠ .sending →
        exec (.startMarkReceived t) s = .next { s with now := s.at t }
          ∧ ∀ x, exec (.dataSymbolReceived t x) s = .next { s with now := s.at t })
      ∧ (s.bus.rx = .hunting → s.bus.loop = false ∨ s.bus.tx = .sending →
        exec (.startMarkReceived t) s = .next (fresh started)
          ∧ (∀ x, exec (.dataSymbolReceived t x) s = .next started)
          ∧ (∀ df, exec (.frameEndReceived t df) s = .next started)
          ∧ ∀ x, readSymbol x = .abort ∨ readSymbol x = .invalid → exec (.rxFrameAbandoned t x) s = .next started)
      ∧ ∀ r, s.bus.rx = .receiving r →
        exec (.startMarkReceived t) s = .next (fresh (started.dropRx .check))
          ∧ ∀ x,
            (expectsData r.bytes = true → ¬(r.bytes.length = 5 ∧ 1200 < statedLength (r.bytes ++ [x])) →
              exec (.dataSymbolReceived t x) s = .next
                { heard with bus := { heard.bus with rx := .receiving { r with bytes := r.bytes ++ [x] } } })
              ∧ (expectsData r.bytes = false ∨ (r.bytes.length = 5 ∧ 1200 < statedLength (r.bytes ++ [x])) →
                exec (.dataSymbolReceived t x) s = .next (heard.dropRx .check))

/-- The checks of a complete frame: check word, kind, payload length, source and destination. TEST is known on the internal loop
alone. -/
def Obligations.CompleteFrameChecks : Prop :=
  ∀ (loop : Bool) (bs : List Byte) (f : RxFrame),
    let n := statedLength bs
    checkFrame loop bs = some f ↔
      checkBytes (bs.take (n + 6)) = bs.drop (n + 6)
        ∧ kindOfCode (byteAt bs 0) = some f.kind ∧ (f.kind = .test → loop = true)
        ∧ f.kind.minLength ≤ n ∧ n ≤ f.kind.maxLength
        ∧ 1 ≤ byteAt bs 1 ∧ byteAt bs 1 ≤ 62 ∧ f.source = byteAt bs 1
        ∧ destOf (byteAt bs 2) (byteAt bs 3) = some f.dest ∧ f.payload = (bs.take (n + 6)).drop 6

/-- END: an incomplete frame, and one that fails a check, is dropped with CHECK; on the bus the filter drops own frames,
CONDITION and other destinations, and puts a delivered frame other than CLAIM at the tail of the receive queue, or adds OVERRUN
where it is full. Model's choices in it: logs 1, 14, 15. -/
def Obligations.FrameEndIsFiltered : Prop :=
  ∀ (s : State) (t : Instant) (df : Bool) (r : Reception), s.running → s.bus.rx = .receiving r →
    let heard : State := { s with now := s.at t, bus := { s.bus with lastActivity := some (s.quietFrom (s.at t)) } }
    let hunts : State := { heard with bus := { heard.bus with rx := .hunting } }
    (expectsData r.bytes = true ∨ checkFrame s.bus.loop r.bytes = none →
      exec (.frameEndReceived t df) s = .next (heard.dropRx .check))
      ∧ ∀ f, expectsData r.bytes = false → checkFrame s.bus.loop r.bytes = some f → s.bus.loop = false →
        let ours := f.dest = .all ∨ f.dest = .station s.cfg.stationAddress ∨ f.dest = .zone s.cfg.zoneIndex
        (f.source = s.cfg.stationAddress → r.own = true → exec (.frameEndReceived t df) s = .next hunts)
          ∧ (f.source ≠ s.cfg.stationAddress → f.kind = .condition ∨ ¬ours → exec (.frameEndReceived t df) s = .next hunts)
          ∧ (f.source ≠ s.cfg.stationAddress → f.kind ≠ .condition → f.kind ≠ .claim → ours →
            exec (.frameEndReceived t df) s = .next
              (if s.bus.rxQueue.length < 8 then { hunts with bus := { hunts.bus with rxQueue := s.bus.rxQueue ++ [f] } }
               else { hunts with bus := { hunts.bus with faults := { hunts.bus.faults with overrun := true } } }))

/-- A TEST frame read back on the internal loop goes to the station controller: the expected one is counted, any other is a
fault seen. Model's choices in it: logs 1, 14. -/
def Obligations.TestFrameReturns : Prop :=
  ∀ (s : State) (t : Instant) (df : Bool) (r : Reception) (f : RxFrame), s.running → s.bus.rx = .receiving r →
    expectsData r.bytes = false → checkFrame s.bus.loop r.bytes = some f → s.bus.loop = true → f.kind = .test →
    let n := s.station.selfNext
    let expected := f.source = s.cfg.stationAddress ∧ f.dest = .station s.cfg.stationAddress ∧ n ≤ 3 ∧ f.payload = testPayload n
    exec (.frameEndReceived t df) s = .next
      { s with
        now := s.at t
        bus := { s.bus with lastActivity := some (s.quietFrom (s.at t)), rx := .hunting }
        station :=
          { s.station with
            selfNext := if expected then n + 1 else n
            selfFault := if expected then s.station.selfFault else true } }

/-- A frame with the own address that the own transmitter did not send, and a CLAIM that names the own zone, declare their
clash and isolate the station: nothing waits to be sent, the own pair and the scheduled answers are gone, and FAULTN is
asserted. Model's choices in it: logs 5, 15. -/
def Obligations.ClashIsolatesTheStation : Prop :=
  ∀ (s : State) (t : Instant) (df : Bool) (r : Reception) (f : RxFrame), s.running → s.bus.rx = .receiving r →
    expectsData r.bytes = false → checkFrame s.bus.loop r.bytes = some f → s.bus.loop = false →
    let address := f.source = s.cfg.stationAddress ∧ r.own = false
    let zone := f.source ≠ s.cfg.stationAddress ∧ f.kind = .claim ∧ s.addressed f.dest = true
      ∧ byteAt f.payload 1 = s.cfg.zoneIndex
    (address ∨ zone) → s.station.state = .listening ∨ s.station.state = .joined ∨ s.station.state = .lockout →
    Completes (exec (.frameEndReceived t df) s) fun u =>
      u.station.state = .isolated ∧ u.station.joinCount = none
        ∧ (address → u.mon.isDeclared .addressClash = true) ∧ (zone → u.mon.isDeclared .zoneClash = true)
        ∧ u.mon.told = .isolated ∧ u.mon.faultn = true
        ∧ u.map.active = none ∧ u.map.pending = none ∧ u.cache.answers = []
        ∧ u.bus.urgent = [] ∧ u.bus.normal = [] ∧ u.bus.followOn = none
        ∧ (s.bus.tx ≠ .sending → u.bus.tx = .idle ∧ u.bus.inFlight = none)
        ∧ u.bridge.state = s.bridge.state ∧ u.tracker = s.tracker ∧ u.pending = s.pending

/-- A delivered CLAIM of another zone in step with the own numbering: the peer claim table takes its parts at age 0, or loses the record
where it carries neither, and no other record changes; a table of 47 records takes no new peer. One that fails the field test changes no
record. After an applied frame come the own tests, with the frame in the table: a sender of lower address whose active part covers a slot at
which the active conflict test fails withdraws the own active part, and a sender whose active part, or whose pending part from a lower
address, covers a slot at which the objection test fails makes the own pending part yield. The field test takes the payload of a CLAIM whose
zone and parts lie in their ranges, laid out as R178 has it; a run covers the slots of its place in the part's cycle, with one onset in each
cycle. Model's choices in it: logs 23, 55. -/
def Obligations.ClaimIsAppliedToThePeerTable : Prop :=
  (∀ (s : State) (t : Instant) (df : Bool) (r : Reception) (f : RxFrame), s.running → s.bus.rx = .receiving r →
    expectsData r.bytes = false → checkFrame s.bus.loop r.bytes = some f → s.bus.loop = false →
    f.source ≠ s.cfg.stationAddress → f.kind = .claim → s.addressed f.dest = true →
    byteAt f.payload 1 ≠ s.cfg.zoneIndex → s.clock.aligned = true →
    verdictOf (stampOffset s.clock.slot (byteAt f.payload 0)) = .agree
      ∨ verdictOf (stampOffset s.clock.slot (byteAt f.payload 0)) = .early →
    let at? (a : Nat) (m : SlotMap) := m.peers.find? fun p => p.address == a
    Completes (exec (.frameEndReceived t df) s) fun u =>
      u.pending = s.pending ∧ u.station = s.station ∧ u.tracker = s.tracker
        ∧ (fieldTest (byteAt f.payload 1) f.payload = none → u.map.peers = s.map.peers)
        ∧ ∀ active pending, fieldTest (byteAt f.payload 1) f.payload = some (active, pending) →
          (∀ a, a ≠ f.source → at? a u.map = at? a s.map)
            ∧ (active.isNone → pending.isNone → at? f.source u.map = none)
            ∧ (active.isSome ∨ pending.isSome → (at? f.source s.map).isSome ∨ s.map.peers.length < 47 →
              at? f.source u.map = some ⟨f.source, byteAt f.payload 1, active, pending, 0⟩)
            ∧ (active.isSome ∨ pending.isSome → at? f.source s.map = none → 47 ≤ s.map.peers.length →
              u.map.peers = s.map.peers))
    ∧ (∀ (s : State) (sender : Peer), (s.map.applyFrame sender).2 = true →
      s.applyClaim sender
        = (((State.testConflict sender { s with map := (s.map.applyFrame sender).1 }).testObjection sender).flushClaim))
    ∧ (∀ (zone : Nat) (payload : List Byte) (active pending : Option ClaimPart), 3 ≤ payload.length →
      let field (n : Nat) : List Byte := [BitVec.ofNat 8 (n / 256), BitVec.ofNat 8 n]
      let layout (part : Option ClaimPart) : List Byte :=
        part.toList.flatMap fun c =>
          [BitVec.ofNat 8 c.cycle, BitVec.ofNat 8 c.offset, BitVec.ofNat 8 c.scale, BitVec.ofNat 8 c.runs.length]
            ++ c.runs.flatMap fun r => [BitVec.ofNat 8 r.start, BitVec.ofNat 8 r.len] ++ field r.current
      let apart (cycle : Nat) (a b : ClaimRun) := ∀ i j, i < a.len → j < b.len → (a.start + i) % cycle ≠ (b.start + j) % cycle
      fieldTest zone payload = some (active, pending) ↔
        1 ≤ zone ∧ zone ≤ 48
          ∧ (∀ c ∈ active.toList ++ pending.toList,
            c.cycle ∈ [4, 8, 16, 32, 64] ∧ c.offset < c.cycle ∧ 2 ≤ c.scale ∧ c.scale ≤ 8
              ∧ 1 ≤ c.runs.length ∧ c.runs.length ≤ 4
              ∧ (∀ r ∈ c.runs, r.start < c.cycle ∧ 1 ≤ r.len ∧ r.len ≤ c.cycle ∧ 1 ≤ r.current ∧ r.current ≤ 6000)
              ∧ c.runs.Pairwise (fun a b => a.start < b.start ∧ apart c.cycle a b))
          ∧ ∃ stamp zoneByte, payload = [stamp, zoneByte, BitVec.ofNat 8 (active.toList.length + 2 * pending.toList.length)]
              ++ layout active ++ layout pending)
    ∧ (∀ (c : ClaimPart) (x : Nat), c.offset < c.cycle → (∀ r ∈ c.runs, r.start < c.cycle) →
      let place (r : ClaimRun) : Int := ((x : Int) - c.offset - r.start) % c.cycle
      (c.covers x = true ↔ ∃ r ∈ c.runs, place r < r.len)
        ∧ (∀ pre r post, c.runs = pre ++ r :: post → (∀ y ∈ pre, (y.len : Int) ≤ place y) → place r < r.len →
          c.current x = r.current)
        ∧ ((∀ r ∈ c.runs, (r.len : Int) ≤ place r) → c.current x = 0)
        ∧ ((∃ r ∈ c.runs, place r = 0) → c.onsets x = 1) ∧ ((∀ r ∈ c.runs, place r ≠ 0) → c.onsets x = 0))
    ∧ ∀ (s : State) (sender : Peer),
      let lower := sender.address < s.cfg.stationAddress
      let fails (parts : List ClaimPart) (own : ClaimPart) (x : Nat) := x < 64 ∧ own.covers x = true
        ∧ (s.cfg.lineReverseBudget < (parts.map (ClaimPart.current x)).sum + own.current x
          ∨ s.cfg.onsetLimit < (parts.map (ClaimPart.onsets x)).sum + own.onsets x)
      let covered (part : Option ClaimPart) (x : Nat) := ∃ c, part = some c ∧ c.covers x = true
      let actives := s.map.peers.flatMap fun p => p.active.toList
      let all := s.map.peers.flatMap fun p => p.active.toList ++ p.pending.toList
      let conflict := lower ∧ ∃ own x, s.map.active = some own ∧ fails actives own x ∧ covered sender.active x
      let objection := ∃ own x, s.map.pending = some own ∧ fails all own x
        ∧ (covered sender.active x ∨ (covered sender.pending x ∧ lower))
      let yields := min 3 (s.map.yieldCount + 1)
      (¬conflict → s.testConflict sender = s)
        ∧ (conflict →
          let u := s.testConflict sender
          u.map.active = none ∧ u.map.unneeded = 0 ∧ u.map.hold = s.map.hold ∧ u.map.yieldCount = s.map.yieldCount
            ∧ u.map.peers = s.map.peers ∧ u.map.calls = true
            ∧ u.engine.setpoint = (if s.engine.setpoint.dir = .rev then ⟨.rest, 0⟩ else s.engine.setpoint)
            ∧ u.bridge = (if s.engine.setpoint.dir = .rev then s.bridge.takeSetpoint ⟨.rest, 0⟩ else s.bridge)
            ∧ u.station = s.station ∧ u.clock = s.clock ∧ u.tracker = s.tracker ∧ u.dose = s.dose)
        ∧ (¬objection → s.testObjection sender = s)
        ∧ (objection → s.testObjection sender =
          { s with
            map :=
              { s.map with
                pending := none, window := none, yieldCount := yields
                hold := max s.map.hold (1 + s.cfg.stationAddress % 4 * yields), calls := true } })

/-- START goes out when the transmitter waits, the line has been quiet for 16 bit times and the line, unless the part is on the internal
loop, carries no symbol whose first bit has come; a CLAIM takes the slot number in force as its stamp. At the end of the backoff wait the
transmitter waits for the line with the same frame and attempt count. Model's choices in it: logs 1, 2, 6, 14, 15. -/
def Obligations.TransmitterStartsAndWaits : Prop :=
  (∀ (s : State) (t : Instant), s.running →
      let idle := ∃ a, s.bus.lastActivity = some a ∧ a + 16 * bitTime s.cfg.busRate ≤ s.at t
      (∀ underWay, s.bus.tx = .waiting → idle → s.bus.loop = true ∨ underWay = false → exec (.txStart ⟨t, underWay⟩) s = .next
        { s with
          now := s.at t
          bus :=
            { s.bus with
              tx := .sending
              inFlight := s.bus.inFlight.map fun f =>
                { f with started := true, stamp := if f.body.kind = .claim then s.clock.slot else f.stamp }
              ownStart := true
              lastActivity := some (s.at t + 10 * bitTime s.cfg.busRate) } })
        ∧ ∀ underWay, s.bus.tx ≠ .waiting ∨ ¬idle ∨ (s.bus.loop = false ∧ underWay = true) →
          exec (.txStart ⟨t, underWay⟩) s = .next { s with now := s.at t })
    ∧ (∀ (s : State) (t : Instant), s.running →
      (s.bus.tx = .backoff → s.bus.backoffEnd ≤ s.at t →
        exec (.backoffExpiry t) s = .next { s with now := s.at t, bus := { s.bus with tx := .waiting } })
        ∧ (s.bus.tx ≠ .backoff ∨ s.at t < s.bus.backoffEnd → exec (.backoffExpiry t) s = .next { s with now := s.at t }))

/-- A sent frame leaves the queue: the slot map hears of its CLAIM, the condition monitor submits what waits, a follow-on
becomes a CLAIM behind the urgent frames, and the next frame is picked: the first urgent one, or else the first normal one,
with attempt count 0. Model's choices in it: logs 1, 14, 17. -/
def Obligations.SentFrameLeavesTheQueue : Prop :=
  (∀ (s : State) (t : Instant) (f : TxFrame), s.running → s.bus.tx = .sending → s.bus.inFlight = some f →
      let opens (c : ClaimBody) := f.lastRun = false ∧ c.pending.isSome = true ∧ c.pending = s.map.pending ∧ s.map.window = none
      let window :=
        match f.body with
        | .claim c => if opens c then some 0 else s.map.window
        | _ => s.map.window
      let gone : State :=
        { s with
          now := s.at t
          map := { s.map with window := window }
          bus := { s.bus with lastActivity := some (s.at t), inFlight := none, attempts := 0 } }
      exec (.txFrameSent t) s = .next (gone.offer.setBus gone.offer.bus.restart))
    ∧ (∀ b : Bus, b.inFlight = none →
      let urgent := b.urgent ++ (b.followOn.toList.map fun c => freshFrame (.claim c) .all)
      b.restart.followOn = none
        ∧ (∀ f rest, urgent = f :: rest →
          b.restart = { b with tx := .waiting, inFlight := some f, attempts := 0, urgent := rest, followOn := none })
        ∧ (urgent = [] → ∀ f rest, b.normal = f :: rest →
          b.restart = { b with tx := .waiting, inFlight := some f, attempts := 0, normal := rest, followOn := none })
        ∧ (urgent = [] → b.normal = [] → b.restart = { b with tx := .idle, followOn := none }))

/-- A collision: below 8 the frame waits (1 + (own address + attempt count) mod 16) × 32 bit times after its ABORT and then for
the line again; at the eighth it is dropped with COLLISIONS, and a CLAIM that opened no window is abandoned or sent again at
the next frame. Model's choices in it: logs 1, 14, 16, 17. -/
def Obligations.CollisionBacksOff : Prop :=
  ∀ (s : State) (t : Instant) (f : TxFrame), s.running → s.bus.tx = .sending → s.bus.inFlight = some f → f.lastRun = false →
    s.bus.loop = false →
    let abortEnd := s.at t + 10 * bitTime s.cfg.busRate
    let n := s.bus.attempts + 1
    (n < 8 → exec (.collision t) s = .next
      { s with
        now := s.at t
        bus :=
          { s.bus with
            ownStart := false, lastActivity := some abortEnd, tx := .backoff, attempts := n
            backoffEnd := abortEnd + (1 + (s.cfg.stationAddress + n) % 16) * 32 * bitTime s.cfg.busRate } })
      ∧ (n = 8 →
        let map :=
          match f.body with
          | .claim c =>
            if c.pending.isSome = true ∧ c.pending = s.map.pending ∧ s.map.window = none then { s.map with pending := none }
            else { s.map with sendDue := true, dueAtFrame := true }
          | _ => s.map
        let gone : State :=
          { s with
            now := s.at t
            map := map
            bus :=
              { s.bus with
                ownStart := false, lastActivity := some abortEnd, inFlight := none, attempts := 0
                faults := { s.bus.faults with collisions := true } } }
        exec (.collision t) s = .next (gone.offer.setBus gone.offer.bus.restart))

/-- Submissions by class: a normal frame needs 3 free places and a HANDOVER 1; a CLAIM takes the place of the one not yet started, becomes
the follow-on of a started one, and otherwise needs 1. What the station state forbids is refused: every submission outside SELF-TEST,
LISTENING, JOINED and LOCKOUT, and in SELF-TEST every one but TEST. -/
def Obligations.SubmissionsByClass : Prop :=
  ∀ (st : StationState) (body : Body) (dest : Dest) (b : Bus),
    let free := 8 - (b.inFlight.toList.length + b.urgent.length + b.normal.length)
    (st.takes body = true ↔
        st = .listening ∨ st = .joined ∨ st = .lockout ∨ (st = .selfTest ∧ ∃ n, body = .test n))
      ∧ (st.takes body = false → b.submit st body dest = (b, false))
      ∧ (st.takes body = true →
        (body.urgent = false →
          b.submit st body dest =
            if 3 ≤ free then (Bus.pick { b with normal := b.normal ++ [freshFrame body dest] }, true) else (b.pick, false))
          ∧ (∀ rec, body = .handover rec →
            b.submit st body dest =
              if 1 ≤ free then (Bus.pick { b with urgent := b.urgent ++ [freshFrame body dest] }, true) else (b.pick, false))
          ∧ ∀ c, body = .claim c →
            (b.startedClaim = true → b.submit st body dest = (Bus.pick { b with followOn := some c }, true))
              ∧ (∀ f, b.inFlight = some f → f.body.kind = .claim → f.started = false →
                b.submit st body dest = (Bus.pick { b with inFlight := some { f with body := .claim c } }, true))
              ∧ (∀ pre f post, (∀ g, b.inFlight = some g → g.body.kind ≠ .claim) → b.urgent = pre ++ f :: post →
                f.body.kind = .claim → (∀ g ∈ pre ++ post, g.body.kind ≠ .claim) →
                b.submit st body dest = (Bus.pick { b with urgent := pre ++ { f with body := .claim c } :: post }, true))
              ∧ ((∀ g, b.inFlight = some g → g.body.kind ≠ .claim) → (∀ g ∈ b.urgent, g.body.kind ≠ .claim) →
                b.submit st body dest =
                  if 1 ≤ free then (Bus.pick { b with urgent := b.urgent ++ [freshFrame body .all] }, true)
                  else (b.pick, false)))

/-! ### Frames taken by their owners (R22 to R39, R58, R173) -/

/-- ADMIT: one for another destination is discarded; a bad record raises TRACKING; a record whose id stands in the table goes no further;
with no unannounced entry a full table raises TRACKING, and otherwise an EXPECTED entry stands at the tail with its key pinned or asked for;
with one the record takes the oldest, which is late identified, with TRACK ERROR and TRACKING with cause LENGTH where the measured length
lies more than 25 mm from the record's, before its key is pinned or asked for. A dose record passes the intake check when its fields lie in
their ranges and its zone count agrees with the payload. Model's choices in it: logs 20, 23, 37, 43, 52, 60. -/
def Obligations.AdmitMakesAnExpectedEntry : Prop :=
  (∀ (s : State) (f : RxFrame) (rest : List RxFrame), s.running → s.claimsFlushed → s.bus.rxQueue = f :: rest → f.kind = .admission →
    s.tracker.inBounds →
    let left : State := { s with bus := { s.bus with rxQueue := rest } }
    (f.dest ≠ .zone s.cfg.zoneIndex → exec .takeAdmit s = .next left)
      ∧ (f.dest = .zone s.cfg.zoneIndex → checkedDoseRecord .admission f.payload = none →
        exec .takeAdmit s = .next (left.raise .tracking .badRecord))
      ∧ ∀ d, f.dest = .zone s.cfg.zoneIndex → checkedDoseRecord .admission f.payload = some d →
        let kept := s.tracker.retained.filter fun x => x.carrierId != d.carrierId
        let dropped : State := { left with tracker := { s.tracker with retained := kept } }
        let known := ∃ e ∈ s.tracker.table, e.record.carrierId = d.carrierId
        let pin := (d.recipe.map left.pinCarrier).getD (left, true)
        let entry (waits : Bool) : Entry :=
          { tag := s.tracker.nextTag, present := false, recipePending := waits, length := d.length, leading := 0, entryTravel := 0
            trailingSeen := false, atExit := false, unannounced := false, querySends := 0, framesToNext := 0, queryDue := false
            record := { d with resent := false } }
        (known → exec .takeAdmit s = .next dropped)
          ∧ (¬known → (∀ e ∈ s.tracker.table, e.unannounced = false) →
            (s.tracker.table.length = 6 → exec .takeAdmit s = .next (dropped.raise .tracking .tableFull))
              ∧ (s.tracker.table.length < 6 → exec .takeAdmit s = .next
                { pin.1 with
                  tracker :=
                    { s.tracker with
                      retained := kept, table := s.tracker.table ++ [entry (!pin.2)], nextTag := s.tracker.nextTag + 1 } }))
          ∧ (¬known → ∀ e, s.tracker.table.find? Entry.unannounced = some e →
            (∀ x ∈ s.tracker.table, x.leading ≤ s.cfg.zoneLength) →
            let far := e.trailingSeen = true ∧ (e.entryTravel + 25 < d.length ∨ d.length + 25 < e.entryTravel)
            let taken : State :=
              { left with
                tracker :=
                  { s.tracker with
                    retained := kept
                    table := s.tracker.table.map fun x =>
                      if x.tag == e.tag then
                        { x with
                          record := { d with resent := false }, length := if x.trailingSeen then x.length else d.length
                          unannounced := false, querySends := 0, framesToNext := 0, queryDue := false }
                      else x } }
            let measured : State := if far then (taken.flagTag e.tag .trackError).raise .tracking .length else taken
            Completes (exec .takeAdmit s) fun u =>
              u.entry? e.tag = some
                  { e with
                    record := { d with resent := false }, length := if e.trailingSeen then e.length else d.length
                    unannounced := false, querySends := 0, framesToNext := 0, queryDue := false
                    recipePending := (d.recipe.map fun k => !s.cache.holds k).getD false }
                ∧ (∀ x, x ≠ e.tag → u.entry? x = s.entry? x) ∧ u.tracker.retained = kept
                ∧ u.mon = measured.mon ∧ u.bus = ((d.recipe.map measured.pinCarrier).getD (measured, true)).1.bus
                ∧ ∀ r ∈ u.dose.records, r.tag = e.tag → r.has .lateIdentity = true ∧ r.has .unidentified = false
                  ∧ (far → r.has .trackError = true)))
    ∧ ∀ (kind : FrameKind) (payload : List Byte) (d : DoseRecord),
      let n := byteAt payload 12
      let key : Option Key :=
        if fieldAt16 payload 4 = 0 ∧ byteAt payload 6 = 0 then none else some ⟨fieldAt16 payload 4, byteAt payload 6⟩
      let zone (i : Nat) : ZoneRecord :=
        let at? (k : Nat) := byteAt payload (13 + 24 * i + k)
        { zone := at? 0, station := at? 1, recipeId := fieldAt16 payload (13 + 24 * i + 2), recipeRev := at? 4
          minScale := at? 5 / 16, fill := at? 5 % 16, flags := BitVec.ofNat 16 (fieldAt16 payload (13 + 24 * i + 6))
          forward := fieldAt32 payload (13 + 24 * i + 8), reverse := fieldAt32 payload (13 + 24 * i + 12)
          target := fieldAt32 payload (13 + 24 * i + 16), frames := fieldAt16 payload (13 + 24 * i + 20)
          deviations := at? 22, history := BitVec.ofNat 8 (at? 23) }
      checkedDoseRecord kind payload = some d ↔
        payload.length = 13 + 24 * n ∧ n ≤ 48
          ∧ d = ⟨fieldAt32 payload 0, key, fieldAt16 payload 8, fieldAt16 payload 10, (byteAt payload 7).testBit 0,
            (byteAt payload 7).testBit 1, (byteAt payload 7).testBit 2, (List.range n).map zone⟩
          ∧ (kind = .admission → 1 ≤ d.carrierId ∧ n = 0)
          ∧ (∀ k, d.recipe = some k → 1 ≤ k.id ∧ 1 ≤ k.rev)
          ∧ 1 ≤ d.area ∧ d.area ≤ 20000 ∧ 100 ≤ d.length ∧ d.length ≤ 3000
          ∧ (∀ z ∈ d.zones, 1 ≤ z.zone ∧ z.zone ≤ 48) ∧ d.zones.Pairwise (fun a b => a.zone < b.zone)

/-- HANDOVER: a nonzero id that is retained or in the table, and a RESENT record that matches no unannounced entry, are discarded; a record
with a nonzero id takes the oldest unannounced entry, which is late identified, with TRACK ERROR and TRACKING with cause LENGTH where the
measured length lies more than 25 mm from the record's, before its key is pinned or asked for; otherwise it becomes an EXPECTED entry, with
ORDER ERROR where its zone list reaches the own zone. Model's choices in it: logs 20, 23, 37, 43, 52, 60. -/
def Obligations.HandoverIsMatchedOrAppended : Prop :=
  ∀ (s : State) (f : RxFrame) (rest : List RxFrame) (d : DoseRecord), s.running → s.claimsFlushed → s.bus.rxQueue = f :: rest →
    f.kind = .handover → f.dest = .zone s.cfg.zoneIndex → checkedDoseRecord .handover f.payload = some d → s.tracker.inBounds →
    let left : State := { s with bus := { s.bus with rxQueue := rest } }
    let known := d.carrierId ≠ 0
      ∧ ((∃ x ∈ s.tracker.retained, x.carrierId = d.carrierId) ∨ ∃ e ∈ s.tracker.table, e.record.carrierId = d.carrierId)
    let unannounced? := s.tracker.table.find? Entry.unannounced
    let reaches := ∃ z, d.zones.getLast? = some z ∧ s.cfg.zoneIndex ≤ z.zone
    let unmatched := unannounced? = none ∨ d.carrierId = 0
    (known → exec .takeHandover s = .next left)
      ∧ (¬known → unmatched →
        (d.resent = true → exec .takeHandover s = .next left)
          ∧ (d.resent = false →
            (s.tracker.table.length = 6 → exec .takeHandover s = .next (left.raise .tracking .tableFull))
              ∧ (s.tracker.table.length < 6 →
                let pin := (d.recipe.map left.pinCarrier).getD (left, true)
                let entry : Entry :=
                  { tag := s.tracker.nextTag, present := false, recipePending := !pin.2, length := d.length, leading := 0
                    entryTravel := 0, trailingSeen := false, atExit := false, unannounced := false, querySends := 0
                    framesToNext := 0, queryDue := false
                    record := { d with resent := false, orderError := d.orderError || d.outOfOrder s.cfg.zoneIndex } }
                let appended : State :=
                  { pin.1 with
                    tracker := { s.tracker with table := s.tracker.table ++ [entry], nextTag := s.tracker.nextTag + 1 } }
                (¬reaches → exec .takeHandover s = .next appended)
                  ∧ (reaches → exec .takeHandover s = .next (appended.raise .tracking .order)))))
      ∧ (¬known → d.carrierId ≠ 0 → ∀ e, unannounced? = some e → ¬reaches →
        (∀ x ∈ s.tracker.table, x.leading ≤ s.cfg.zoneLength) →
        let far := e.trailingSeen = true ∧ (e.entryTravel + 25 < d.length ∨ d.length + 25 < e.entryTravel)
        let taken : State :=
          { left with
            tracker :=
              { s.tracker with
                table := s.tracker.table.map fun x =>
                  if x.tag == e.tag then
                    { x with
                      record := { d with resent := false }, length := if x.trailingSeen then x.length else d.length
                      unannounced := false, querySends := 0, framesToNext := 0, queryDue := false }
                  else x } }
        let measured : State := if far then (taken.flagTag e.tag .trackError).raise .tracking .length else taken
        Completes (exec .takeHandover s) fun u =>
          u.entry? e.tag = some
              { e with
                record := { d with resent := false }, length := if e.trailingSeen then e.length else d.length
                unannounced := false, querySends := 0, framesToNext := 0, queryDue := false
                recipePending := (d.recipe.map fun k => !s.cache.holds k).getD false }
            ∧ (∀ x, x ≠ e.tag → u.entry? x = s.entry? x)
            ∧ u.mon = measured.mon ∧ u.bus = ((d.recipe.map measured.pinCarrier).getD (measured, true)).1.bus
            ∧ ∀ r ∈ u.dose.records, r.tag = e.tag → r.has .lateIdentity = true ∧ r.has .unidentified = false
              ∧ (far → r.has .trackError = true))

/-- CARRIER QUERY: the youngest retained record that the list does not name goes to the asking zone with RESENT set; a query that R58
ignores, and one whose list names every retained record, is not answered. It ignores a querier zone above 48 or the own one, a list of more
than 6 ids or with an id of 0, and a payload of another length. Model's choices in it: log 23. -/
def Obligations.CarrierQueryIsAnswered : Prop :=
  (∀ (s : State) (f : RxFrame) (rest : List RxFrame), s.running → s.claimsFlushed → s.bus.rxQueue = f :: rest →
    f.kind = .carrierQuery →
    let left : State := { s with bus := { s.bus with rxQueue := rest } }
    (f.dest ≠ .zone s.cfg.zoneIndex ∨ readCarrierQuery s.cfg.zoneIndex f.payload = none →
      exec .takeCarrierQuery s = .next left)
      ∧ ∀ zone ids, f.dest = .zone s.cfg.zoneIndex → readCarrierQuery s.cfg.zoneIndex f.payload = some (zone, ids) →
        ((∀ d ∈ s.tracker.retained, d.carrierId ∈ ids) → exec .takeCarrierQuery s = .next left)
          ∧ ∀ older d younger, s.tracker.retained = older ++ d :: younger → d.carrierId ∉ ids →
            (∀ x ∈ younger, x.carrierId ∈ ids) →
            exec .takeCarrierQuery s = .next
              { left with bus := (left.bus.submit s.station.state (.handover { d with resent := true }) (.zone zone)).1 })
    ∧ ∀ (own : Nat) (payload : List Byte) (zone : Nat) (ids : List Nat),
      let n := byteAt payload 1
      readCarrierQuery own payload = some (zone, ids) ↔
        zone = byteAt payload 0 ∧ zone ≤ 48 ∧ zone ≠ own ∧ n ≤ 6 ∧ payload.length = 2 + 4 * n
          ∧ ids = (List.range n).map (fun i => fieldAt32 payload (2 + 4 * i)) ∧ 0 ∉ ids

/-- RECIPE: a record that fails the validity check raises RECIPE REJECT; any other cancels the scheduled answer of its key; one that nothing
asks for is discarded; a held key is touched, with RECIPE CONFLICT where the contents differ; a refused revision raises REVISION LIMIT; and
a new entry that nothing waited for stands at rank 1 with no pin. With all 16 places taken the unpinned entry of the highest rank number
makes room for it, and its scheduled answer goes with it. A record is valid when it is laid out as chapter 11 has it and its fields lie in
the ranges of R15. Its reverse runs are the maximal groups of REVERSE segments in cycle order, by rising start, each with its greatest
density. Model's choices in it: logs 22, 23, 54. -/
def Obligations.RecipeIsPlaced : Prop :=
  (∀ (s : State) (f : RxFrame) (rest : List RxFrame), s.running → s.claimsFlushed → s.bus.rxQueue = f :: rest → f.kind = .recipe →
    let left : State := { s with bus := { s.bus with rxQueue := rest } }
    (checkedRecipe (f.payload.drop 1) = none → exec .takeRecipe s = .next (left.raise .recipeReject .invalid))
      ∧ ∀ r, checkedRecipe (f.payload.drop 1) = some r →
        let cancelled : Cache := { s.cache with answers := s.cache.answers.filter fun a => a.key != r.key }
        let asked := s.cache.wants r.key = true ∨ (∃ e ∈ s.cache.entries, e.recipe.key.id = r.key.id) ∨ byteAt f.payload 0 ≠ 0
        let noted : State := { left with cache := cancelled }
        (¬asked → exec .takeRecipe s = .next noted)
          ∧ (asked →
            (∀ h, cancelled.placement r = .held h →
              let touched : State := { noted with cache := cancelled.touch r.key }
              exec .takeRecipe s = .next (if h = r then touched else touched.raise .recipeReject .recipeConflict))
              ∧ (cancelled.placement r = .limit →
                exec .takeRecipe s = .next (noted.raise .recipeReject .revisionLimit))
              ∧ (cancelled.placement r = .ignored → exec .takeRecipe s = .next noted)
              ∧ ∀ flushed, cancelled.placement r = .new flushed →
                let room := (cancelled.flushFor flushed).makeRoom
                let stored (pins : Nat) : State :=
                  { noted with
                    cache :=
                      { room with
                        entries := ⟨r, pins⟩ :: room.entries, wanted := s.cache.wanted.filter fun w => w.key != r.key } }
                (s.cache.wants r.key = false → exec .takeRecipe s = .next (stored 0))
                  ∧ (s.cache.wants r.key = true →
                    exec .takeRecipe s = .next ((stored (s.cache.waitingFor r.key)).recipeNotice r.key).flushClaim
                      ∧ ∀ u : State, ∀ e ∈ (u.recipeNotice r.key).tracker.table,
                        e.record.recipe = some r.key → e.recipePending = false)))
    ∧ (∀ (bytes : List Byte) (r : Recipe),
      let field (n : Nat) : List Byte := [BitVec.ofNat 8 (n / 256), BitVec.ofNat 8 n]
      let code (k : SegKind) : Byte := match k with | .forward => 1 | .reverse => 2 | .rest => 3
      checkedRecipe bytes = some r ↔
        bytes = field r.key.id
            ++ [BitVec.ofNat 8 r.key.rev, BitVec.ofNat 8 r.cycle, BitVec.ofNat 8 r.segments.length, BitVec.ofNat 8 r.tolerance,
              BitVec.ofNat 8 r.targets.length]
            ++ r.segments.flatMap (fun g => [code g.kind, BitVec.ofNat 8 g.len] ++ field g.density)
            ++ r.targets.flatMap (fun z => [BitVec.ofNat 8 z.zone] ++ field z.target)
          ∧ 1 ≤ r.key.id ∧ r.key.id ≤ 65535 ∧ 1 ≤ r.key.rev ∧ r.key.rev ≤ 255 ∧ r.cycle ∈ [4, 8, 16, 32, 64]
          ∧ 1 ≤ r.segments.length ∧ r.segments.length ≤ 8 ∧ (r.segments.map Segment.len).sum = r.cycle
          ∧ (∀ g ∈ r.segments, 1 ≤ g.len ∧ (g.kind = .forward → 1 ≤ g.density ∧ g.density ≤ 3000)
            ∧ (g.kind = .reverse → 1 ≤ g.density ∧ g.density ≤ 9000) ∧ (g.kind = .rest → g.density = 0))
          ∧ (∀ p, r.pattern = some p → p.runs.length ≤ 4) ∧ 1 ≤ r.tolerance ∧ r.tolerance ≤ 25 ∧ r.targets.length ≤ 48
          ∧ (∀ z ∈ r.targets, 1 ≤ z.zone ∧ z.zone ≤ 48 ∧ 1 ≤ z.target ∧ z.target ≤ 65535)
          ∧ r.targets.Pairwise fun a b => a.zone < b.zone)
    ∧ (∀ r : Recipe, (∀ g ∈ r.segments, 1 ≤ g.len) → (r.segments.map Segment.len).sum = r.cycle →
      let inForce (g : Segment) (x : Nat) := ∃ pre post, r.segments = pre ++ g :: post
        ∧ (pre.map Segment.len).sum ≤ x ∧ x < (pre.map Segment.len).sum + g.len
      let reverse (x : Nat) := ∃ g, g.kind = .reverse ∧ inForce g x
      let within (q : Run) (x : Nat) := ∃ i, i < q.len ∧ x = (q.start + i) % r.cycle
      ((∀ g ∈ r.segments, g.kind ≠ .reverse) → r.pattern = none)
        ∧ ((∃ g ∈ r.segments, g.kind = .reverse) → ∃ runs, r.pattern = some ⟨r.cycle, runs⟩
          ∧ runs.Pairwise (fun a b => a.start < b.start)
          ∧ (∀ x, x < r.cycle → (reverse x ↔ ∃ q ∈ runs, within q x))
          ∧ ∀ q ∈ runs, q.start < r.cycle ∧ 1 ≤ q.len ∧ q.len ≤ r.cycle ∧ (q.len = r.cycle → q.start = 0)
            ∧ (q.len < r.cycle → ¬reverse ((q.start + q.len) % r.cycle) ∧ ¬reverse ((q.start + r.cycle - 1) % r.cycle))
            ∧ (∀ g x, inForce g x → within q x → g.density ≤ q.density)
            ∧ ∃ g x, inForce g x ∧ within q x ∧ g.density = q.density))
    ∧ ∀ c : Cache,
      (c.entries.length < 16 ∨ (∀ e ∈ c.entries, e.pins ≠ 0) → c.makeRoom = c)
        ∧ ∀ pre e post, 16 ≤ c.entries.length → c.entries = pre ++ e :: post → e.pins = 0 → (∀ x ∈ post, x.pins ≠ 0) →
          (∀ x ∈ pre ++ post, x.recipe.key ≠ e.recipe.key) →
          c.makeRoom = { c with entries := pre ++ post, answers := c.answers.filter fun a => a.key != e.recipe.key }

/-- A pin request of a carrier table entry: a held key gains a pin and rank 1; a wanted key gains a waiting entry; any other is
wanted from now on, and its first RECIPE QUERY is submitted. Model's choices in it: log 46. -/
def Obligations.PinRequestIsAnswered : Prop :=
  ∀ (s : State) (k : Key),
    (∀ pre e post, s.cache.entries = pre ++ e :: post → e.recipe.key = k → (∀ x ∈ pre ++ post, x.recipe.key ≠ k) →
      s.pinCarrier k =
        ({ s with cache := { s.cache with entries := { e with pins := e.pins + 1 } :: (pre ++ post) } }, true))
      ∧ (s.cache.holds k = false →
        (∀ pre w post, s.cache.wanted = pre ++ w :: post → w.key = k → (∀ x ∈ pre ++ post, x.key ≠ k) →
          s.pinCarrier k =
            ({ s with cache := { s.cache with wanted := pre ++ { w with waiting := w.waiting + 1 } :: post } }, false))
          ∧ (s.cache.wants k = false →
            let asked := s.bus.submit s.station.state (.recipeQuery k s.cfg.zoneIndex) .all
            let record : Wanted :=
              { key := k, waiting := 1, sends := if asked.2 then 1 else 0, unavailable := false
                framesToNext := if asked.2 then 2 else 0, sendDue := !asked.2 }
            s.pinCarrier k =
              ({ s with bus := asked.1, cache := { s.cache with wanted := s.cache.wanted ++ [record] } }, false)))

/-- Where a valid record goes by the held revisions of its id: one whose key is held finds that record; a newer revision flushes the newest where
that is unpinned, stands beside a single pinned one, and is refused beside two; an older one is stored only where it is wanted and one
revision is held, is refused where it is wanted beside two, and is otherwise ignored. -/
def Obligations.RevisionsDecideThePlacement : Prop :=
  ∀ (c : Cache) (r : Recipe),
    let revs := c.entries.filter fun e => e.recipe.key.id == r.key.id
    (∀ pre e post, c.entries = pre ++ e :: post → e.recipe.key = r.key → (∀ x ∈ pre, x.recipe.key ≠ r.key) →
      c.placement r = .held e.recipe)
    ∧ ((∀ e ∈ revs, e.recipe.key ≠ r.key) →
    (revs = [] → c.placement r = .new none)
      ∧ (∀ e, revs = [e] → e.recipe.key.rev < r.key.rev →
        c.placement r = .new (if e.pins = 0 then some e.recipe.key else none))
      ∧ (∀ e, revs = [e] → r.key.rev < e.recipe.key.rev →
        c.placement r = if c.wants r.key then .new none else .ignored)
      ∧ ∀ e g, revs = [e, g] ∨ revs = [g, e] → g.recipe.key.rev < e.recipe.key.rev →
        (e.recipe.key.rev < r.key.rev → c.placement r = if e.pins = 0 then .new (some e.recipe.key) else .limit)
          ∧ (r.key.rev < e.recipe.key.rev → c.placement r = if c.wants r.key then .limit else .ignored))

/-- RECIPE QUERY: for a held key, where the station state allows RECIPE, an answer is scheduled after (1 + zone distance) × 4
slot boundaries, and one already scheduled is at most brought forward. Model's choices in it: log 23. -/
def Obligations.RecipeQueryIsScheduled : Prop :=
  ∀ (s : State) (f : RxFrame) (rest : List RxFrame), s.running → s.claimsFlushed → s.bus.rxQueue = f :: rest →
    f.kind = .recipeQuery →
    let left : State := { s with bus := { s.bus with rxQueue := rest } }
    let k : Key := ⟨fieldAt16 f.payload 0, byteAt f.payload 2⟩
    let zone := byteAt f.payload 3
    let heeded := k.id ≠ 0 ∧ k.rev ≠ 0 ∧ zone ≤ 48 ∧ s.cache.holds k = true ∧ s.station.state.onBus = true
    let delay := (1 + ((s.cfg.zoneIndex : Int) - (zone : Int)).natAbs) * 4
    (¬heeded → exec .takeRecipeQuery s = .next left)
      ∧ (heeded →
        ((∀ a ∈ s.cache.answers, a.key ≠ k) → exec .takeRecipeQuery s = .next
          { left with cache := { s.cache with answers := s.cache.answers ++ [⟨k, delay⟩] } })
          ∧ ∀ pre a post, s.cache.answers = pre ++ a :: post → a.key = k → (∀ x ∈ pre ++ post, x.key ≠ k) →
            exec .takeRecipeQuery s = .next
              { left with
                cache := { s.cache with answers := pre ++ { a with remaining := min a.remaining delay } :: post } })

/-- RELEASE: outside LOCKOUT it is discarded; in LOCKOUT the trip count and window return to 0, LOCKOUT is cleared, the bridge
is asked to leave OFF, and the station enters JOINED where the reference is locked, with the aligned flag set, and LISTENING where it is
not, with the flag clear. Model's choices in it: logs 23, 45, 77. -/
def Obligations.ReleaseEndsALockout : Prop :=
  ∀ (s : State) (f : RxFrame) (rest : List RxFrame), s.running → s.claimsFlushed → s.bus.rxQueue = f :: rest → f.kind = .release →
    (s.station.state ≠ .lockout → exec .takeRelease s = .next { s with bus := { s.bus with rxQueue := rest } })
      ∧ (s.station.state = .lockout → Completes (exec .takeRelease s) fun u =>
        u.station =
            { s.station with state := if s.station.refLocked then .joined else .listening, joinCount := none }
          ∧ u.mon.told = u.station.state ∧ u.mon.isDeclared .lockout = false
          ∧ u.bridge.tripCount = 0 ∧ u.bridge.tripWindow = 0
          ∧ u.clock.aligned = s.station.refLocked
          ∧ (s.bridge.state = .off → (∀ m ∈ s.bridge.buffer, m ≠ .off) → s.bridge.buffer.all (fun m => !m.isSetpoint) = true →
            u.bridge = { s.bridge with
              tripCount := 0, tripWindow := 0, leaving := .placed, buffer := s.bridge.buffer ++ [.setpoint ⟨.rest, 0⟩] })
          ∧ u.tracker = s.tracker ∧ u.map.peers = s.map.peers ∧ u.map.yieldCount = s.map.yieldCount ∧ u.pending = s.pending)

/-! ### Recipes that fall due (R29 to R32) -/

/-- An answer due at a slot boundary: every remaining count falls by 1, and the answers that reach 0 leave with the held record
of their key, in their order, as RECIPE frames to ALL; a refused one is abandoned. Model's choices in it: logs 3, 4, 23, 51. -/
def Obligations.AnswersGoOut : Prop :=
  ∀ s : State, s.running → s.claimsFlushed → .cacheSlot ∈ s.boundary.owed → (∃ a ∈ s.cache.answers, a.remaining = 1) →
    let due := s.cache.answers.filter fun a => a.remaining - 1 == 0
    let send (b : Bus) (a : Answer) : Bus :=
      match s.cache.recipe? a.key with
      | some r => (b.submit s.station.state (.recipe r) .all).1
      | none => b
    exec .answerDue s = .next
      { s with
        boundary := { s.boundary with owed := s.boundary.owed.filter fun x => x != .cacheSlot }
        cache :=
          { s.cache with
            answers :=
              (s.cache.answers.map fun a => { a with remaining := a.remaining - 1 }).filter fun a => decide (0 < a.remaining) }
        bus := due.foldl send s.bus }

/-- A wanted record at a frame boundary: while neither owed nor at its interval it counts down; after its third send it turns
UNAVAILABLE with RECIPE REJECT; otherwise it asks the line, again after 2 frames, or after 16 once unavailable, and stays owed
where the queue refuses. The two rows of the table take every wanted record in list order. Model's choices in it: logs 3, 4,
23, 51. -/
def Obligations.WantedRecordsAskTheLine : Prop :=
  (∀ (s : State) (w : Wanted), s.cache.wanted.filter (fun x => x.key == w.key) = [w] →
    let put (u : State) (x : Wanted) : State :=
      { u with cache := { u.cache with wanted := u.cache.wanted.map fun y => if y.key == w.key then x else y } }
    let asked := s.bus.submit s.station.state (.recipeQuery w.key s.cfg.zoneIndex) .all
    (w.sendDue = false → 1 < w.framesToNext → s.tickWanted w = put s { w with framesToNext := w.framesToNext - 1 })
      ∧ (w.sendDue = false → w.framesToNext ≤ 1 → w.unavailable = false → w.sends = 3 →
        s.tickWanted w = (put s { w with unavailable := true, framesToNext := 16 }).raise .recipeReject .unavailable)
      ∧ (w.sendDue = true ∨ (w.framesToNext ≤ 1 ∧ ¬(w.unavailable = false ∧ w.sends = 3)) →
        s.tickWanted w =
          put { s with bus := asked.1 }
            (if asked.2 then
              { w with
                sends := if w.unavailable then w.sends else w.sends + 1, sendDue := false
                framesToNext := if w.unavailable then 16 else 2 }
             else { w with sendDue := true, framesToNext := if w.sendDue then w.framesToNext else 0 })))
    ∧ ∀ s : State, s.running → s.claimsFlushed → .cacheFrame ∈ s.boundary.owed →
      let owed : State := { s with boundary := { s.boundary with owed := s.boundary.owed.filter fun x => x != .cacheFrame } }
      let due (unavailable : Bool) := ∃ w ∈ s.cache.wanted, w.unavailable = unavailable ∧ (w.sendDue = true ∨ w.framesToNext ≤ 1)
      (due false → exec .recipeQueryDue s = .next (s.cache.wanted.foldl (fun u w => u.tickWanted w) owed))
        ∧ (due true → exec .unavailableQueryDue s = .next (s.cache.wanted.foldl (fun u w => u.tickWanted w) owed))

/-! ### Gates, encoder and departures (R40 to R58) -/

/-- ENTRY rising: within 25 mm of travel it is a glitch; accepted, it makes the oldest EXPECTED entry PRESENT at position 0 with a fresh
zone record, and without one an unannounced entry with the configured area and length and UNIDENTIFIED set, for which TRACKING with cause
UNANNOUNCED is raised and the first CARRIER QUERY is submitted. Model's choices in it: logs 20, 46, 52, 60. -/
def Obligations.EntryEdgeMakesACarrierPresent : Prop :=
  ∀ s : State, s.running → s.station.state.tracks = true → s.tracker.inBounds →
    (∀ r ∈ s.dose.records, r.tag < s.tracker.nextTag) →
    let glitch := ∃ n, s.tracker.entryTravel = some n ∧ n < 25
    (glitch → exec .entryRising s = .next (s.raise .tracking .entryGlitch))
      ∧ (¬glitch →
        (∀ pre e post, s.tracker.table = pre ++ e :: post → (∀ x ∈ pre, x.present = true) → e.present = false →
          (∀ r ∈ s.dose.records, r.tag ≠ e.tag) →
          let arrived := { e with present := true, leading := 0, entryTravel := 0, trailingSeen := false, atExit := false }
          let opened : OpenRecord :=
            { tag := e.tag, forward := 0, reverse := 0, target := 0, targetFixed := false, recipeUsed := none, minScale := 8
              frames := 0, history := [], deviations := 0, flags := if e.record.carrierId = 0 then 0x20#16 else 0#16 }
          let fixed : OpenRecord :=
            match e.record.recipe.bind fun k => s.cache.recipe? k with
            | some r => { opened with target := r.zoneTarget s.cfg.zoneIndex * e.record.area, targetFixed := true }
            | none => opened
          exec .entryRising s = .next
            { s with
              tracker :=
                { s.tracker with
                  table := pre ++ arrived :: post, entryTravel := some 0
                  dominant := dominantOf s.cfg.zoneLength (pre ++ arrived :: post) }
              dose := { s.dose with records := s.dose.records ++ [fixed] } })
          ∧ ((∀ e ∈ s.tracker.table, e.present = true) → s.tracker.table.length = 6 →
            exec .entryRising s = .next
              (State.raise .tracking .tableFull { s with tracker := { s.tracker with entryTravel := some 0 } }))
          ∧ ((∀ e ∈ s.tracker.table, e.present = true) → s.tracker.table.length < 6 →
            let e : Entry :=
              { tag := s.tracker.nextTag, present := true, recipePending := false, length := s.cfg.defaultLength, leading := 0
                entryTravel := 0, trailingSeen := false, atExit := false, unannounced := true, querySends := 0, framesToNext := 0
                queryDue := true, record := ⟨0, none, s.cfg.defaultArea, s.cfg.defaultLength, false, false, false, []⟩ }
            let opened : OpenRecord :=
              { tag := s.tracker.nextTag, forward := 0, reverse := 0, target := 0, targetFixed := false, recipeUsed := none
                minScale := 8, frames := 0, history := [], deviations := 0, flags := 0x20#16 }
            let made : State :=
              { s with
                tracker :=
                  { s.tracker with
                    table := s.tracker.table ++ [e], nextTag := s.tracker.nextTag + 1, entryTravel := some 0
                    dominant := dominantOf s.cfg.zoneLength (s.tracker.table ++ [e]) }
                dose := { s.dose with records := s.dose.records ++ [opened] } }
            let raised := made.raise .tracking .unannounced
            let asked := raised.bus.submit s.station.state
              (.carrierQuery s.cfg.zoneIndex ((s.tracker.table.map fun x => x.record.carrierId).filter fun id => id != 0))
              (.zone (s.cfg.zoneIndex - 1))
            let queried : Entry := if asked.2 then { e with querySends := 1, queryDue := false, framesToNext := 4 } else e
            exec .entryRising s = .next
              { raised with
                bus := asked.1, tracker := { made.tracker with table := s.tracker.table ++ [queried] } }))

/-- ENTRY falling: it goes to the youngest PRESENT entry, whose length becomes its travel within 100..3000 mm; a length more
than 25 mm from the record's marks TRACK ERROR and raises TRACKING with cause LENGTH. The dominant carrier is formed anew, and an entry that
now lies past the limit departs by position. Model's choices in it: logs 20, 52. -/
def Obligations.EntryFallMeasuresTheLength : Prop :=
  ∀ s : State, s.running → s.station.state.tracks = true → s.tracker.inBounds →
    let present := s.tracker.table.filter Entry.present
    (present = [] ∨ (∃ e, present.getLast? = some e ∧ e.trailingSeen = true) →
      exec .entryFalling s = .next (s.raise .tracking .noMatch))
      ∧ ∀ e, present.getLast? = some e → e.trailingSeen = false →
        (e.entryTravel < 25 → exec .entryFalling s = .next (s.raise .tracking .entryGlitch))
          ∧ (25 ≤ e.entryTravel →
            let far := e.unannounced = false ∧ (e.entryTravel + 25 < e.record.length ∨ e.record.length + 25 < e.entryTravel)
            let table := s.tracker.table.map fun x =>
              if x.tag == e.tag then { x with trailingSeen := true, length := max 100 (min 3000 e.entryTravel) } else x
            let measured : State := { s with tracker := { s.tracker with table := table } }
            let formed (u : State) : State :=
              { u with tracker := { u.tracker with dominant := dominantOf s.cfg.zoneLength table } }
            let raised : State := (measured.flagTag e.tag .trackError).raise .tracking .length
            (¬far → exec .entryFalling s = .next (formed measured).checkLimit)
              ∧ (far → exec .entryFalling s = .next (formed raised).checkLimit)
              ∧ ∀ u : State, (∀ x ∈ u.tracker.table, x.present = true → x.leading - x.length ≤ u.cfg.zoneLength + 25) →
                u.checkLimit = u)

/-- EXIT rising. Every PRESENT entry whose EXIT falling edge was missed departs first, oldest first, with FORCED DEPARTURE, TRACK ERROR and
TRACKING. Then the edge goes to the oldest PRESENT entry not yet at EXIT; with none it raises TRACKING. An entry within 25 mm of the zone
length keeps its position; one short of it or past it by more is moved to it, pushes the younger entries that it would reach back behind it,
and every entry moved is marked TRACK ERROR. Model's choices in it: logs 20, 52, 60. -/
def Obligations.ExitRiseFindsTheLeadingEdge : Prop :=
  ∀ s : State, s.running → s.station.state.tracks = true → s.tracker.inBounds →
    let atExit := s.tracker.table.filter fun x => x.present && x.atExit
    (exec .exitRising s = exec .exitRising ((atExit.map Entry.tag).foldl
      (fun u tag => (((u.flagTag tag .forcedDeparture).flagTag tag .trackError).depart tag).raise .tracking .exitMissed) s))
      ∧ (atExit = [] →
        ((∀ x ∈ s.tracker.table, x.present = false) → exec .exitRising s = .next (s.raise .tracking .noMatch))
          ∧ ∀ e rest, s.tracker.table = e :: rest → e.present = true →
            let formed (table : List Entry) (u : State) : State :=
              { u with tracker := { u.tracker with table := table, dominant := dominantOf s.cfg.zoneLength table } }
            (s.cfg.zoneLength ≤ e.leading + 25 → e.leading ≤ s.cfg.zoneLength + 25 →
              exec .exitRising s = .next (formed ({ e with atExit := true } :: rest) s).checkLimit)
              ∧ (e.leading + 25 < s.cfg.zoneLength ∨ s.cfg.zoneLength + 25 < e.leading →
                ∃ (rest' : List Entry) (moved : List Nat),
                  let corrected := { e with leading := s.cfg.zoneLength } :: rest'
                  let reached (i : Nat) (x : Entry) :=
                    x.present = true ∧ ∃ b, corrected[i]? = some b ∧ b.leading ≤ x.leading
                  rest'.length = rest.length
                    ∧ (∀ (i : Nat) (x b : Entry), rest[i]? = some x → corrected[i]? = some b →
                      (reached i x → rest'[i]? = some { x with leading := b.leading - 1 })
                        ∧ (¬reached i x → rest'[i]? = some x))
                    ∧ (∀ tag, tag ∈ moved ↔
                      tag = e.tag ∨ ∃ (i : Nat) (x : Entry), rest[i]? = some x ∧ reached i x ∧ x.tag = tag)
                    ∧ exec .exitRising s = .next (formed ({ e with leading := s.cfg.zoneLength, atExit := true } :: rest')
                      ((moved.foldl (fun (u : State) tag => u.flagTag tag .trackError)
                        { s with tracker := { s.tracker with table := corrected } }).raise .tracking .position)).checkLimit))

/-- EXIT falling: the oldest PRESENT entry at EXIT departs, without FORCED DEPARTURE; with none the edge raises TRACKING. The departure
closes its zone record, takes it from the table, releases its key, retains its record and hands it over. The release takes a pin from a held
key, and flushes it where no pin is left and a newer revision of its id is held; it takes a waiting entry from a wanted key, which goes with
the last. The entry is kept as it left for as long as the engine names its carrier. Model's choices in it: logs 21, 61. -/
def Obligations.ExitFallDeparts : Prop :=
  (∀ s : State, s.running → s.station.state.tracks = true → s.tracker.inBounds →
    ((∀ x ∈ s.tracker.table, x.present = true → x.atExit = false) → exec .exitFalling s = .next (s.raise .tracking .noMatch))
      ∧ ∀ pre e post, s.tracker.table = pre ++ e :: post → e.present = true → e.atExit = true →
        (∀ x ∈ pre, x.present = true → x.atExit = false) →
        let recipe := e.record.recipe.bind fun k => s.cache.recipe? k
        let closed := (s.dose.records.find? fun r => r.tag == e.tag).map
          (OpenRecord.close s.cfg.zoneIndex s.cfg.stationAddress ((recipe.map Recipe.tolerance).getD 0))
        let leaves : DoseRecord :=
          { e.record with
            resent := false, originUnknown := e.record.originUnknown || e.unannounced
            zones := if e.record.orderError then e.record.zones else e.record.zones ++ closed.toList }
        let next := if s.cfg.lastZone = true ∨ s.cfg.zoneIndex = 48 then 0 else s.cfg.zoneIndex + 1
        exec .exitFalling s = .next
          { s with
            tracker :=
              { s.tracker with
                table := pre ++ post, dominant := dominantOf s.cfg.zoneLength (pre ++ post)
                retained :=
                  if e.record.carrierId = 0 then s.tracker.retained
                  else s.tracker.retained.drop (s.tracker.retained.length - 3) ++ [leaves]
                departed := (s.tracker.departed ++ [{ e with recipePending := false }]).filter fun x => s.names x.tag }
            dose := { s.dose with records := s.dose.records.filter fun r => r.tag != e.tag }
            cache := (e.record.recipe.map fun k => s.cache.release k).getD s.cache
            bus := (s.bus.submit s.station.state (.handover leaves) (.zone next)).1 })
    ∧ ∀ (c : Cache) (k : Key),
      (∀ pre e post, c.entries = pre ++ e :: post → e.recipe.key = k → (∀ x ∈ pre ++ post, x.recipe.key ≠ k) →
        let superseded := ∃ x ∈ pre ++ post, x.recipe.key.id = k.id ∧ k.rev < x.recipe.key.rev
        (e.pins ≤ 1 ∧ superseded →
          c.release k = { c with entries := pre ++ post, answers := c.answers.filter fun a => a.key != k })
          ∧ (¬(e.pins ≤ 1 ∧ superseded) → c.release k = { c with entries := pre ++ { e with pins := e.pins - 1 } :: post }))
        ∧ ∀ pre w post, c.holds k = false → c.wanted = pre ++ w :: post → w.key = k → (∀ x ∈ pre ++ post, x.key ≠ k) →
          (∀ x ∈ pre ++ post, 0 < x.waiting) →
          (w.waiting ≤ 1 → c.release k = { c with wanted := pre ++ post })
            ∧ (1 < w.waiting → c.release k = { c with wanted := pre ++ { w with waiting := w.waiting - 1 } :: post })

/-- A forward count moves every PRESENT entry by 1 mm, with the travel of those whose trailing edge is not seen, the travel since the last
ENTRY edge and the frame count, each saturating at 65535; the dominant carrier is formed anew, and an entry more than 25 mm past the
zone departs by position. Model's choices in it: logs 52, 60. -/
def Obligations.ForwardCountMovesTheCarriers : Prop :=
  ∀ s : State, s.running → s.station.state.tracks = true →
    let table := s.tracker.table.map fun e =>
      if e.present then
        { e with
          leading := min (e.leading + 1) 65535
          entryTravel := if e.trailingSeen then e.entryTravel else min (e.entryTravel + 1) 65535 }
      else e
    let moved : State :=
      { s with
        tracker :=
          { s.tracker with
            table := table, dominant := dominantOf s.cfg.zoneLength table
            entryTravel := s.tracker.entryTravel.map fun n => min (n + 1) 65535
            frameCount := min (s.tracker.frameCount + 1) 65535 } }
    exec .forwardCount s = .next moved.checkLimit
      ∧ ((∀ e ∈ table, e.present = true → e.leading - e.length ≤ s.cfg.zoneLength + 25) → moved.checkLimit = moved)
      ∧ ∀ e rest, table = e :: rest → e.present = true → s.cfg.zoneLength + 25 < e.leading - e.length →
        (∀ x ∈ rest, x.present = true → x.leading - x.length ≤ s.cfg.zoneLength + 25) →
        moved.checkLimit = ((moved.flagTag e.tag .forcedDeparture).depart e.tag).raise .tracking .forced

/-- Backward counts move nothing: the first after a frame boundary sets backward seen, sets TRACK ERROR on every open record and raises
TRACKING; further ones change nothing until a frame boundary clears backward seen. -/
def Obligations.BackwardCountIsMarkedOnce : Prop :=
  ∀ s : State, s.running → s.station.state.tracks = true →
    (s.tracker.backwardSeen = true → exec .backwardCount s = .next s)
      ∧ (s.tracker.backwardSeen = false →
        exec .backwardCount s = .next
          (State.raise .tracking .backward
            { s with
              tracker := { s.tracker with backwardSeen := true }
              dose :=
                { s.dose with records := s.dose.records.map fun r => { r with flags := r.flags ||| 0x40#16 } } }))
      ∧ (s.boundary.frame = true → s.trackerBoundary.tracker.backwardSeen = false)

/-- The tracker's frame boundary with an unannounced carrier's query due: the count history takes the frame's count, the speed is a quarter
of its sum, the engine is handed the dominant carrier, the forecast and the snapshot's total area, and the query is submitted to the zone
before. The dominant carrier is the PRESENT entry of greatest in-zone area, the older on a tie; the forecast is the same with every leading
position raised by twice the speed, entries beyond the zone left out; the snapshot gives every PRESENT entry's in-zone area and their sum.
Model's choices in it: logs 3, 4, 20, 23, 33, 35, 75. -/
def Obligations.CarrierQueryFallsDue : Prop :=
  (∀ (s : State) (pre : List Entry) (e : Entry) (post : List Entry), s.running → s.claimsFlushed → .tracker ∈ s.boundary.owed →
    s.boundary.frame = true → s.tracker.inBounds → s.tracker.table = pre ++ e :: post → e.unannounced = true →
    (∀ x ∈ pre ++ post, x.unannounced = false) → (e.queryDue = true ∨ (e.querySends < 3 ∧ e.framesToNext ≤ 1)) →
    let history := (s.tracker.history ++ [s.tracker.frameCount]).drop 1
    let asked := s.bus.submit s.station.state
      (.carrierQuery s.cfg.zoneIndex ((s.tracker.table.map fun x => x.record.carrierId).filter fun id => id != 0))
      (.zone (s.cfg.zoneIndex - 1))
    let forecast := forecastOf s.cfg.zoneLength (history.sum / 4) s.tracker.table
    let e' : Entry :=
      if asked.2 then { e with querySends := e.querySends + 1, queryDue := false, framesToNext := 4 }
      else { e with queryDue := true, framesToNext := if e.queryDue then e.framesToNext else e.framesToNext - 1 }
    exec .carrierQueryDue s = .next
      { s with
        bus := asked.1
        tracker :=
          { s.tracker with
            table := pre ++ e' :: post, history := history, frameCount := 0, speed := history.sum / 4, backwardSeen := false
            forecast := forecast }
        dose := { s.dose with snapshots := lastTwo (s.dose.snapshots ++ [s.snapshot s.boundary.ended s.boundary.endedSerial]) }
        engine := { s.engine with area := (s.snapshot s.boundary.ended s.boundary.endedSerial).total }
        boundary :=
          { s.boundary with
            owed := s.boundary.owed.filter (fun x => x != .tracker), dominant := s.tracker.dominant, forecast := forecast } })
    ∧ ∀ (zoneLength speed : Nat) (table : List Entry),
      let area (ahead : Nat) (e : Entry) :=
        e.record.area * (min (e.leading + ahead) zoneLength - (e.leading + ahead - e.length)) / e.length
      let chosen (ahead : Nat) (among : List Entry) (answer : Option Nat) :=
        (among = [] → answer = none)
          ∧ ∀ pre e post, among = pre ++ e :: post → (∀ x ∈ pre, area ahead x < area ahead e) →
            (∀ x ∈ post, area ahead x ≤ area ahead e) → answer = some e.tag
      let present := table.filter Entry.present
      chosen 0 present (dominantOf zoneLength table)
        ∧ chosen (2 * speed) (present.filter fun e => decide ((e.leading + 2 * speed : Int) - e.length ≤ zoneLength))
          (forecastOf zoneLength speed table)
        ∧ ∀ (s : State) (ended serial : Nat), s.cfg.zoneLength = zoneLength → s.tracker.table = table →
          s.snapshot ended serial =
            ⟨ended, serial, present.map (fun e => ⟨e.tag, e.record.carrierId, area 0 e⟩), (present.map (area 0)).sum⟩

/-! ### The slot map's frame boundary (R65 to R80) -/

/-- A frame boundary as the slot map takes it: every peer record ages by 1 and goes at 24; a sixteenth frame without need
withdraws the own active part, which puts a reverse setpoint to REST at once; where nothing falls due the row changes nothing.
Model's choices in it: logs 3, 4, 6, 23, 24. -/
def Obligations.PeersAgeAndUnneededPartsGo : Prop :=
  ∀ s : State, s.running → s.claimsFlushed → .slotMap ∈ s.boundary.owed → s.boundary.frame = true → s.map.live = true →
    let aged := (s.map.peers.map fun p => { p with age := p.age + 1 }).filter fun p => decide (p.age < 24)
    ((∀ p ∈ s.map.peers, p.age < 23) → exec .peerRecordAgeOut s = .next s)
      ∧ ((∃ p ∈ s.map.peers, 23 ≤ p.age) → Completes (exec .peerRecordAgeOut s) fun u =>
        u.map.peers = aged ∧ u.pending = s.pending ∧ u.clock = s.clock ∧ u.tracker = s.tracker ∧ u.station = s.station
          ∧ u.boundary = { s.boundary with owed := s.boundary.owed.filter fun x => x != .slotMap })
      ∧ (s.map.active.isSome = true → s.engine.active.needsClaim = false → s.map.unneeded = 15 → s.map.pending = none →
        Completes (exec .unneededExpiry s) fun u =>
          u.map.peers = aged ∧ u.map.active = none ∧ u.map.unneeded = 0
            ∧ u.engine.setpoint = (if s.engine.setpoint.dir = .rev then ⟨.rest, 0⟩ else s.engine.setpoint)
            ∧ u.bridge = (if s.engine.setpoint.dir = .rev then s.bridge.takeSetpoint ⟨.rest, 0⟩ else s.bridge)
            ∧ u.pending = s.pending ∧ u.clock = s.clock ∧ u.tracker = s.tracker ∧ u.station = s.station)

/-- The window closes at the first frame boundary at which the count is 64 or more: the pending part becomes the active part
where it fits beside every active part and the pending parts of lower addresses, and otherwise yields, with the yield count,
the hold and no word to the engine. As the engine takes a commit, a PREPARED context that owns the request becomes ACTIVE and the carrier
that governed before is marked MIXED, or in a trip rest it waits ready; otherwise the ACTIVE context keeps its carrier and its key; on a
matching part it runs NORMAL with the part's offset, scale and run currents; and the request is settled anew. Model's choices in it: logs 3,
4, 6, 22, 23, 24, 42. -/
def Obligations.WindowClosesInCommitOrYield : Prop :=
  (∀ (s : State) (own : ClaimPart) (n : Nat), s.running → s.claimsFlushed → .slotMap ∈ s.boundary.owed → s.boundary.frame = true →
    s.map.live = true → s.map.pending = some own → s.map.window = some n →
    (s.map.active = none ∨ s.engine.active.needsClaim = true ∨ s.map.unneeded ≠ 15) →
    let aged := (s.map.peers.map fun p => { p with age := p.age + 1 }).filter fun p => decide (p.age < 24)
    let counted := aged.flatMap fun p =>
      p.active.toList ++ (if p.address < s.cfg.stationAddress then p.pending.toList else [])
    let fit := ∀ x, x < 64 → own.covers x = true →
      (counted.map (ClaimPart.current x)).sum + own.current x ≤ s.cfg.lineReverseBudget
        ∧ (counted.map (ClaimPart.onsets x)).sum + own.onsets x ≤ s.cfg.onsetLimit
    let yields := min 3 (s.map.yieldCount + 1)
    (n < 63 → exec .windowClose s = .next s)
      ∧ (63 ≤ n → fit → Completes (exec .windowClose s) fun u =>
        u.map.active = some own ∧ u.map.pending = none ∧ u.map.window = none ∧ u.map.yieldCount = 0 ∧ u.map.unneeded = 0
          ∧ u.map.peers = aged ∧ u.mon.isDeclared .slotStarved = false
          ∧ u.pending = s.pending ∧ u.clock = s.clock ∧ u.tracker = s.tracker ∧ u.station = s.station)
      ∧ (63 ≤ n → ¬fit → Completes (exec .windowClose s) fun u =>
        u.map.active = s.map.active ∧ u.map.pending = none ∧ u.map.window = none ∧ u.map.yieldCount = yields
          ∧ u.map.hold = max s.map.hold (1 + s.cfg.stationAddress % 4 * yields) - 1 ∧ u.map.request = s.map.request
          ∧ u.map.peers = aged ∧ u.engine = s.engine ∧ u.bridge = s.bridge ∧ u.mon.declared = s.mon.declared
          ∧ u.pending = s.pending ∧ u.clock = s.clock ∧ u.tracker = s.tracker ∧ u.station = s.station))
    ∧ ∀ (s : State) (part : ClaimPart), s.station.state = .joined → s.map.active = some part →
      let u := s.commitNotice
      let matched (p : Pattern) := part.cycle = p.cycle ∧ part.runs = p.runs.map fun r =>
        ⟨r.start, r.len, min ((r.density * s.cfg.zoneWindowArea * part.scale + 79999) / 80000) s.cfg.reverseRating⟩
      let onPart (c : Context) : Context :=
        { c with mode := .normal, offset := part.offset, scale := part.scale, ceilings := part.runs.map ClaimRun.current }
      (u.engine.owner, u.engine.requested) = u.settled
        ∧ u.engine.tripRest = s.engine.tripRest ∧ u.engine.lastDominant = s.engine.lastDominant
        ∧ u.map.active = s.map.active ∧ u.tracker = s.tracker ∧ u.station = s.station ∧ u.clock = s.clock ∧ u.pending = s.pending
        ∧ (s.engine.owner = .prepared → s.engine.tripRest = false → ∀ c, s.engine.prepared = some c →
          u.engine.prepared = none ∧ u.engine.active.carrier = c.carrier ∧ u.engine.active.key = c.key
            ∧ (∀ p, c.key.isSome = true → c.pattern = some p → matched p →
              u.engine.active = onPart { c with ready := false, readyByFailure := false })
            ∧ (∀ tag, s.engine.active.carrier = some tag → c.carrier ≠ some tag →
              u.dose.records = s.dose.records.map fun r => if r.tag = tag then { r with flags := r.flags ||| 0x800#16 } else r)
            ∧ (s.engine.active.carrier = none ∨ s.engine.active.carrier = c.carrier → u.dose = s.dose))
        ∧ (s.engine.owner = .prepared → s.engine.tripRest = true → ∀ c, s.engine.prepared = some c →
          u.engine.prepared = some { c with ready := true, readyByFailure := false } ∧ u.engine.committedInRest = true
            ∧ u.engine.active = s.engine.active ∧ u.engine.setpoint = s.engine.setpoint ∧ u.dose = s.dose)
        ∧ (s.engine.owner ≠ .prepared →
          u.engine.active.carrier = s.engine.active.carrier ∧ u.engine.active.key = s.engine.active.key ∧ u.dose = s.dose
            ∧ (s.engine.active.key = none → u.engine.active = s.engine.active)
            ∧ ∀ p, s.engine.active.key.isSome = true → s.engine.active.pattern = some p → matched p →
              u.engine.active = onPart s.engine.active)

/-- Planning at a frame boundary that finds the hold at 0, or at 1, where it ends: scales 8 to 2, each with every offset from (own zone index × 5) mod
N on, run currents rounded up and lowered to the reverse rating; the first candidate that fits beside all peer parts becomes
the pending part and a CLAIM with the own pair is submitted; where none fits the hold is 8, SLOT STARVED is declared and the
engine is told. Model's choices in it: logs 3, 4, 23, 24. -/
def Obligations.PlanningTakesTheFirstPlaceThatFits : Prop :=
  ∀ (s : State) (p : Pattern), s.running → s.claimsFlushed → .slotMap ∈ s.boundary.owed → s.boundary.frame = true →
    s.map.live = true → s.station.state = .joined → s.mon.isDeclared .busErrors = false → s.map.hold ≤ 1 → s.map.pending = none →
    s.map.request = some p → (s.map.active = none ∨ s.engine.active.needsClaim = true ∨ s.map.unneeded ≠ 15) →
    let aged := (s.map.peers.map fun x => { x with age := x.age + 1 }).filter fun x => decide (x.age < 24)
    let counted := aged.flatMap fun x => x.active.toList ++ x.pending.toList
    let fit (c : ClaimPart) := ∀ x, x < 64 → c.covers x = true →
      (counted.map (ClaimPart.current x)).sum + c.current x ≤ s.cfg.lineReverseBudget
        ∧ (counted.map (ClaimPart.onsets x)).sum + c.onsets x ≤ s.cfg.onsetLimit
    let candidates : List ClaimPart := [8, 7, 6, 5, 4, 3, 2].flatMap fun scale =>
      (List.range p.cycle).map fun k =>
        { cycle := p.cycle, offset := (s.cfg.zoneIndex * 5 + k) % p.cycle, scale := scale
          runs := p.runs.map fun r =>
            ⟨r.start, r.len, min ((r.density * s.cfg.zoneWindowArea * scale + 79999) / 80000) s.cfg.reverseRating⟩ }
    let u := s.takeTask .slotMap
    (s.map.hold = 1 → exec .planningHoldExpiry s = .next u)
      ∧ (∀ before c after, candidates = before ++ c :: after → (∀ x ∈ before, ¬fit x) → fit c →
        let sent := s.bus.submit .joined (.claim ⟨s.cfg.zoneIndex, s.map.active, some c⟩) .all
        u.map.pending = some c ∧ u.map.window = none ∧ u.map.active = s.map.active ∧ u.map.request = some p ∧ u.map.hold = 0
          ∧ u.map.peers = aged ∧ u.bus = sent.1 ∧ u.map.sendDue = !sent.2
          ∧ u.engine = s.engine ∧ u.bridge = s.bridge ∧ u.mon = s.mon ∧ u.dose = s.dose
          ∧ u.pending = s.pending ∧ u.clock = s.clock ∧ u.tracker = s.tracker ∧ u.station = s.station)
      ∧ ((∀ c ∈ candidates, ¬fit c) → s.settled = (s.engine.owner, some p) → s.engine.requested = some p →
        u.map.hold = 8 ∧ u.map.pending = none ∧ u.map.active = s.map.active ∧ u.map.request = some p ∧ u.map.peers = aged
          ∧ u.mon.isDeclared .slotStarved = true
          ∧ (s.engine.owner = .prepared → ∀ c, u.engine.prepared = some c → c.ready = true ∧ c.readyByFailure = true)
          ∧ u.pending = s.pending ∧ u.clock = s.clock ∧ u.tracker = s.tracker ∧ u.station = s.station)

/-- A refresh that falls due, and a CLAIM still owed, submit the own pair as it stands: accepted, the refresh count is 0 and
nothing is owed; refused, the CLAIM is owed at slot boundaries. A CLAIM owed after a dropped frame waits for a frame boundary,
and one that the station state forbids is owed no more. Model's choices in it: logs 3, 4, 6, 23, 44. -/
def Obligations.RefreshAndRetrySubmitTheOwnPair : Prop :=
  ∀ s : State, s.running → s.claimsFlushed → .slotMap ∈ s.boundary.owed → s.map.live = true →
    let left : State := { s with boundary := { s.boundary with owed := s.boundary.owed.filter fun x => x != .slotMap } }
    let window := s.map.window.map fun n => min 127 (n + 1)
    let sent := s.bus.submit s.station.state (.claim ⟨s.cfg.zoneIndex, s.map.active, s.map.pending⟩) .all
    (s.boundary.frame = true → s.station.state = .joined →
      (s.map.active = none ∨ s.engine.active.needsClaim = true) →
      (s.map.pending = none ∨ ∀ n, s.map.window = some n → n < 63) → (2 ≤ s.map.hold ∨ s.map.request = none) →
      let after : State :=
        { left with
          bus := sent.1
          map :=
            { s.map with
              peers := (s.map.peers.map fun p => { p with age := p.age + 1 }).filter fun p => decide (p.age < 24)
              window := window, unneeded := if s.map.active.isSome then 0 else s.map.unneeded, hold := s.map.hold - 1
              refresh := if sent.2 then 0 else min 8 (s.map.refresh + 1), sendDue := !sent.2, dueAtFrame := false
              calls := false } }
      ((s.map.active.isSome ∨ s.map.pending.isSome) → 7 ≤ s.map.refresh → exec .refreshDue s = .next after)
        ∧ (s.map.sendDue = true → exec .claimRetry s = .next after))
      ∧ (s.boundary.frame = false → s.map.sendDue = true →
        (s.map.dueAtFrame = true → exec .claimRetry s = .next s)
          ∧ (s.map.dueAtFrame = false →
            let allowed := s.station.state = .joined
              ∨ (s.station.state = .lockout ∧ s.map.active = none ∧ s.map.pending = none)
            (allowed → exec .claimRetry s = .next
              { left with
                bus := sent.1
                map :=
                  { s.map with
                    window := window, refresh := if sent.2 then 0 else s.map.refresh, sendDue := !sent.2, dueAtFrame := false
                    calls := false } })
              ∧ (¬allowed → exec .claimRetry s = .next
                { left with
                  map := { s.map with window := window, sendDue := false, dueAtFrame := false, calls := false } })))

/-! ### The bridge link (R106 to R121) -/

/-- The command lane: the head message starts while BLROOM is high and nothing is going out; BLROOM's rise ends the take
window, with the miss count at 0 in the first window; the END of a message lowers BLROOM and opens a take window of 50 µs; the
END of an OFF lets a waiting REST out; the END of a SETPOINT of another direction begins a change, and enters the slot log; in TRIPPED
that of the REST the trip placed starts the confirm timer. A handed setpoint is lowered to the rating of its direction, refused in OFF and
TRIPPED, held in CHANGING unless it is REST, and otherwise placed unless it equals the one last sent and none waits; a placed one takes the
contents of a waiting SETPOINT, is discarded behind a waiting OFF, and else stands at the tail. Model's choices in it: logs 1, 6, 10, 14,
26, 27, 31, 32, 50. -/
def Obligations.LaneMessagesGoOutAndEnd : Prop :=
  (∀ (s : State) (t : Instant), s.running →
    let ended : Bridge := { s.bridge with sending := none, blroom := false, take := some ⟨s.at t + 500, true⟩ }
    (∀ m rest, s.bridge.buffer = m :: rest → s.bridge.blroom = true → s.bridge.sending = none →
      exec .laneSend s = .next { s with bridge := { s.bridge with sending := some m, buffer := rest } })
      ∧ (s.bridge.buffer = [] ∨ s.bridge.blroom = false ∨ s.bridge.sending ≠ none → exec .laneSend s = .next s)
      ∧ (s.bridge.take = none → exec .blroomRise s = .next { s with bridge := { s.bridge with blroom := true } })
      ∧ (∀ w, s.bridge.take = some w → exec .blroomRise s = .next
        { s with
          bridge :=
            { s.bridge with blroom := true, take := none, missCount := if w.first then 0 else s.bridge.missCount } })
      ∧ (s.bridge.sending = some .off →
        (s.bridge.leaving ≠ .afterOff →
          exec (.offSent t) s = .next { s with now := s.at t, bridge := { ended with lastSent := .off } })
          ∧ (s.bridge.leaving = .afterOff → (∀ m ∈ s.bridge.buffer, ∃ l, m = .mark l) →
            exec (.offSent t) s = .next
              { s with
                now := s.at t
                bridge :=
                  { ended with
                    lastSent := .off, leaving := .placed, buffer := s.bridge.buffer ++ [.setpoint ⟨.rest, 0⟩] } }))
      ∧ ∀ sp, s.bridge.sending = some (.setpoint sp) →
        let cls (l : SlotLog) : DirClass :=
          if l.cls = .off then .off else if l.cls = (match sp.dir with | .rest => .rest | .fwd => .fwd | .rev => .rev) then l.cls else .mixed
        let taken : Bridge :=
          { ended with
            lastSent := .setpoint sp
            log :=
              let l := s.bridge.log.getD SlotLog.first
              some { l with reference := max l.reference sp.current, cls := cls l } }
        let due := s.at t + s.cfg.confirmLimit * 10
        let changing : Bridge :=
          { taken with
            state := .changing, target := sp.dir, awaited := some (.running due)
            log :=
              let l := s.bridge.log.getD SlotLog.first
              some { l with reference := max l.reference sp.current, cls := if l.cls = .off then .off else .mixed } }
        let same := (s.bridge.state = .rest ∧ sp.dir = .rest) ∨ (s.bridge.state = .forward ∧ sp.dir = .fwd)
          ∨ (s.bridge.state = .reverse ∧ sp.dir = .rev)
        let drives := s.bridge.state = .rest ∨ s.bridge.state = .forward ∨ s.bridge.state = .reverse
        (drives → same → exec (.setpointSent t) s = .next { s with now := s.at t, bridge := taken })
          ∧ (drives ∧ ¬same ∨ s.bridge.state = .changing →
            exec (.setpointSent t) s = .next { s with now := s.at t, bridge := changing })
          ∧ (s.bridge.state = .off → s.bridge.leaving = .placed → sp.dir = .rest →
            exec (.setpointSent t) s = .next { s with now := s.at t, bridge := { changing with leaving := .no } })
          ∧ (s.bridge.state = .off → ¬(s.bridge.leaving = .placed ∧ sp.dir = .rest) →
            exec (.setpointSent t) s = .next { s with now := s.at t, bridge := taken })
          ∧ (s.bridge.state = .tripped → exec (.setpointSent t) s = .next
            { s with
              now := s.at t
              bridge :=
                { taken with
                  awaited :=
                    if s.bridge.awaited = some .notStarted ∧ (∀ m ∈ s.bridge.buffer, m.isSetpoint = false) then some (.running due)
                    else s.bridge.awaited } }))
    ∧ (∀ (b : Bridge) (sp : Setpoint),
      let drives := b.state = .rest ∨ b.state = .forward ∨ b.state = .reverse
      let waits := ∃ x, .setpoint x ∈ b.buffer
      (b.state = .off ∨ b.state = .tripped → b.takeSetpoint sp = b)
        ∧ (b.state = .changing → sp.dir ≠ .rest → b.takeSetpoint sp = { b with held := some sp })
        ∧ (b.state = .changing → sp.dir = .rest → b.takeSetpoint sp = { b.placeSetpoint sp with held := none })
        ∧ (drives → b.lastSent = .setpoint sp → ¬waits → b.takeSetpoint sp = b)
        ∧ (drives → b.lastSent ≠ .setpoint sp ∨ waits → b.takeSetpoint sp = b.placeSetpoint sp)
        ∧ (.off ∈ b.buffer → b.placeSetpoint sp = b)
        ∧ (.off ∉ b.buffer → ¬waits → b.placeSetpoint sp = { b with buffer := b.buffer ++ [.setpoint sp] })
        ∧ ∀ pre x post, b.buffer = pre ++ .setpoint x :: post → .off ∉ b.buffer → (∀ m ∈ pre ++ post, m.isSetpoint = false) →
          b.placeSetpoint sp = { b with buffer := pre ++ .setpoint sp :: post })
    ∧ ∀ (s : State) (sp : Setpoint),
      let current := min sp.current (match sp.dir with
        | .rest => 0 | .fwd => 10 * s.cfg.forwardRating | .rev => 10 * s.cfg.reverseRating)
      let lowered : Setpoint := if current = 0 then ⟨.rest, 0⟩ else ⟨sp.dir, current⟩
      let taken := s.bridge.takeSetpoint lowered
      (s.bridge.state = .off ∨ s.bridge.state = .tripped → s.handSlotSetpoint sp = s)
        ∧ (s.bridge.state ≠ .off → s.bridge.state ≠ .tripped → .bridgeSlot ∈ s.boundary.owed →
          s.handSlotSetpoint sp = { s with bridge := { taken with early := some ⟨s.boundary.begun, lowered⟩ } })
        ∧ (s.bridge.state ≠ .off → s.bridge.state ≠ .tripped → .bridgeSlot ∉ s.boundary.owed →
          let l := s.bridge.log.getD SlotLog.first
          s.handSlotSetpoint sp =
            { s with bridge := { taken with log := some { l with accepted := some (l.accepted.getD lowered) } } })
        ∧ s.handSetpointNow sp = { s with bridge := taken }

/-- Misses: a take window that runs out, a reading window that runs out, and an expectation that the END of a later MARK ends count one, the
last two with a slot report of no reading, and so does a MARK removed unsent; a miss while the count is 1 trips with SILENT, and in OFF none
is counted. The END of a MARK opens a reading window of 200 µs. A slot boundary outside OFF places a MARK for a slot that began outside OFF;
any other hands a report marked OFF, with the setpoint accepted in the slot and whether it saw a trip. Model's choices in it: logs 1, 2, 5,
6, 10, 14, 23, 29, 35, 36, 50, 56, 66, 73. -/
def Obligations.MissesAreCounted : Prop :=
  (∀ (s : State) (t : Instant) (df : Bool), s.running → s.claimsFlushed →
    let missed (u : State) (close : State → State) (o : Host.Outcome State Fault Refusal) : Prop :=
      (u.bridge.state = .off → o = .next (close u))
        ∧ (u.bridge.state ≠ .off → u.bridge.missCount ≠ 1 → o = .next (close { u with bridge := { u.bridge with missCount := 1 } }))
        ∧ (u.bridge.state ≠ .off → u.bridge.missCount = 1 →
          o = .next (close ((State.trip .silent df { u with bridge := { u.bridge with missCount := 0 } }))).flushClaim)
    let silent (l : SlotLog) : Dose :=
      s.dose.takeReport s.cfg.deviationThreshold s.cfg.anodeVoltageLimit
        ⟨l.slot, l.serial, l.duration, none, l.accepted.getD ⟨.rest, 0⟩, l.cls, l.trip⟩
    (∀ w, s.bridge.take = some w →
      (s.at t < w.due → exec (.takeWindowExpiry t df) s = .next { s with now := s.at t })
        ∧ (w.due ≤ s.at t →
          missed { s with now := s.at t, bridge := { s.bridge with take := some ⟨s.at t + 500, false⟩ } } id
            (exec (.takeWindowExpiry t df) s)))
      ∧ (∀ e due, s.bridge.expect = some e → e.window = some due →
        (s.at t < due → exec (.readingWindowExpiry t df) s = .next { s with now := s.at t })
          ∧ (due ≤ s.at t →
            let counted := (silent e.log).span.map Span.serial
            missed
              { s with now := s.at t, bridge := { s.bridge with expect := some ⟨e.log, none, counted⟩ }, dose := silent e.log } id
              (exec (.readingWindowExpiry t df) s)))
      ∧ ∀ l, s.bridge.sending = some (.mark l) →
        let ended : Bridge := { s.bridge with sending := none, blroom := false, take := some ⟨s.at t + 500, true⟩, expect := none }
        let expects (u : State) : State := { u with bridge := { u.bridge with expect := some ⟨l, some (s.at t + 2000), none⟩ } }
        ((∀ e, s.bridge.expect = some e → e.window = none) →
          exec (.markSent t df) s = .next (expects { s with now := s.at t, bridge := ended }))
          ∧ ∀ e due, s.bridge.expect = some e → e.window = some due →
            missed { s with now := s.at t, bridge := ended, dose := silent e.log } expects (exec (.markSent t df) s))
    ∧ ∀ (s : State) (log : Option SlotLog) (df : Bool),
      let b := s.boundary
      let report (r : SlotReport) : Dose := s.dose.takeReport s.cfg.deviationThreshold s.cfg.anodeVoltageLimit r
      let offReport : SlotReport :=
        ⟨b.ended, b.endedSerial, b.duration, none, (log.bind SlotLog.accepted).getD ⟨.rest, 0⟩, .off, (log.map SlotLog.trip).getD false⟩
      (s.bridge.state = .off ∨ log = none → s.endSlotLog log df = { s with dose := report offReport })
        ∧ ∀ l, log = some l →
          let mark := LaneMsg.mark { l with slot := b.ended, serial := b.endedSerial, duration := b.duration }
          (l.fromOff = true → s.endSlotLog log df = { s with dose := report offReport })
            ∧ (s.bridge.state ≠ .off → l.fromOff = false →
              ((∀ m ∈ s.bridge.buffer, m.isMark = false) →
                s.endSlotLog log df = { s with bridge := { s.bridge with buffer := s.bridge.buffer ++ [mark] } })
                ∧ ∀ pre old post, s.bridge.buffer = pre ++ .mark old :: post → (∀ m ∈ pre ++ post, m.isMark = false) →
                  let replaced : State :=
                    { s with
                      bridge := { s.bridge with buffer := pre ++ post ++ [mark] }
                      dose := report ⟨old.slot, old.serial, old.duration, none, old.accepted.getD ⟨.rest, 0⟩, old.cls, old.trip⟩ }
                  s.endSlotLog log df =
                    if s.bridge.missCount = 1 then
                      State.trip .silent df { replaced with bridge := { replaced.bridge with missCount := 0 } }
                    else { replaced with bridge := { replaced.bridge with missCount := 1 } })

/-- The confirm timer runs out into a deadline; an ACK outside OFF sets the acknowledged direction, completes the change whose
target it names, settles the REST awaited in TRIPPED, each with slow seen where it comes late, and trips with WRONG DIRECTION where it names
another direction than the bridge drives or awaits; in OFF an ACK OFF alone is heeded. Model's choices in it: logs 1, 2, 5, 6, 11, 23, 28,
31. -/
def Obligations.AcknowledgementsCompleteAChange : Prop :=
  ∀ (s : State) (t : Instant) (message : LinkWord) (df : Bool), s.running → s.claimsFlushed →
    (∀ due, s.bridge.awaited = some (.running due) →
      exec (.confirmTimerExpiry t) s = .next
        { s with
          now := s.at t, bridge := { s.bridge with awaited := if due ≤ s.at t then some .runOut else s.bridge.awaited } })
      ∧ ((∀ due, s.bridge.awaited ≠ some (.running due)) →
        exec (.confirmTimerExpiry t) s = .next { s with now := s.at t })
      ∧ ((∀ a, readReturn message ≠ some (.ack a)) → exec (.ackReceived message df) s = .next s)
      ∧ ∀ a, readReturn message = some (.ack a) →
        let names (d : Dir) := (a = .rest ∧ d = .rest) ∨ (a = .fwd ∧ d = .fwd) ∨ (a = .rev ∧ d = .rev)
        let acked : State := { s with bridge := { s.bridge with acked := a } }
        let wrong : State := (acked.trip .wrongDirection df).flushClaim
        (s.bridge.state = .off → exec (.ackReceived message df) s = .next (if a = .off then acked else s))
          ∧ (s.bridge.state = .tripped → exec (.ackReceived message df) s = .next
            { acked with
              bridge :=
                { acked.bridge with
                  awaited := if a = .rest then none else s.bridge.awaited
                  slowSeen := s.bridge.slowSeen || decide (a = .rest ∧ s.bridge.awaited = some .runOut) } })
          ∧ (s.bridge.state = .rest → exec (.ackReceived message df) s = .next (if a = .rest then acked else wrong))
          ∧ (s.bridge.state = .forward → exec (.ackReceived message df) s = .next (if a = .fwd then acked else wrong))
          ∧ (s.bridge.state = .reverse → exec (.ackReceived message df) s = .next (if a = .rev then acked else wrong))
          ∧ (s.bridge.state = .changing →
            (¬names s.bridge.target → exec (.ackReceived message df) s = .next wrong)
              ∧ (names s.bridge.target →
                let done : Bridge :=
                  { s.bridge with
                    acked := a, awaited := none, held := none
                    state := match s.bridge.target with | .rest => .rest | .fwd => .forward | .rev => .reverse
                    slowSeen := s.bridge.slowSeen || decide (s.bridge.awaited = some .runOut) }
                (s.bridge.held = none → exec (.ackReceived message df) s = .next { s with bridge := done })
                  ∧ ∀ sp, s.bridge.held = some sp → exec (.ackReceived message df) s = .next
                    { s with
                      bridge :=
                        if s.bridge.lastSent = .setpoint sp ∧ s.bridge.buffer.any LaneMsg.isSetpoint = false then done
                        else done.placeSetpoint sp }))

/-- A READING of the awaited slot is handed on, in place of the report with no reading where its window has run out, and
judged: it trips with OVERCURRENT above its rating, or above both the reference current with its margin and 2 % of the rating,
and otherwise with WRONG DIRECTION against the slot's class above the floor. Any other reading is discarded, and in OFF every
one. Model's choices in it: logs 5, 11, 23, 29, 30, 35, 36. -/
def Obligations.ReadingsAreJudgedAndHandedOn : Prop :=
  ∀ (s : State) (message : LinkWord) (df : Bool) (current : Int) (voltage slot : Nat), s.running → s.claimsFlushed →
    readReturn message = some (.reading current voltage slot) →
    (s.bridge.state = .off ∨ (∀ e, s.bridge.expect = some e → e.log.slot % 4 ≠ slot) →
      exec (.readingReceived message df) s = .next s)
      ∧ ∀ e, s.bridge.state ≠ .off → s.bridge.expect = some e → e.log.slot % 4 = slot →
        let report : SlotReport :=
          ⟨e.log.slot, e.log.serial, e.log.duration, some ⟨current, voltage⟩, e.log.accepted.getD ⟨.rest, 0⟩, e.log.cls, e.log.trip⟩
        let taken : State :=
          if e.window.isSome then
            { s with
              bridge := { s.bridge with expect := none, missCount := 0 }
              dose := s.dose.takeReport s.cfg.deviationThreshold s.cfg.anodeVoltageLimit report }
          else
            { s with
              bridge := { s.bridge with expect := none }, dose := s.dose.replaceReport e.counted s.cfg.anodeVoltageLimit report }
        let rating := if current < 0 then 10 * s.cfg.reverseRating else 10 * s.cfg.forwardRating
        let floor := rating * 2 / 100
        let exceeds := current ≠ 0 ∧ (rating < current.natAbs
          ∨ max (e.log.reference * (100 + s.cfg.overcurrentMargin) / 100) floor < current.natAbs)
        let wrong := floor < current.natAbs ∧ ((e.log.cls = .fwd ∧ current < 0) ∨ (e.log.cls = .rev ∧ 0 < current))
        (exceeds → exec (.readingReceived message df) s = .next (taken.trip .overcurrent df).flushClaim)
          ∧ (¬exceeds → wrong → exec (.readingReceived message df) s = .next (taken.trip .wrongDirection df).flushClaim)
          ∧ (¬exceeds → ¬wrong → exec (.readingReceived message df) s = .next taken)

/-- A FAULT taken outside OFF, whatever the bridge state and whatever is awaited, is a trip with its cause; in OFF it is
discarded. Model's choices in it: logs 5, 11. -/
def Obligations.FaultMessageIsATrip : Prop :=
  ∀ (s : State) (message : LinkWord) (df : Bool) (cause : Cause), s.running → readReturn message = some (.fault cause) →
    (cause = .overtemp ∨ cause = .drive ∨ cause = .supply)
      ∧ (s.bridge.state ≠ .off → exec (.faultReceived message df) s = .next (s.trip cause df).flushClaim)
      ∧ (s.bridge.state = .off → s.claimsFlushed → exec (.faultReceived message df) s = .next s)

/-- What a trip does. The first: REST placed, TRIPPED with its rest at 0, the acknowledgement awaited, the trip in the slot log and in every
open record, and the engine at REST for the carrier it had. The second, or one in TRIPPED: the bridge is OFF with an OFF on the lane, every
open record is UNPLATED, and a station on the bus enters LOCKOUT with no claim, an engine OFF and FAULTN asserted. Each raises TRIP with its
cause, before the integrator, the engine and the escalation take it. Model's choices in it: logs 5, 27, 28, 41, 50. -/
def Obligations.TripRestsTheBridgeAndTheSecondLocksOut : Prop :=
  ∀ (s : State) (cause : Cause) (df : Bool), s.bridge.state ≠ .off →
    let u := s.trip cause df
    let tripped : Bridge :=
      if s.bridge.state = .tripped then s.bridge
      else
        { s.bridge with
          state := .tripped, target := .rest, held := none, restCount := 0
          buffer := (s.bridge.placeSetpoint ⟨.rest, 0⟩).buffer
          awaited :=
            if s.bridge.acked = .fwd ∨ s.bridge.acked = .rev ∨ s.bridge.state = .changing then some .notStarted
            else if s.bridge.acked = .rest then none else s.bridge.awaited }
    let raised : State := State.raise .trip cause
      { s with
        bridge :=
          { tripped with
            tripCount := min 2 (s.bridge.tripCount + 1), tripWindow := 0
            log := some { s.bridge.log.getD SlotLog.first with trip := true } } }
    let marked : State :=
      { raised with dose := { s.dose with records := s.dose.records.map fun r => { r with flags := r.flags ||| 0x100#16 } } }
    (u = if s.bridge.tripCount = 0 then marked.engineTrip else marked.engineTrip.escalate df)
    ∧ (s.bridge.state ≠ .tripped → s.bridge.tripCount = 0 → s.engine.tripRest = false →
      u.bridge =
          { s.bridge with
            state := .tripped, target := .rest, held := none, restCount := 0, tripCount := 1, tripWindow := 0
            buffer := (s.bridge.placeSetpoint ⟨.rest, 0⟩).buffer
            awaited :=
              if s.bridge.acked = .fwd ∨ s.bridge.acked = .rev ∨ s.bridge.state = .changing then some .notStarted
              else if s.bridge.acked = .rest then none else s.bridge.awaited
            log := some { s.bridge.log.getD SlotLog.first with trip := true } }
        ∧ u.dose = { s.dose with records := s.dose.records.map fun r => { r with flags := r.flags ||| 0x100#16 } }
        ∧ u.engine.tripRest = true ∧ u.engine.preTrip = s.engine.active.carrier ∧ u.engine.setpoint = ⟨.rest, 0⟩
        ∧ u.engine.active.mode = .rest ∧ u.engine.active.carrier = s.engine.active.carrier
        ∧ u.station = s.station ∧ u.clock = s.clock ∧ u.tracker = s.tracker ∧ u.pending = s.pending)
      ∧ (1 ≤ s.bridge.tripCount →
        u.bridge.state = .off ∧ u.bridge.held = none ∧ u.bridge.awaited = none ∧ u.bridge.tripCount = 2
          ∧ u.bridge.restCount = 0 ∧ u.bridge.missCount = 0
          ∧ .off ∈ u.bridge.buffer ∧ (∀ r ∈ u.dose.records, r.has .tripped = true ∧ r.has .unplated = true)
          ∧ ((s.station.state = .listening ∨ s.station.state = .joined) →
            u.station = { s.station with state := .lockout, joinCount := none } ∧ u.mon.isDeclared .lockout = true
              ∧ u.mon.told = .lockout ∧ u.mon.faultn = true ∧ u.map.active = none ∧ u.map.pending = none
              ∧ u.map.request = none ∧ u.engine.active.mode = .off ∧ u.engine.prepared = none ∧ u.engine.tripRest = false)
          ∧ (s.station.state = .isolated → u.station = s.station ∧ u.mon.isDeclared .lockout = true)
          ∧ u.clock = s.clock ∧ u.tracker = s.tracker ∧ u.pending = s.pending)

/-- The bridge link's boundary: the deadline with an acknowledgement still awaited is a first trip; the 64th slot boundary of a
trip rest ends it; the sixteenth frame boundary of the trip window takes the trip count back to 0, and slow seen is cleared
with its verdict. Model's choices in it: logs 3, 4, 5, 34, 48. -/
def Obligations.DeadlineRestEndAndTripWindow : Prop :=
  ∀ (s : State) (df : Bool), s.running → s.claimsFlushed →
    (.bridgeSlot ∈ s.boundary.owed → .tracker ∉ s.boundary.owed → (∀ m ∈ s.bridge.buffer, ∀ l, m ≠ .mark l) →
      (s.bridge.state = .changing → s.bridge.awaited = some .runOut → s.bridge.tripCount = 0 → s.engine.tripRest = false →
        Completes (exec (.confirmDeadline df) s) fun u =>
          u.bridge.state = .tripped ∧ u.bridge.tripCount = 1 ∧ u.bridge.tripWindow = 0 ∧ u.bridge.restCount = 0
            ∧ u.bridge.held = none ∧ u.bridge.target = .rest ∧ u.bridge.awaited = some .notStarted
            ∧ u.engine.tripRest = true ∧ u.engine.setpoint = ⟨.rest, 0⟩
            ∧ (∀ r ∈ u.dose.records, r.has .tripped = true)
            ∧ u.pending = s.pending ∧ u.clock = s.clock ∧ u.tracker = s.tracker ∧ u.station = s.station)
        ∧ (s.bridge.state = .tripped → s.bridge.restCount = 63 → s.bridge.awaited ≠ some .runOut → s.engine.tripRest = true →
          Completes (exec (.tripRestEnd df) s) fun u =>
            u.bridge.state = .rest ∧ u.bridge.restCount = 64 ∧ u.bridge.tripCount = s.bridge.tripCount
              ∧ u.engine.tripRest = false ∧ u.engine.committedInRest = false
              ∧ u.pending = s.pending ∧ u.clock = s.clock ∧ u.tracker = s.tracker ∧ u.station = s.station))
      ∧ (.bridgeFrame ∈ s.boundary.owed → s.bridge.tripCount = 1 → s.bridge.tripWindow = 15 →
        let left : State :=
          { s with
            bridge := { s.bridge with tripCount := 0, tripWindow := 16 }
            boundary := { s.boundary with owed := s.boundary.owed.filter fun x => x != .bridgeFrame } }
        let judged := left.verdict .bridgeSlow s.bridge.slowSeen .frames
        exec .tripWindowExpiry s = .next { judged with bridge := { left.bridge with slowSeen := false } })

/-! ### The station (R167 to R169) -/

/-- The verdict at the second frame boundary of SELF-TEST: passed, the station listens on the bus, the bridge link is asked to
leave OFF and FAULTN follows REFERENCE LOST alone; failed, it is isolated with the bridge OFF. The ninth frame boundary of the
join count enters JOINED with the numbering aligned. Model's choices in it: logs 1, 3, 4. -/
def Obligations.SelfTestVerdictAndJoinCount : Prop :=
  ∀ (s : State) (t : Instant), s.running → s.claimsFlushed → .station ∈ s.boundary.owed →
    (s.station.state = .selfTest → s.station.selfFrames = 1 → s.bridge.state = .off →
      (s.station.selfNext = 4 → s.station.selfFault = false → s.bridge.buffer = [] →
        Completes (exec (.selfTestVerdict t) s) fun u =>
          u.station = { s.station with
              state := .listening, selfFrames := 2, joinCount := if s.station.refLocked then some 0 else none }
            ∧ u.bus.loop = false ∧ u.bus.rx = .hunting ∧ u.clock = { s.clock with aligned := false, tracker := [] }
            ∧ u.map.live = true ∧ u.bridge = { s.bridge with leaving := .placed, buffer := [.setpoint ⟨.rest, 0⟩] }
            ∧ u.engine.active.mode ≠ .off ∧ u.mon.told = .listening ∧ u.mon.listeningReached = true
            ∧ u.mon.faultn = u.mon.isDeclared .referenceLost ∧ u.now = s.at t ∧ u.pending = s.pending ∧ u.tracker = s.tracker
            ∧ u.dose = s.dose)
        ∧ (s.station.selfNext ≠ 4 ∨ s.station.selfFault = true →
          Completes (exec (.selfTestVerdict t) s) fun u =>
            u.station = { s.station with state := .isolated, selfFrames := 2, joinCount := none }
              ∧ u.bus.loop = false ∧ u.bus.rx = .hunting ∧ u.bridge = s.bridge ∧ u.map.active = none ∧ u.map.pending = none
              ∧ u.mon.told = .isolated ∧ u.mon.faultn = true ∧ u.clock = s.clock ∧ u.now = s.at t ∧ u.pending = s.pending
              ∧ u.tracker = s.tracker ∧ u.dose = s.dose))
      ∧ (s.station.state = .listening → s.station.joinCount = some 8 → Completes (exec .joinCountExpiry s) fun u =>
        u.station = { s.station with state := .joined, joinCount := none } ∧ u.clock = { s.clock with aligned := true }
          ∧ u.mon.told = .joined ∧ u.bridge = s.bridge ∧ u.tracker = s.tracker ∧ u.dose = s.dose ∧ u.pending = s.pending)

/-! ### Setpoints and dose (R91 to R94, R126 to R139) -/

/-- The setpoint of a slot: d × A / 1000 forward, clamped to the forward rating; d × A × s / 8000 reverse, clamped to ten times
the ceiling of the covering run and to the reverse rating, and only in NORMAL in a slot that the own active part covers; a
current of 0, and every other slot, is REST. The slot record carries it, with the mode and the key of the context. At the
hand-over of dominant carrier D and forecast F: a PREPARED context for another carrier than F is gone; one that is ready for D
becomes ACTIVE; without one the ACTIVE context is rebuilt for a D that is new, or that finds its carrier gone, with LATE where
it then runs FORWARD-ONLY while JOINED; a D that governs already leaves it, unless its key has changed; with no D it is REST; a
context is prepared for an F that does not govern; and the request is settled. A carrier that has departed is plated under the
key it left with. In OFF D alone is recorded, and in a trip rest the ACTIVE context stays. Setpoints are allowed in LISTENING,
JOINED and ISOLATED, and the segment in force is the one whose positions contain the cycle position. Model's choices in it:
logs 21, 22, 33, 47, 71. Model's choices in it: logs 21, 22, 33, 47. -/
def Obligations.EngineFollowsTheCarrierAndFormsSetpoints : Prop :=
  (∀ st : StationState, st.setpoints = true ↔ st = .listening ∨ st = .joined ∨ st = .isolated)
    ∧ (∀ (pre : List Segment) (g : Segment) (post : List Segment) (pos : Nat), (pre.map Segment.len).sum ≤ pos →
      (pos < (pre.map Segment.len).sum + g.len → segmentAt 0 (pre ++ g :: post) pos = some g)
        ∧ segmentAt 0 pre pos = none)
    ∧   (∀ s : State, s.station.state.setpoints = true → s.engine.restThisSlot = false →
    let c := s.engine.active
    let slot := s.boundary.begun
    let pos := (slot + c.cycle - c.offset) % c.cycle
    let area := s.engine.area
    let sp := s.engineSlot.engine.setpoint
    let driven (d : Dir) (n : Nat) : Setpoint := if n = 0 then ⟨.rest, 0⟩ else ⟨d, n⟩
    let covered := ∃ part, s.map.active = some part ∧ part.covers slot = true
    (segmentAt 0 c.segments pos = none → sp = ⟨.rest, 0⟩)
      ∧ (∀ g, segmentAt 0 c.segments pos = some g →
        (g.kind = .rest → sp = ⟨.rest, 0⟩)
          ∧ (g.kind = .forward → sp = driven .fwd (min (g.density * area / 1000) (10 * s.cfg.forwardRating)))
          ∧ (g.kind = .reverse → ¬(c.mode = .normal ∧ covered) → sp = ⟨.rest, 0⟩)
          ∧ (g.kind = .reverse → c.mode = .normal → covered → ∀ (p : Pattern) (i : Nat) (r : Run) (k : Nat),
            c.pattern = some p → p.runs[i]? = some r →
            c.ceilings[i]? = some k → r.covers c.cycle pos = true →
            (∀ (j : Nat) (x : Run), j < i → p.runs[j]? = some x → x.covers c.cycle pos = false) →
            sp = driven .rev (min (g.density * area * c.scale / 8000) (min (10 * k) (10 * s.cfg.reverseRating)))))
      ∧ (sp.dir = .rev → covered ∧ sp.current ≤ 10 * s.cfg.reverseRating)
      ∧ ∃ r, s.engineSlot.dose.slotRecords.getLast? = some r ∧ r.slot = slot ∧ r.setpoint = sp ∧ r.mode = c.mode ∧ r.key = c.key
        ∧ r.cycle = c.cycle)
    ∧ (∀ s : State,
      let c := s.engine.active
      (s.station.state.setpoints = false → s.settled = (.none, none))
        ∧ (s.station.state.setpoints = true →
          (c.mode = .forwardOnly → c.pattern ≠ none → s.settled = (.active, c.pattern))
            ∧ (¬(c.mode = .forwardOnly ∧ c.pattern ≠ none) →
              (s.engine.prepared = none → s.settled = (.none, none))
                ∧ ∀ x, s.engine.prepared = some x →
                  s.settled = if x.ready = false ∨ x.readyByFailure = true then (.prepared, x.pattern) else (.none, none))))
    ∧ ∀ (s : State) (d f : Option Nat), (∀ c, s.engine.prepared = some c → c.carrier ≠ none) →
      let u := s.handOver d f
      let c := s.engine.active
      let readyForD := ∃ x, s.engine.prepared = some x ∧ x.carrier = f ∧ x.ready = true ∧ x.carrier = d
      let stands (tag : Nat) (e : Entry) := s.entry? tag = some e
        ∨ (s.entry? tag = none ∧ s.tracker.departed.find? (fun x => x.tag == tag) = some e)
      let gone (a : Option Nat) := ∀ tag, a = some tag → s.entry? tag = none
      let rebuilds := d ≠ c.carrier ∧ (d ≠ s.engine.lastDominant ∨ gone c.carrier)
      u.engine.lastDominant = d
        ∧ u.tracker = s.tracker ∧ u.station = s.station ∧ u.clock = s.clock ∧ u.bridge = s.bridge ∧ u.pending = s.pending
        ∧ (c.mode = .off → u = { s with engine := { s.engine with lastDominant := d } })
        ∧ (c.mode ≠ .off → s.station.state.setpoints = true →
          (u.engine.owner, u.engine.requested) = u.settled
            ∧ (∀ x, u.engine.prepared = some x → x.carrier = f)
            ∧ (f ≠ none → f ≠ u.engine.active.carrier → ∃ x, u.engine.prepared = some x)
            ∧ (s.engine.tripRest = true → c.mode = .rest → u.engine.active = c ∧ u.dose = s.dose))
        ∧ (c.mode ≠ .off → s.station.state.setpoints = true → s.engine.tripRest = false →
          (readyForD → ∀ x, s.engine.prepared = some x →
            u.engine.active.carrier = d ∧ u.engine.active.key = x.key ∧ u.engine.active.segments = x.segments
              ∧ u.engine.prepared = none ∧ u.dose = s.dose)
            ∧ (¬readyForD → rebuilds → ∀ tag, d = some tag →
              u.engine.active.carrier = d
                ∧ (u.engine.active.mode = .forwardOnly → s.station.state = .joined →
                  u.dose.records = s.dose.records.map fun r => if r.tag = tag then { r with flags := r.flags ||| 0x1000#16 } else r)
                ∧ (¬(u.engine.active.mode = .forwardOnly ∧ s.station.state = .joined) → u.dose = s.dose)
                ∧ (s.engine.prepared = none → ∀ e, stands tag e →
                  (e.recipePending = true ∨ e.record.recipe = none →
                    u.engine.active.mode = .holding ∧ u.engine.active.key = none
                      ∧ u.engine.active.segments = [⟨.forward, 64, s.cfg.holdingDensity⟩])
                    ∧ ∀ k r, e.recipePending = false → e.record.recipe = some k → s.cache.recipe? k = some r →
                      u.engine.active.key = some r.key ∧ u.engine.active.segments = r.segments
                        ∧ u.engine.active.cycle = r.cycle ∧ u.engine.active.pattern = r.pattern))
            ∧ (∀ tag e, d = some tag → d = c.carrier → ¬readyForD → stands tag e →
              (e.record.recipe = c.key → u.engine.active = c ∧ u.dose = s.dose)
                ∧ (e.record.recipe ≠ c.key →
                  u.engine.active.carrier = d ∧ u.dose = s.dose
                    ∧ ∀ k r, s.engine.prepared = none → e.recipePending = false →
                      e.record.recipe = some k → s.cache.recipe? k = some r → u.engine.active.key = some r.key))
            ∧ (d ≠ none → d ≠ c.carrier → ¬readyForD → ¬rebuilds → u.engine.active = c ∧ u.dose = s.dose)
            ∧ (d = none → c.mode ≠ .rest →
              u.engine.active.mode = .rest ∧ u.engine.active.carrier = none ∧ u.engine.active.key = none ∧ u.dose = s.dose))

/-- A slot's measured charge goes to the entries of that slot's snapshot that still have an open record: each its share by
in-zone area, rounded down, the oldest also the remainder; the shares and the remainder are the whole charge; with no entry or
no snapshot it is credited to none. A slot report adds its commanded and its measured charge to the frame's sums, sets anode
high for a forward slot above the voltage limit, opens, counts or drops the cycle span by the slot record it finds, and in OFF
sets UNPLATED; a cycle start first closes the span before it with its verdict, and the measured charge is divided among the
records; one that comes late adds the reading alone. Model's choices in it: logs 35, 36, 58. Model's choices in it: logs 35,
36. -/
def Obligations.ChargesAreCountedAndDivided : Prop :=
  (∀ (d : Dose) (slot serial : Nat) (forward : Bool) (charge : Nat),
    ((∀ x ∈ d.snapshots, x.slot ≠ slot) → d.apportion slot serial forward charge = d)
      ∧ ∀ snap, IsOfSlot Snapshot.slot Snapshot.serial slot serial d.snapshots snap →
        (snap.shares = [] → d.apportion slot serial forward charge = d)
          ∧ ∀ oldest rest, snap.shares = oldest :: rest → (snap.shares.map Share.tag).Nodup →
            let given := (snap.shares.map fun x => charge * x.area / snap.total).sum
            let share (x : Share) := charge * x.area / snap.total + (if x.tag = oldest.tag then charge - given else 0)
            let credited (r : OpenRecord) (n : Nat) : OpenRecord :=
              if forward then { r with forward := min (r.forward + n) 281474976710655 }
              else { r with reverse := min (r.reverse + n) 281474976710655 }
            ((∀ r ∈ d.records, r.forward ≤ 281474976710655 ∧ r.reverse ≤ 281474976710655) →
              d.apportion slot serial forward charge =
                { d with
                  records := d.records.map fun r =>
                    match snap.shares.find? fun x => x.tag == r.tag with
                    | some x => credited r (share x)
                    | none => r })
              ∧ (snap.total = (snap.shares.map Share.area).sum → (snap.shares.map share).sum = charge))
    ∧ (∀ (d : Dose) (threshold limit : Nat) (r : SlotReport),
      let u := d.takeReport threshold limit r
      let charge (dir : Dir) := if r.accepted.dir = dir then r.accepted.current * r.duration else 0
      let forward := match r.reading with | some m => if 0 ≤ m.current then m.current.natAbs * r.duration else 0 | none => 0
      let reverse := match r.reading with | some m => if m.current < 0 then m.current.natAbs * r.duration else 0 | none => 0
      let positive := match r.reading with | some m => decide (0 ≤ m.current) | none => true
      let high := ∃ m, r.reading = some m ∧ r.cls = .fwd ∧ limit ≠ 0 ∧ limit < m.voltage
      let found (x : SlotRecord) := IsOfSlot SlotRecord.slot SlotRecord.serial r.slot r.serial d.slotRecords x
      u.cmdF = d.cmdF + charge .fwd ∧ u.cmdR = d.cmdR + charge .rev ∧ u.measF = d.measF + forward ∧ u.measR = d.measR + reverse
        ∧ (u.anodeHigh = true ↔ d.anodeHigh = true ∨ high)
        ∧ u.snapshots = d.snapshots ∧ u.slotRecords = d.slotRecords ∧ u.records.map OpenRecord.tag = d.records.map OpenRecord.tag
        ∧ (∀ x, found x → x.cycleStart = true →
          ((x.mode = .normal ∨ x.mode = .forwardOnly) →
            u.span = some ⟨d.spanSerial, x.key, x.cycle, x.tolerance, 1, charge .fwd, forward, false⟩)
            ∧ (¬(x.mode = .normal ∨ x.mode = .forwardOnly) → u.span = none))
        ∧ (∀ x, found x → x.cycleStart = false → (d.span = none → u.span = none) ∧ ∀ p, d.span = some p →
          u.span = some
            { p with
              count := p.count + 1, commanded := p.commanded + charge .fwd, measured := p.measured + forward
              spoiled := p.spoiled || !decide ((x.mode = .normal ∨ x.mode = .forwardOnly) ∧ x.key = p.key) })
        ∧ ((∀ x ∈ d.slotRecords, x.slot ≠ r.slot) → u.span = d.span.map fun p =>
          { p with
            count := p.count + 1, commanded := p.commanded + charge .fwd, measured := p.measured + forward, spoiled := true })
        ∧ (let divides (judged : Dose) :=
            let shared := (judged.apportion r.slot r.serial positive (forward + reverse)).records
            (r.cls ≠ .off → u.records = shared)
              ∧ (r.cls = .off →
                ((∀ x ∈ d.snapshots, x.slot ≠ r.slot) → u.records = shared)
                  ∧ ∀ snap, IsOfSlot Snapshot.slot Snapshot.serial r.slot r.serial d.snapshots snap →
                    u.records = shared.map fun o =>
                      if snap.shares.any fun x => x.tag == o.tag then { o with flags := o.flags ||| 0x80#16 } else o)
          (∀ x, found x → x.cycleStart = true → divides (d.closeSpan threshold))
            ∧ (((∀ x ∈ d.slotRecords, x.slot ≠ r.slot) ∨ ∃ x, found x ∧ x.cycleStart = false) → divides d)))
    ∧ ∀ (d : Dose) (counted : Option Nat) (limit : Nat) (r : SlotReport) (m : Measured), r.reading = some m →
      let charge := m.current.natAbs * r.duration
      let forward := decide (0 ≤ m.current)
      let added : Dose :=
        { d with
          measF := d.measF + (if forward then charge else 0), measR := d.measR + (if forward then 0 else charge)
          anodeHigh := d.anodeHigh || decide (r.cls = .fwd ∧ limit ≠ 0 ∧ limit < m.voltage)
          span := d.span.map fun p =>
            if some p.serial = counted then { p with measured := p.measured + (if forward then charge else 0) } else p }
      d.replaceReport counted limit r = added.apportion r.slot r.serial forward charge

/-- The verdict of a whole span that is not spoiled goes into the first place of every open record's history, of eight, with the deviation
count and DEVIATION; any other span is dropped. A record closes with its charges in mA·s, its history and UNDERDOSE where its target is
missed by more than the tolerance. A slot record is stored, the two youngest kept, and marks every open record by its mode, its segment, its
scale and its clamp, with MIXED where the PRESENT entries name more than one recipe value and ANODE while ANODE VOLTAGE is declared. At a
frame boundary the integrator hands its three verdicts, clears the frame's sums and raises frames in zone, and the bus controller hands BUS
ERRORS from the first LISTENING on and empties the fault set. Model's choices in it: log 19. -/
def Obligations.VerdictsAndCloses : Prop :=
  (∀ (d : Dose) (p : Span) (threshold : Nat), d.span = some p →
    let out := decide (p.commanded * p.tolerance < (((p.measured : Int) - (p.commanded : Int)).natAbs) * 100)
    (p.spoiled = false ∧ p.count = p.cycle →
      d.closeSpan threshold =
        { d with
          span := none
          records := d.records.map fun r =>
            let history := (out :: r.history).take 8
            { r with
              history := history, deviations := if out then min 255 (r.deviations + 1) else r.deviations
              flags := if threshold ≤ history.count true then r.flags ||| 0x400#16 else r.flags } })
      ∧ (p.spoiled = true ∨ p.count ≠ p.cycle → d.closeSpan threshold = { d with span := none }))
    ∧ (∀ (r : OpenRecord) (zone station tolerance : Nat),
      let milli (n : Nat) := min (n / 10000) 4294967295
      let closed := r.close zone station tolerance
      closed.zone = zone ∧ closed.station = station ∧ closed.forward = milli r.forward ∧ closed.reverse = milli r.reverse
        ∧ closed.target = r.target ∧ closed.minScale = r.minScale ∧ closed.frames = r.frames ∧ closed.deviations = r.deviations
        ∧ closed.fill = r.history.length
        ∧ (∀ i, i < 8 → closed.history.getLsbD (7 - i) = r.history.getD i false)
        ∧ closed.flags =
          if 0 < r.target ∧ milli r.forward * 100 < r.target * (100 - tolerance) then r.flags ||| 0x200#16 else r.flags)
    ∧ (∀ (s : State) (r : SlotRecord),
      let asRest := r.segment = some .reverse ∧ r.runAsRest = true
      let mixed := ∃ x ∈ s.tracker.table, ∃ y ∈ s.tracker.table,
        x.present = true ∧ y.present = true ∧ x.record.recipe ≠ y.record.recipe
      let u := s.takeSlotRecord r
      u.dose.slotRecords = (s.dose.slotRecords ++ [r]).drop (s.dose.slotRecords.length - 1)
        ∧ u.dose.records.length = s.dose.records.length
        ∧ ∀ (i : Nat) (o o' : OpenRecord), s.dose.records[i]? = some o → u.dose.records[i]? = some o' →
          o' = { o with minScale := o'.minScale, recipeUsed := o'.recipeUsed, flags := o'.flags }
            ∧ o'.recipeUsed = (if r.key = none then o.recipeUsed else r.key)
            ∧ (asRest → o'.minScale = 0)
            ∧ (r.segment = some .reverse → r.runAsRest = false → r.mode = .normal → o'.minScale = min o.minScale r.scale)
            ∧ (r.segment ≠ some .reverse → o'.minScale = o.minScale)
            ∧ (o'.has .held = true ↔ o.has .held = true ∨ r.mode = .holding)
            ∧ (o'.has .forwardOnly = true ↔ o.has .forwardOnly = true ∨ asRest)
            ∧ (o'.has .reduced = true ↔ o.has .reduced = true ∨ (r.mode = .normal ∧ 2 ≤ r.scale ∧ r.scale ≤ 7))
            ∧ (o'.has .clamped = true ↔ o.has .clamped = true ∨ r.clamped = true)
            ∧ (o'.has .mixed = true ↔ o.has .mixed = true ∨ mixed)
            ∧ (o'.has .anode = true ↔ o.has .anode = true ∨ s.mon.isDeclared .anodeVoltage = true)
            ∧ ∀ flag ∈ [ZoneFlag.late, .deviation, .underdose, .tripped, .unplated, .trackError, .unidentified, .lateIdentity,
                .forcedDeparture, .slotLost], o'.has flag = o.has flag)
    ∧ (∀ s : State,
      let bad := decide (s.dose.cmdR ≠ 0 ∧ s.dose.measR * 100 < s.dose.cmdR * 85)
      let out := ∃ tag pre r post, s.tracker.dominant = some tag ∧ s.dose.records = pre ++ r :: post ∧ r.tag = tag
        ∧ (∀ x ∈ pre, x.tag ≠ tag) ∧ s.cfg.deviationThreshold ≤ r.history.count true
      let judged (deviates : Bool) : State :=
        ((s.verdict .reverseDeficit bad .frames).verdict .anodeVoltage s.dose.anodeHigh .frames).followDeviation deviates
      let cleared : Dose :=
        { s.dose with
          measF := 0, measR := 0, cmdF := 0, cmdR := 0, anodeHigh := false
          records := s.dose.records.map fun r => { r with frames := min (r.frames + 1) 65535 } }
      (out → s.doseFrame = { judged true with dose := cleared }) ∧ (¬out → s.doseFrame = { judged false with dose := cleared }))
    ∧ ∀ s : State,
      let f := s.bus.faults
      let cause : Cause := if f.collisions then .collisions else if f.overrun then .overrun else if f.timeout then .timeout else .check
      let judged : State :=
        if s.mon.listeningReached then s.verdict .busErrors (f.check || f.timeout || f.overrun || f.collisions) cause else s
      s.busFrame = { judged with bus := { judged.bus with faults := ⟨false, false, false, false⟩ } }

/-- A verdict for a counted condition, by its state and the configured D and C; DOSE DEVIATION follows the handed state; and a placed report
stands alone for its kind, with the superseded count of the one it replaces raised to at most 15. On a submission occasion, while the
station state last told allows it, the report of highest priority goes out to ALL with the station as it stands then, and on acceptance the
next; a refusal leaves the set as it is. A raised event places a report, and a report placed is a submission occasion. -/
def Obligations.VerdictsDeclareAndReportsAreKept : Prop :=
  (∀ (s : State) (k : CountedKind) (bad : Bool) (cause : Cause),
    let runs := s.mon.runs k
    let limits := runLimits s.cfg k
    let counts (n g : Nat) : State := { s with mon := s.mon.setRuns k ⟨n, g⟩ }
    let bit := BitVec.twoPow 16 (k.kind.priority - 1)
    let flips (declared : BitVec 16) (change : Change) (c : Cause) : State :=
      State.place k.kind change c { s with mon := { s.mon.setRuns k ⟨0, 0⟩ with declared := declared } }
    s.verdict k bad cause =
      if s.mon.isDeclared k.kind then
        if bad then counts runs.bad 0
        else if runs.good + 1 = limits.clearAt then flips (s.mon.declared &&& ~~~bit) .cleared .frames
        else counts runs.bad (runs.good + 1)
      else if bad then
        if runs.bad + 1 = limits.declareAt then flips (s.mon.declared ||| bit) .declared cause
        else counts (runs.bad + 1) runs.good
      else counts 0 runs.good)
    ∧ (∀ (s : State) (out : Bool),
      (out = s.mon.isDeclared .doseDeviation → s.followDeviation out = s)
        ∧ (out ≠ s.mon.isDeclared .doseDeviation → (s.followDeviation out).mon.isDeclared .doseDeviation = out))
    ∧ (∀ (s : State) (kind : Kind) (cause : Cause), s.raise kind cause = s.place kind .event cause
      ∧ ∀ change, s.place kind change cause =
        State.offer { s with mon := { s.mon with reports := placeIn ⟨kind, change, cause, 0⟩ s.mon.reports } })
    ∧ (∀ (rs : List Report) (kind : Kind) (change : Change) (cause : Cause), reportsInOrder rs →
      reportsInOrder (placeIn ⟨kind, change, cause, 0⟩ rs)
        ∧ (∀ x ∈ placeIn ⟨kind, change, cause, 0⟩ rs, x.kind = kind → x.change = change ∧ x.cause = cause
          ∧ x.superseded = match rs.find? fun y => y.kind == kind with | some y => min 15 (y.superseded + 1) | none => 0)
        ∧ (∃ x ∈ placeIn ⟨kind, change, cause, 0⟩ rs, x.kind = kind)
        ∧ ∀ x, x.kind ≠ kind → (x ∈ placeIn ⟨kind, change, cause, 0⟩ rs ↔ x ∈ rs))
    ∧ ∀ s : State,
      let allowed := s.mon.told = .listening ∨ s.mon.told = .joined ∨ s.mon.told = .lockout
      let claim : ClaimState :=
        if s.map.active.isNone ∧ s.map.pending.isNone then .idle else if s.map.active.isNone then .proposed
        else if s.map.pending.isNone then .settled else .moving
      let dominantId := ((s.tracker.dominant.bind fun tag => s.tracker.table.find? fun e => e.tag == tag).map
        fun e => e.record.carrierId).getD 0
      (¬allowed ∨ s.mon.reports = [] → s.offer = s)
        ∧ ∀ r rest, allowed → s.mon.reports = r :: rest →
          let sent := s.bus.submit s.station.state (.condition ⟨r, s.mon.declared, s.mon.told, claim, dominantId⟩) .all
          (sent.2 = true → s.offer = State.offer { s with bus := sent.1, mon := { s.mon with reports := rest } })
            ∧ (sent.2 = false → s.offer = s)

/-! ### Every command -/

/-- Every command completes in a next state, and leaves the waiting commands and what its family does not reach as they were.
Model's choices in it: log 6. -/
def Obligations.EveryCommandCompletesWithinItsFrame : Prop :=
  ∀ (s : State) (t : Instant) (look : LineLook) (df : Bool) (x : Symbol) (b : Byte) (w : LinkWord),
    (∀ c, Completes (exec c s) fun u => u.pending = s.pending)
      ∧ (∀ c ∈ [Instr.receiveTimeout t, .txStart look, .txFrameSent t, .collision t, .backoffExpiry t, .startMarkReceived t,
          .dataSymbolReceived t b], Completes (exec c s) fun u =>
        u.clock = s.clock ∧ u.cache = s.cache ∧ u.tracker = s.tracker ∧ u.engine = s.engine ∧ u.bridge = s.bridge
          ∧ u.dose = s.dose ∧ u.boundary = s.boundary ∧ u.map.active = s.map.active ∧ u.map.peers = s.map.peers)
      ∧ (∀ c ∈ [Instr.frameEndReceived t df, .rxFrameAbandoned t x], Completes (exec c s) fun u => u.tracker = s.tracker)
      ∧ (∀ c ∈ [Instr.takeAdmit, .takeHandover, .takeCarrierQuery, .takeRecipe, .takeRecipeQuery], Completes (exec c s) fun u =>
        u.now = s.now ∧ u.station = s.station ∧ u.clock = s.clock ∧ u.bridge = s.bridge ∧ u.boundary = s.boundary)
      ∧ (∀ c ∈ [Instr.answerDue, .recipeQueryDue, .unavailableQueryDue], Completes (exec c s) fun u =>
        u.now = s.now ∧ u.station = s.station ∧ u.clock = s.clock ∧ u.tracker = s.tracker ∧ u.engine = s.engine
          ∧ u.bridge = s.bridge ∧ u.dose = s.dose ∧ u.map.active = s.map.active ∧ u.map.peers = s.map.peers)
      ∧ (∀ c ∈ [Instr.entryRising, .entryFalling, .exitRising, .exitFalling, .forwardCount, .backwardCount],
        Completes (exec c s) fun u =>
          u.now = s.now ∧ u.station = s.station ∧ u.clock = s.clock ∧ u.map = s.map ∧ u.engine = s.engine
            ∧ u.bridge = s.bridge ∧ u.boundary = s.boundary)
      ∧ (∀ c ∈ [Instr.peerRecordAgeOut, .unneededExpiry, .windowClose, .planningHoldExpiry, .refreshDue, .claimRetry],
        Completes (exec c s) fun u => u.now = s.now ∧ u.station = s.station ∧ u.clock = s.clock ∧ u.tracker = s.tracker)
      ∧ (∀ c ∈ [Instr.laneSend, .blroomRise, .setpointSent t, .offSent t, .confirmTimerExpiry t], Completes (exec c s) fun u =>
        { u with bridge := s.bridge, now := s.now } = s)
      ∧ (∀ c ∈ [Instr.markSent t df, .takeWindowExpiry t df, .readingWindowExpiry t df, .ackReceived w df, .readingReceived w df,
          .faultReceived w df], Completes (exec c s) fun u =>
        u.clock = s.clock ∧ u.tracker = s.tracker ∧ u.boundary = s.boundary)
      ∧ (∀ c ∈ [Instr.confirmDeadline df, .tripRestEnd df, .carrierQueryDue], Completes (exec c s) fun u =>
        u.now = s.now ∧ u.clock = s.clock)
      ∧ ∀ c ∈ [Instr.selfTestVerdict t, .joinCountExpiry, .tripWindowExpiry], Completes (exec c s) fun u =>
        u.tracker = s.tracker ∧ u.dose = s.dose

/-! ### What every step keeps -/

/-- The invariants hold at reset. Model's choices in it: logs 8, 9. -/
def Obligations.InvariantsHoldAtReset : Prop :=
  ClockInv State.reset ∧ ReverseInv State.reset ∧ BridgeInv State.reset ∧ BoundsInv State.reset

/-- The slot clock's counts stay in range, a clock in HOLDOVER has no last accepted edge, the slot length of a running clock
stays within its clamp and is nominal while UNLOCKED, and the disagreement tracker holds at most two peers for one offset.
Model's choices in it: logs 1, 7. -/
def Obligations.SlotClockStaysInRange : Prop :=
  ∀ s t : State, ClockInv s → step s = .next t → ClockInv t

/-- Outside JOINED the own pair is empty, and a reverse setpoint is in force only while the own active part stands. -/
def Obligations.ReverseCurrentOnlyUnderAClaim : Prop :=
  ∀ s t : State, ReverseInv s → step s = .next t → ReverseInv t

/-- No commanded current exceeds the rating of its direction, and the bridge is OFF, with nothing having asked it to leave OFF,
in LOADING, CONFIG FAULT, SELF-TEST and LOCKOUT. Model's choices in it: log 10. -/
def Obligations.BridgeIsOffAndWithinItsRatings : Prop :=
  ∀ s t : State, BridgeInv s → step s = .next t → BridgeInv t

/-- The transmit queue holds at most 8 frames and one CLAIM, the receive queue at most 8, the pending reports stand one for
each kind by priority, the carrier table holds at most 6 entries with the PRESENT ones first and the retained list at most 4,
and no CLAIM is left called for. Model's choices in it: logs 20, 23. -/
def Obligations.QueuesAndTablesStayInBounds : Prop :=
  ∀ s t : State, BoundsInv s → step s = .next t → BoundsInv t
end

