-- ==== Sys2Proof/Laws/State.lean ====
section
/-! SUPPORT. What each update of one block does to every field of the machine's state. -/

namespace Sys2Proof.Machine

open Sys2Proof

/-! ### setPending -/

@[simp] theorem State.setPending_pending (s : State) (x : List Instr) : (s.setPending x).pending = x := rfl
@[simp] theorem State.setPending_now (s : State) (x : List Instr) : (s.setPending x).now = s.now := rfl
@[simp] theorem State.setPending_station (s : State) (x : List Instr) : (s.setPending x).station = s.station := rfl
@[simp] theorem State.setPending_clock (s : State) (x : List Instr) : (s.setPending x).clock = s.clock := rfl
@[simp] theorem State.setPending_bus (s : State) (x : List Instr) : (s.setPending x).bus = s.bus := rfl
@[simp] theorem State.setPending_cache (s : State) (x : List Instr) : (s.setPending x).cache = s.cache := rfl
@[simp] theorem State.setPending_tracker (s : State) (x : List Instr) : (s.setPending x).tracker = s.tracker := rfl
@[simp] theorem State.setPending_map (s : State) (x : List Instr) : (s.setPending x).map = s.map := rfl
@[simp] theorem State.setPending_engine (s : State) (x : List Instr) : (s.setPending x).engine = s.engine := rfl
@[simp] theorem State.setPending_bridge (s : State) (x : List Instr) : (s.setPending x).bridge = s.bridge := rfl
@[simp] theorem State.setPending_dose (s : State) (x : List Instr) : (s.setPending x).dose = s.dose := rfl
@[simp] theorem State.setPending_mon (s : State) (x : List Instr) : (s.setPending x).mon = s.mon := rfl
@[simp] theorem State.setPending_boundary (s : State) (x : List Instr) : (s.setPending x).boundary = s.boundary := rfl
@[simp] theorem State.setPending_self (s : State) : s.setPending s.pending = s := rfl
@[simp] theorem State.setPending_setPending (s : State) (x y : List Instr) : (s.setPending x).setPending y = s.setPending y := rfl

/-! ### setNow -/

@[simp] theorem State.setNow_pending (s : State) (x : Instant) : (s.setNow x).pending = s.pending := rfl
@[simp] theorem State.setNow_now (s : State) (x : Instant) : (s.setNow x).now = x := rfl
@[simp] theorem State.setNow_station (s : State) (x : Instant) : (s.setNow x).station = s.station := rfl
@[simp] theorem State.setNow_clock (s : State) (x : Instant) : (s.setNow x).clock = s.clock := rfl
@[simp] theorem State.setNow_bus (s : State) (x : Instant) : (s.setNow x).bus = s.bus := rfl
@[simp] theorem State.setNow_cache (s : State) (x : Instant) : (s.setNow x).cache = s.cache := rfl
@[simp] theorem State.setNow_tracker (s : State) (x : Instant) : (s.setNow x).tracker = s.tracker := rfl
@[simp] theorem State.setNow_map (s : State) (x : Instant) : (s.setNow x).map = s.map := rfl
@[simp] theorem State.setNow_engine (s : State) (x : Instant) : (s.setNow x).engine = s.engine := rfl
@[simp] theorem State.setNow_bridge (s : State) (x : Instant) : (s.setNow x).bridge = s.bridge := rfl
@[simp] theorem State.setNow_dose (s : State) (x : Instant) : (s.setNow x).dose = s.dose := rfl
@[simp] theorem State.setNow_mon (s : State) (x : Instant) : (s.setNow x).mon = s.mon := rfl
@[simp] theorem State.setNow_boundary (s : State) (x : Instant) : (s.setNow x).boundary = s.boundary := rfl
@[simp] theorem State.setNow_self (s : State) : s.setNow s.now = s := rfl
@[simp] theorem State.setNow_setNow (s : State) (x y : Instant) : (s.setNow x).setNow y = s.setNow y := rfl

/-! ### setStation -/

@[simp] theorem State.setStation_pending (s : State) (x : Station) : (s.setStation x).pending = s.pending := rfl
@[simp] theorem State.setStation_now (s : State) (x : Station) : (s.setStation x).now = s.now := rfl
@[simp] theorem State.setStation_station (s : State) (x : Station) : (s.setStation x).station = x := rfl
@[simp] theorem State.setStation_clock (s : State) (x : Station) : (s.setStation x).clock = s.clock := rfl
@[simp] theorem State.setStation_bus (s : State) (x : Station) : (s.setStation x).bus = s.bus := rfl
@[simp] theorem State.setStation_cache (s : State) (x : Station) : (s.setStation x).cache = s.cache := rfl
@[simp] theorem State.setStation_tracker (s : State) (x : Station) : (s.setStation x).tracker = s.tracker := rfl
@[simp] theorem State.setStation_map (s : State) (x : Station) : (s.setStation x).map = s.map := rfl
@[simp] theorem State.setStation_engine (s : State) (x : Station) : (s.setStation x).engine = s.engine := rfl
@[simp] theorem State.setStation_bridge (s : State) (x : Station) : (s.setStation x).bridge = s.bridge := rfl
@[simp] theorem State.setStation_dose (s : State) (x : Station) : (s.setStation x).dose = s.dose := rfl
@[simp] theorem State.setStation_mon (s : State) (x : Station) : (s.setStation x).mon = s.mon := rfl
@[simp] theorem State.setStation_boundary (s : State) (x : Station) : (s.setStation x).boundary = s.boundary := rfl
@[simp] theorem State.setStation_self (s : State) : s.setStation s.station = s := rfl
@[simp] theorem State.setStation_setStation (s : State) (x y : Station) : (s.setStation x).setStation y = s.setStation y := rfl

/-! ### setClock -/

@[simp] theorem State.setClock_pending (s : State) (x : Clock) : (s.setClock x).pending = s.pending := rfl
@[simp] theorem State.setClock_now (s : State) (x : Clock) : (s.setClock x).now = s.now := rfl
@[simp] theorem State.setClock_station (s : State) (x : Clock) : (s.setClock x).station = s.station := rfl
@[simp] theorem State.setClock_clock (s : State) (x : Clock) : (s.setClock x).clock = x := rfl
@[simp] theorem State.setClock_bus (s : State) (x : Clock) : (s.setClock x).bus = s.bus := rfl
@[simp] theorem State.setClock_cache (s : State) (x : Clock) : (s.setClock x).cache = s.cache := rfl
@[simp] theorem State.setClock_tracker (s : State) (x : Clock) : (s.setClock x).tracker = s.tracker := rfl
@[simp] theorem State.setClock_map (s : State) (x : Clock) : (s.setClock x).map = s.map := rfl
@[simp] theorem State.setClock_engine (s : State) (x : Clock) : (s.setClock x).engine = s.engine := rfl
@[simp] theorem State.setClock_bridge (s : State) (x : Clock) : (s.setClock x).bridge = s.bridge := rfl
@[simp] theorem State.setClock_dose (s : State) (x : Clock) : (s.setClock x).dose = s.dose := rfl
@[simp] theorem State.setClock_mon (s : State) (x : Clock) : (s.setClock x).mon = s.mon := rfl
@[simp] theorem State.setClock_boundary (s : State) (x : Clock) : (s.setClock x).boundary = s.boundary := rfl
@[simp] theorem State.setClock_self (s : State) : s.setClock s.clock = s := rfl
@[simp] theorem State.setClock_setClock (s : State) (x y : Clock) : (s.setClock x).setClock y = s.setClock y := rfl

/-! ### setBus -/

@[simp] theorem State.setBus_pending (s : State) (x : Bus) : (s.setBus x).pending = s.pending := rfl
@[simp] theorem State.setBus_now (s : State) (x : Bus) : (s.setBus x).now = s.now := rfl
@[simp] theorem State.setBus_station (s : State) (x : Bus) : (s.setBus x).station = s.station := rfl
@[simp] theorem State.setBus_clock (s : State) (x : Bus) : (s.setBus x).clock = s.clock := rfl
@[simp] theorem State.setBus_bus (s : State) (x : Bus) : (s.setBus x).bus = x := rfl
@[simp] theorem State.setBus_cache (s : State) (x : Bus) : (s.setBus x).cache = s.cache := rfl
@[simp] theorem State.setBus_tracker (s : State) (x : Bus) : (s.setBus x).tracker = s.tracker := rfl
@[simp] theorem State.setBus_map (s : State) (x : Bus) : (s.setBus x).map = s.map := rfl
@[simp] theorem State.setBus_engine (s : State) (x : Bus) : (s.setBus x).engine = s.engine := rfl
@[simp] theorem State.setBus_bridge (s : State) (x : Bus) : (s.setBus x).bridge = s.bridge := rfl
@[simp] theorem State.setBus_dose (s : State) (x : Bus) : (s.setBus x).dose = s.dose := rfl
@[simp] theorem State.setBus_mon (s : State) (x : Bus) : (s.setBus x).mon = s.mon := rfl
@[simp] theorem State.setBus_boundary (s : State) (x : Bus) : (s.setBus x).boundary = s.boundary := rfl
@[simp] theorem State.setBus_self (s : State) : s.setBus s.bus = s := rfl
@[simp] theorem State.setBus_setBus (s : State) (x y : Bus) : (s.setBus x).setBus y = s.setBus y := rfl

/-! ### setCache -/

@[simp] theorem State.setCache_pending (s : State) (x : Cache) : (s.setCache x).pending = s.pending := rfl
@[simp] theorem State.setCache_now (s : State) (x : Cache) : (s.setCache x).now = s.now := rfl
@[simp] theorem State.setCache_station (s : State) (x : Cache) : (s.setCache x).station = s.station := rfl
@[simp] theorem State.setCache_clock (s : State) (x : Cache) : (s.setCache x).clock = s.clock := rfl
@[simp] theorem State.setCache_bus (s : State) (x : Cache) : (s.setCache x).bus = s.bus := rfl
@[simp] theorem State.setCache_cache (s : State) (x : Cache) : (s.setCache x).cache = x := rfl
@[simp] theorem State.setCache_tracker (s : State) (x : Cache) : (s.setCache x).tracker = s.tracker := rfl
@[simp] theorem State.setCache_map (s : State) (x : Cache) : (s.setCache x).map = s.map := rfl
@[simp] theorem State.setCache_engine (s : State) (x : Cache) : (s.setCache x).engine = s.engine := rfl
@[simp] theorem State.setCache_bridge (s : State) (x : Cache) : (s.setCache x).bridge = s.bridge := rfl
@[simp] theorem State.setCache_dose (s : State) (x : Cache) : (s.setCache x).dose = s.dose := rfl
@[simp] theorem State.setCache_mon (s : State) (x : Cache) : (s.setCache x).mon = s.mon := rfl
@[simp] theorem State.setCache_boundary (s : State) (x : Cache) : (s.setCache x).boundary = s.boundary := rfl
@[simp] theorem State.setCache_self (s : State) : s.setCache s.cache = s := rfl
@[simp] theorem State.setCache_setCache (s : State) (x y : Cache) : (s.setCache x).setCache y = s.setCache y := rfl

/-! ### setTracker -/

@[simp] theorem State.setTracker_pending (s : State) (x : Tracker) : (s.setTracker x).pending = s.pending := rfl
@[simp] theorem State.setTracker_now (s : State) (x : Tracker) : (s.setTracker x).now = s.now := rfl
@[simp] theorem State.setTracker_station (s : State) (x : Tracker) : (s.setTracker x).station = s.station := rfl
@[simp] theorem State.setTracker_clock (s : State) (x : Tracker) : (s.setTracker x).clock = s.clock := rfl
@[simp] theorem State.setTracker_bus (s : State) (x : Tracker) : (s.setTracker x).bus = s.bus := rfl
@[simp] theorem State.setTracker_cache (s : State) (x : Tracker) : (s.setTracker x).cache = s.cache := rfl
@[simp] theorem State.setTracker_tracker (s : State) (x : Tracker) : (s.setTracker x).tracker = x := rfl
@[simp] theorem State.setTracker_map (s : State) (x : Tracker) : (s.setTracker x).map = s.map := rfl
@[simp] theorem State.setTracker_engine (s : State) (x : Tracker) : (s.setTracker x).engine = s.engine := rfl
@[simp] theorem State.setTracker_bridge (s : State) (x : Tracker) : (s.setTracker x).bridge = s.bridge := rfl
@[simp] theorem State.setTracker_dose (s : State) (x : Tracker) : (s.setTracker x).dose = s.dose := rfl
@[simp] theorem State.setTracker_mon (s : State) (x : Tracker) : (s.setTracker x).mon = s.mon := rfl
@[simp] theorem State.setTracker_boundary (s : State) (x : Tracker) : (s.setTracker x).boundary = s.boundary := rfl
@[simp] theorem State.setTracker_self (s : State) : s.setTracker s.tracker = s := rfl
@[simp] theorem State.setTracker_setTracker (s : State) (x y : Tracker) : (s.setTracker x).setTracker y = s.setTracker y := rfl

/-! ### setMap -/

@[simp] theorem State.setMap_pending (s : State) (x : SlotMap) : (s.setMap x).pending = s.pending := rfl
@[simp] theorem State.setMap_now (s : State) (x : SlotMap) : (s.setMap x).now = s.now := rfl
@[simp] theorem State.setMap_station (s : State) (x : SlotMap) : (s.setMap x).station = s.station := rfl
@[simp] theorem State.setMap_clock (s : State) (x : SlotMap) : (s.setMap x).clock = s.clock := rfl
@[simp] theorem State.setMap_bus (s : State) (x : SlotMap) : (s.setMap x).bus = s.bus := rfl
@[simp] theorem State.setMap_cache (s : State) (x : SlotMap) : (s.setMap x).cache = s.cache := rfl
@[simp] theorem State.setMap_tracker (s : State) (x : SlotMap) : (s.setMap x).tracker = s.tracker := rfl
@[simp] theorem State.setMap_map (s : State) (x : SlotMap) : (s.setMap x).map = x := rfl
@[simp] theorem State.setMap_engine (s : State) (x : SlotMap) : (s.setMap x).engine = s.engine := rfl
@[simp] theorem State.setMap_bridge (s : State) (x : SlotMap) : (s.setMap x).bridge = s.bridge := rfl
@[simp] theorem State.setMap_dose (s : State) (x : SlotMap) : (s.setMap x).dose = s.dose := rfl
@[simp] theorem State.setMap_mon (s : State) (x : SlotMap) : (s.setMap x).mon = s.mon := rfl
@[simp] theorem State.setMap_boundary (s : State) (x : SlotMap) : (s.setMap x).boundary = s.boundary := rfl
@[simp] theorem State.setMap_self (s : State) : s.setMap s.map = s := rfl
@[simp] theorem State.setMap_setMap (s : State) (x y : SlotMap) : (s.setMap x).setMap y = s.setMap y := rfl

/-! ### setEngine -/

@[simp] theorem State.setEngine_pending (s : State) (x : Engine) : (s.setEngine x).pending = s.pending := rfl
@[simp] theorem State.setEngine_now (s : State) (x : Engine) : (s.setEngine x).now = s.now := rfl
@[simp] theorem State.setEngine_station (s : State) (x : Engine) : (s.setEngine x).station = s.station := rfl
@[simp] theorem State.setEngine_clock (s : State) (x : Engine) : (s.setEngine x).clock = s.clock := rfl
@[simp] theorem State.setEngine_bus (s : State) (x : Engine) : (s.setEngine x).bus = s.bus := rfl
@[simp] theorem State.setEngine_cache (s : State) (x : Engine) : (s.setEngine x).cache = s.cache := rfl
@[simp] theorem State.setEngine_tracker (s : State) (x : Engine) : (s.setEngine x).tracker = s.tracker := rfl
@[simp] theorem State.setEngine_map (s : State) (x : Engine) : (s.setEngine x).map = s.map := rfl
@[simp] theorem State.setEngine_engine (s : State) (x : Engine) : (s.setEngine x).engine = x := rfl
@[simp] theorem State.setEngine_bridge (s : State) (x : Engine) : (s.setEngine x).bridge = s.bridge := rfl
@[simp] theorem State.setEngine_dose (s : State) (x : Engine) : (s.setEngine x).dose = s.dose := rfl
@[simp] theorem State.setEngine_mon (s : State) (x : Engine) : (s.setEngine x).mon = s.mon := rfl
@[simp] theorem State.setEngine_boundary (s : State) (x : Engine) : (s.setEngine x).boundary = s.boundary := rfl
@[simp] theorem State.setEngine_self (s : State) : s.setEngine s.engine = s := rfl
@[simp] theorem State.setEngine_setEngine (s : State) (x y : Engine) : (s.setEngine x).setEngine y = s.setEngine y := rfl

/-! ### setBridge -/

@[simp] theorem State.setBridge_pending (s : State) (x : Bridge) : (s.setBridge x).pending = s.pending := rfl
@[simp] theorem State.setBridge_now (s : State) (x : Bridge) : (s.setBridge x).now = s.now := rfl
@[simp] theorem State.setBridge_station (s : State) (x : Bridge) : (s.setBridge x).station = s.station := rfl
@[simp] theorem State.setBridge_clock (s : State) (x : Bridge) : (s.setBridge x).clock = s.clock := rfl
@[simp] theorem State.setBridge_bus (s : State) (x : Bridge) : (s.setBridge x).bus = s.bus := rfl
@[simp] theorem State.setBridge_cache (s : State) (x : Bridge) : (s.setBridge x).cache = s.cache := rfl
@[simp] theorem State.setBridge_tracker (s : State) (x : Bridge) : (s.setBridge x).tracker = s.tracker := rfl
@[simp] theorem State.setBridge_map (s : State) (x : Bridge) : (s.setBridge x).map = s.map := rfl
@[simp] theorem State.setBridge_engine (s : State) (x : Bridge) : (s.setBridge x).engine = s.engine := rfl
@[simp] theorem State.setBridge_bridge (s : State) (x : Bridge) : (s.setBridge x).bridge = x := rfl
@[simp] theorem State.setBridge_dose (s : State) (x : Bridge) : (s.setBridge x).dose = s.dose := rfl
@[simp] theorem State.setBridge_mon (s : State) (x : Bridge) : (s.setBridge x).mon = s.mon := rfl
@[simp] theorem State.setBridge_boundary (s : State) (x : Bridge) : (s.setBridge x).boundary = s.boundary := rfl
@[simp] theorem State.setBridge_self (s : State) : s.setBridge s.bridge = s := rfl
@[simp] theorem State.setBridge_setBridge (s : State) (x y : Bridge) : (s.setBridge x).setBridge y = s.setBridge y := rfl

/-! ### setDose -/

@[simp] theorem State.setDose_pending (s : State) (x : Dose) : (s.setDose x).pending = s.pending := rfl
@[simp] theorem State.setDose_now (s : State) (x : Dose) : (s.setDose x).now = s.now := rfl
@[simp] theorem State.setDose_station (s : State) (x : Dose) : (s.setDose x).station = s.station := rfl
@[simp] theorem State.setDose_clock (s : State) (x : Dose) : (s.setDose x).clock = s.clock := rfl
@[simp] theorem State.setDose_bus (s : State) (x : Dose) : (s.setDose x).bus = s.bus := rfl
@[simp] theorem State.setDose_cache (s : State) (x : Dose) : (s.setDose x).cache = s.cache := rfl
@[simp] theorem State.setDose_tracker (s : State) (x : Dose) : (s.setDose x).tracker = s.tracker := rfl
@[simp] theorem State.setDose_map (s : State) (x : Dose) : (s.setDose x).map = s.map := rfl
@[simp] theorem State.setDose_engine (s : State) (x : Dose) : (s.setDose x).engine = s.engine := rfl
@[simp] theorem State.setDose_bridge (s : State) (x : Dose) : (s.setDose x).bridge = s.bridge := rfl
@[simp] theorem State.setDose_dose (s : State) (x : Dose) : (s.setDose x).dose = x := rfl
@[simp] theorem State.setDose_mon (s : State) (x : Dose) : (s.setDose x).mon = s.mon := rfl
@[simp] theorem State.setDose_boundary (s : State) (x : Dose) : (s.setDose x).boundary = s.boundary := rfl
@[simp] theorem State.setDose_self (s : State) : s.setDose s.dose = s := rfl
@[simp] theorem State.setDose_setDose (s : State) (x y : Dose) : (s.setDose x).setDose y = s.setDose y := rfl

/-! ### setMon -/

@[simp] theorem State.setMon_pending (s : State) (x : Monitor) : (s.setMon x).pending = s.pending := rfl
@[simp] theorem State.setMon_now (s : State) (x : Monitor) : (s.setMon x).now = s.now := rfl
@[simp] theorem State.setMon_station (s : State) (x : Monitor) : (s.setMon x).station = s.station := rfl
@[simp] theorem State.setMon_clock (s : State) (x : Monitor) : (s.setMon x).clock = s.clock := rfl
@[simp] theorem State.setMon_bus (s : State) (x : Monitor) : (s.setMon x).bus = s.bus := rfl
@[simp] theorem State.setMon_cache (s : State) (x : Monitor) : (s.setMon x).cache = s.cache := rfl
@[simp] theorem State.setMon_tracker (s : State) (x : Monitor) : (s.setMon x).tracker = s.tracker := rfl
@[simp] theorem State.setMon_map (s : State) (x : Monitor) : (s.setMon x).map = s.map := rfl
@[simp] theorem State.setMon_engine (s : State) (x : Monitor) : (s.setMon x).engine = s.engine := rfl
@[simp] theorem State.setMon_bridge (s : State) (x : Monitor) : (s.setMon x).bridge = s.bridge := rfl
@[simp] theorem State.setMon_dose (s : State) (x : Monitor) : (s.setMon x).dose = s.dose := rfl
@[simp] theorem State.setMon_mon (s : State) (x : Monitor) : (s.setMon x).mon = x := rfl
@[simp] theorem State.setMon_boundary (s : State) (x : Monitor) : (s.setMon x).boundary = s.boundary := rfl
@[simp] theorem State.setMon_self (s : State) : s.setMon s.mon = s := rfl
@[simp] theorem State.setMon_setMon (s : State) (x y : Monitor) : (s.setMon x).setMon y = s.setMon y := rfl

/-! ### setBoundary -/

@[simp] theorem State.setBoundary_pending (s : State) (x : Boundary) : (s.setBoundary x).pending = s.pending := rfl
@[simp] theorem State.setBoundary_now (s : State) (x : Boundary) : (s.setBoundary x).now = s.now := rfl
@[simp] theorem State.setBoundary_station (s : State) (x : Boundary) : (s.setBoundary x).station = s.station := rfl
@[simp] theorem State.setBoundary_clock (s : State) (x : Boundary) : (s.setBoundary x).clock = s.clock := rfl
@[simp] theorem State.setBoundary_bus (s : State) (x : Boundary) : (s.setBoundary x).bus = s.bus := rfl
@[simp] theorem State.setBoundary_cache (s : State) (x : Boundary) : (s.setBoundary x).cache = s.cache := rfl
@[simp] theorem State.setBoundary_tracker (s : State) (x : Boundary) : (s.setBoundary x).tracker = s.tracker := rfl
@[simp] theorem State.setBoundary_map (s : State) (x : Boundary) : (s.setBoundary x).map = s.map := rfl
@[simp] theorem State.setBoundary_engine (s : State) (x : Boundary) : (s.setBoundary x).engine = s.engine := rfl
@[simp] theorem State.setBoundary_bridge (s : State) (x : Boundary) : (s.setBoundary x).bridge = s.bridge := rfl
@[simp] theorem State.setBoundary_dose (s : State) (x : Boundary) : (s.setBoundary x).dose = s.dose := rfl
@[simp] theorem State.setBoundary_mon (s : State) (x : Boundary) : (s.setBoundary x).mon = s.mon := rfl
@[simp] theorem State.setBoundary_boundary (s : State) (x : Boundary) : (s.setBoundary x).boundary = x := rfl
@[simp] theorem State.setBoundary_self (s : State) : s.setBoundary s.boundary = s := rfl
@[simp] theorem State.setBoundary_setBoundary (s : State) (x y : Boundary) : (s.setBoundary x).setBoundary y = s.setBoundary y := rfl

end Sys2Proof.Machine
end

