-- ==== Sys2Proof/Laws/MonitorFrame.lean ====
section
/-! SUPPORT. What each operation of the transmit queue and the condition monitor leaves as it was: one lemma for each, with every block it does not touch. -/

namespace Sys2Proof.Machine

open Sys2Proof

/-- What every step of a fold leaves as it was, the fold leaves as it was. -/
theorem foldl_keeps {α β γ : Type} (p : β → γ) {f : β → α → β} (h : ∀ s a, p (f s a) = p s) :
    ∀ (l : List α) (s : β), p (l.foldl f s) = p s
  | [], _ => rfl
  | a :: l, s => (foldl_keeps p h l (f s a)).trans (h s a)

@[simp] theorem State.advance_leaves (t : Instant) (s : State) : (s.advance t).pending = s.pending ∧ (s.advance t).station =
    s.station ∧ (s.advance t).clock = s.clock ∧ (s.advance t).bus = s.bus ∧ (s.advance t).cache = s.cache ∧ (s.advance
    t).tracker = s.tracker ∧ (s.advance t).map = s.map ∧ (s.advance t).engine = s.engine ∧ (s.advance t).bridge = s.bridge ∧
    (s.advance t).dose = s.dose ∧ (s.advance t).mon = s.mon ∧ (s.advance t).boundary = s.boundary := by
  simp [State.advance]

@[simp] theorem State.submit_leaves (body : Body) (dest : Dest) (s : State) : (s.submit body dest).1.pending = s.pending ∧
    (s.submit body dest).1.now = s.now ∧ (s.submit body dest).1.station = s.station ∧ (s.submit body dest).1.clock = s.clock ∧
    (s.submit body dest).1.cache = s.cache ∧ (s.submit body dest).1.tracker = s.tracker ∧ (s.submit body dest).1.map = s.map ∧
    (s.submit body dest).1.engine = s.engine ∧ (s.submit body dest).1.bridge = s.bridge ∧ (s.submit body dest).1.dose = s.dose ∧
    (s.submit body dest).1.mon = s.mon ∧ (s.submit body dest).1.boundary = s.boundary := by
  simp [State.submit]

@[simp] theorem State.offerReports_leaves (n : Nat) (s : State) : (offerReports n s).pending = s.pending ∧ (offerReports n
    s).now = s.now ∧ (offerReports n s).station = s.station ∧ (offerReports n s).clock = s.clock ∧ (offerReports n s).cache =
    s.cache ∧ (offerReports n s).tracker = s.tracker ∧ (offerReports n s).map = s.map ∧ (offerReports n s).engine = s.engine ∧
    (offerReports n s).bridge = s.bridge ∧ (offerReports n s).dose = s.dose ∧ (offerReports n s).boundary = s.boundary := by
  induction n generalizing s with
  | zero => simp [offerReports]
  | succ n ih =>
    unfold offerReports
    split
    · simp
    · rename_i r rest h
      have hs := State.submit_leaves (.condition (s.conditionFor r)) .all s
      split
      · rename_i s' h'
        rw [h'] at hs
        simp_all
      · simp

@[simp] theorem State.offer_leaves (s : State) : (s.offer).pending = s.pending ∧ (s.offer).now = s.now ∧ (s.offer).station =
    s.station ∧ (s.offer).clock = s.clock ∧ (s.offer).cache = s.cache ∧ (s.offer).tracker = s.tracker ∧ (s.offer).map = s.map ∧
    (s.offer).engine = s.engine ∧ (s.offer).bridge = s.bridge ∧ (s.offer).dose = s.dose ∧ (s.offer).boundary = s.boundary := by
  and_intros <;> (unfold State.offer; (try dsimp only); (repeat' split) <;> simp)

@[simp] theorem State.place_leaves (kind : Kind) (change : Change) (cause : Cause) (s : State) : (s.place kind change
    cause).pending = s.pending ∧ (s.place kind change cause).now = s.now ∧ (s.place kind change cause).station = s.station ∧
    (s.place kind change cause).clock = s.clock ∧ (s.place kind change cause).cache = s.cache ∧ (s.place kind change
    cause).tracker = s.tracker ∧ (s.place kind change cause).map = s.map ∧ (s.place kind change cause).engine = s.engine ∧
    (s.place kind change cause).bridge = s.bridge ∧ (s.place kind change cause).dose = s.dose ∧ (s.place kind change
    cause).boundary = s.boundary := by
  and_intros <;> (unfold State.place; (try dsimp only); (repeat' split) <;> simp)

@[simp] theorem State.declareCond_leaves (kind : Kind) (cause : Cause) (s : State) : (s.declareCond kind cause).pending =
    s.pending ∧ (s.declareCond kind cause).now = s.now ∧ (s.declareCond kind cause).station = s.station ∧ (s.declareCond kind
    cause).clock = s.clock ∧ (s.declareCond kind cause).cache = s.cache ∧ (s.declareCond kind cause).tracker = s.tracker ∧
    (s.declareCond kind cause).map = s.map ∧ (s.declareCond kind cause).engine = s.engine ∧ (s.declareCond kind cause).bridge =
    s.bridge ∧ (s.declareCond kind cause).dose = s.dose ∧ (s.declareCond kind cause).boundary = s.boundary := by
  and_intros <;> (unfold State.declareCond; (try dsimp only); (repeat' split) <;> simp)

@[simp] theorem State.clearCond_leaves (kind : Kind) (cause : Cause) (s : State) : (s.clearCond kind cause).pending = s.pending
    ∧ (s.clearCond kind cause).now = s.now ∧ (s.clearCond kind cause).station = s.station ∧ (s.clearCond kind cause).clock =
    s.clock ∧ (s.clearCond kind cause).cache = s.cache ∧ (s.clearCond kind cause).tracker = s.tracker ∧ (s.clearCond kind
    cause).map = s.map ∧ (s.clearCond kind cause).engine = s.engine ∧ (s.clearCond kind cause).bridge = s.bridge ∧ (s.clearCond
    kind cause).dose = s.dose ∧ (s.clearCond kind cause).boundary = s.boundary := by
  and_intros <;> (unfold State.clearCond; (try dsimp only); (repeat' split) <;> simp)

@[simp] theorem State.raise_leaves (kind : Kind) (cause : Cause) (s : State) : (s.raise kind cause).pending = s.pending ∧
    (s.raise kind cause).now = s.now ∧ (s.raise kind cause).station = s.station ∧ (s.raise kind cause).clock = s.clock ∧
    (s.raise kind cause).cache = s.cache ∧ (s.raise kind cause).tracker = s.tracker ∧ (s.raise kind cause).map = s.map ∧
    (s.raise kind cause).engine = s.engine ∧ (s.raise kind cause).bridge = s.bridge ∧ (s.raise kind cause).dose = s.dose ∧
    (s.raise kind cause).boundary = s.boundary := by
  and_intros <;> (unfold State.raise; (try dsimp only); (repeat' split) <;> simp)

@[simp] theorem State.followDeviation_leaves (out : Bool) (s : State) : (s.followDeviation out).pending = s.pending ∧
    (s.followDeviation out).now = s.now ∧ (s.followDeviation out).station = s.station ∧ (s.followDeviation out).clock = s.clock
    ∧ (s.followDeviation out).cache = s.cache ∧ (s.followDeviation out).tracker = s.tracker ∧ (s.followDeviation out).map =
    s.map ∧ (s.followDeviation out).engine = s.engine ∧ (s.followDeviation out).bridge = s.bridge ∧ (s.followDeviation out).dose
    = s.dose ∧ (s.followDeviation out).boundary = s.boundary := by
  and_intros <;> (unfold State.followDeviation; (try dsimp only); (repeat' split) <;> simp)

@[simp] theorem State.verdict_leaves (k : CountedKind) (bad : Bool) (cause : Cause) (s : State) : (s.verdict k bad
    cause).pending = s.pending ∧ (s.verdict k bad cause).now = s.now ∧ (s.verdict k bad cause).station = s.station ∧ (s.verdict
    k bad cause).clock = s.clock ∧ (s.verdict k bad cause).cache = s.cache ∧ (s.verdict k bad cause).tracker = s.tracker ∧
    (s.verdict k bad cause).map = s.map ∧ (s.verdict k bad cause).engine = s.engine ∧ (s.verdict k bad cause).bridge = s.bridge
    ∧ (s.verdict k bad cause).dose = s.dose ∧ (s.verdict k bad cause).boundary = s.boundary := by
  and_intros <;> (unfold State.verdict; (try dsimp only); (repeat' split) <;> simp)

@[simp] theorem State.tellMonitor_leaves (st : StationState) (s : State) : (s.tellMonitor st).pending = s.pending ∧
    (s.tellMonitor st).now = s.now ∧ (s.tellMonitor st).station = s.station ∧ (s.tellMonitor st).clock = s.clock ∧
    (s.tellMonitor st).cache = s.cache ∧ (s.tellMonitor st).tracker = s.tracker ∧ (s.tellMonitor st).map = s.map ∧
    (s.tellMonitor st).engine = s.engine ∧ (s.tellMonitor st).bridge = s.bridge ∧ (s.tellMonitor st).dose = s.dose ∧
    (s.tellMonitor st).boundary = s.boundary := by
  and_intros <;> (unfold State.tellMonitor; (try dsimp only); (repeat' split) <;> simp)

end Sys2Proof.Machine
end

