-- ==== Sys2Proof/Laws/CacheFrame.lean ====
section
/-! SUPPORT. What each operation of the recipe cache leaves as it was: one lemma for each, with every block it does not touch. -/

namespace Sys2Proof.Machine

open Sys2Proof

@[simp] theorem State.pinContext_leaves (key : Option Key) (s : State) : (s.pinContext key).pending = s.pending ∧ (s.pinContext
    key).now = s.now ∧ (s.pinContext key).station = s.station ∧ (s.pinContext key).clock = s.clock ∧ (s.pinContext key).bus =
    s.bus ∧ (s.pinContext key).tracker = s.tracker ∧ (s.pinContext key).map = s.map ∧ (s.pinContext key).engine = s.engine ∧
    (s.pinContext key).bridge = s.bridge ∧ (s.pinContext key).dose = s.dose ∧ (s.pinContext key).mon = s.mon ∧ (s.pinContext
    key).boundary = s.boundary := by
  and_intros <;> (unfold State.pinContext; (try dsimp only); (repeat' split) <;> simp)

@[simp] theorem State.unpinContext_leaves (key : Option Key) (s : State) : (s.unpinContext key).pending = s.pending ∧
    (s.unpinContext key).now = s.now ∧ (s.unpinContext key).station = s.station ∧ (s.unpinContext key).clock = s.clock ∧
    (s.unpinContext key).bus = s.bus ∧ (s.unpinContext key).tracker = s.tracker ∧ (s.unpinContext key).map = s.map ∧
    (s.unpinContext key).engine = s.engine ∧ (s.unpinContext key).bridge = s.bridge ∧ (s.unpinContext key).dose = s.dose ∧
    (s.unpinContext key).mon = s.mon ∧ (s.unpinContext key).boundary = s.boundary := by
  and_intros <;> (unfold State.unpinContext; (try dsimp only); (repeat' split) <;> simp)

@[simp] theorem State.touchContext_leaves (key : Option Key) (s : State) : (s.touchContext key).pending = s.pending ∧
    (s.touchContext key).now = s.now ∧ (s.touchContext key).station = s.station ∧ (s.touchContext key).clock = s.clock ∧
    (s.touchContext key).bus = s.bus ∧ (s.touchContext key).tracker = s.tracker ∧ (s.touchContext key).map = s.map ∧
    (s.touchContext key).engine = s.engine ∧ (s.touchContext key).bridge = s.bridge ∧ (s.touchContext key).dose = s.dose ∧
    (s.touchContext key).mon = s.mon ∧ (s.touchContext key).boundary = s.boundary := by
  and_intros <;> (unfold State.touchContext; (try dsimp only); (repeat' split) <;> simp)

@[simp] theorem State.submitRecipeQuery_leaves (k : Key) (s : State) : (s.submitRecipeQuery k).1.pending = s.pending ∧
    (s.submitRecipeQuery k).1.now = s.now ∧ (s.submitRecipeQuery k).1.station = s.station ∧ (s.submitRecipeQuery k).1.clock =
    s.clock ∧ (s.submitRecipeQuery k).1.cache = s.cache ∧ (s.submitRecipeQuery k).1.tracker = s.tracker ∧ (s.submitRecipeQuery
    k).1.map = s.map ∧ (s.submitRecipeQuery k).1.engine = s.engine ∧ (s.submitRecipeQuery k).1.bridge = s.bridge ∧
    (s.submitRecipeQuery k).1.dose = s.dose ∧ (s.submitRecipeQuery k).1.mon = s.mon ∧ (s.submitRecipeQuery k).1.boundary =
    s.boundary := by
  and_intros <;> (unfold State.submitRecipeQuery; (try dsimp only); (repeat' split) <;> simp)

@[simp] theorem State.sendWanted_leaves (w : Wanted) (s : State) : (s.sendWanted w).pending = s.pending ∧ (s.sendWanted w).now =
    s.now ∧ (s.sendWanted w).station = s.station ∧ (s.sendWanted w).clock = s.clock ∧ (s.sendWanted w).tracker = s.tracker ∧
    (s.sendWanted w).map = s.map ∧ (s.sendWanted w).engine = s.engine ∧ (s.sendWanted w).bridge = s.bridge ∧ (s.sendWanted
    w).dose = s.dose ∧ (s.sendWanted w).mon = s.mon ∧ (s.sendWanted w).boundary = s.boundary := by
  and_intros <;> (unfold State.sendWanted; (repeat' split) <;> (try (rename_i h; have h := congrArg Prod.fst h; dsimp only at h; subst h)) <;> simp)

@[simp] theorem State.tickWanted_leaves (w : Wanted) (s : State) : (s.tickWanted w).pending = s.pending ∧ (s.tickWanted w).now =
    s.now ∧ (s.tickWanted w).station = s.station ∧ (s.tickWanted w).clock = s.clock ∧ (s.tickWanted w).tracker = s.tracker ∧
    (s.tickWanted w).map = s.map ∧ (s.tickWanted w).engine = s.engine ∧ (s.tickWanted w).bridge = s.bridge ∧ (s.tickWanted
    w).dose = s.dose ∧ (s.tickWanted w).boundary = s.boundary := by
  and_intros <;> (unfold State.tickWanted; (try dsimp only); (repeat' split) <;> simp)

@[simp] theorem State.tickWantedList_leaves (s : State) : (s.tickWantedList).pending = s.pending ∧ (s.tickWantedList).now =
    s.now ∧ (s.tickWantedList).station = s.station ∧ (s.tickWantedList).clock = s.clock ∧ (s.tickWantedList).tracker = s.tracker
    ∧ (s.tickWantedList).map = s.map ∧ (s.tickWantedList).engine = s.engine ∧ (s.tickWantedList).bridge = s.bridge ∧
    (s.tickWantedList).dose = s.dose ∧ (s.tickWantedList).boundary = s.boundary := by
  unfold State.tickWantedList
  generalize s.cache.wanted = l
  induction l generalizing s <;> simp_all

@[simp] theorem State.pinCarrier_leaves (k : Key) (s : State) : (s.pinCarrier k).1.pending = s.pending ∧ (s.pinCarrier k).1.now
    = s.now ∧ (s.pinCarrier k).1.station = s.station ∧ (s.pinCarrier k).1.clock = s.clock ∧ (s.pinCarrier k).1.tracker =
    s.tracker ∧ (s.pinCarrier k).1.map = s.map ∧ (s.pinCarrier k).1.engine = s.engine ∧ (s.pinCarrier k).1.bridge = s.bridge ∧
    (s.pinCarrier k).1.dose = s.dose ∧ (s.pinCarrier k).1.mon = s.mon ∧ (s.pinCarrier k).1.boundary = s.boundary := by
  and_intros <;> (unfold State.pinCarrier; (try dsimp only); (repeat' split) <;> simp)

@[simp] theorem State.sendAnswer_leaves (k : Key) (s : State) : (s.sendAnswer k).pending = s.pending ∧ (s.sendAnswer k).now =
    s.now ∧ (s.sendAnswer k).station = s.station ∧ (s.sendAnswer k).clock = s.clock ∧ (s.sendAnswer k).cache = s.cache ∧
    (s.sendAnswer k).tracker = s.tracker ∧ (s.sendAnswer k).map = s.map ∧ (s.sendAnswer k).engine = s.engine ∧ (s.sendAnswer
    k).bridge = s.bridge ∧ (s.sendAnswer k).dose = s.dose ∧ (s.sendAnswer k).mon = s.mon ∧ (s.sendAnswer k).boundary =
    s.boundary := by
  and_intros <;> (unfold State.sendAnswer; (try dsimp only); (repeat' split) <;> simp)

@[simp] theorem State.tickAnswers_leaves (s : State) : (s.tickAnswers).pending = s.pending ∧ (s.tickAnswers).now = s.now ∧
    (s.tickAnswers).station = s.station ∧ (s.tickAnswers).clock = s.clock ∧ (s.tickAnswers).tracker = s.tracker ∧
    (s.tickAnswers).map = s.map ∧ (s.tickAnswers).engine = s.engine ∧ (s.tickAnswers).bridge = s.bridge ∧ (s.tickAnswers).dose =
    s.dose ∧ (s.tickAnswers).mon = s.mon ∧ (s.tickAnswers).boundary = s.boundary := by
  unfold State.tickAnswers
  and_intros
  · exact (foldl_keeps State.pending (by intro s a; simp) _ _).trans (by simp)
  · exact (foldl_keeps State.now (by intro s a; simp) _ _).trans (by simp)
  · exact (foldl_keeps State.station (by intro s a; simp) _ _).trans (by simp)
  · exact (foldl_keeps State.clock (by intro s a; simp) _ _).trans (by simp)
  · exact (foldl_keeps State.tracker (by intro s a; simp) _ _).trans (by simp)
  · exact (foldl_keeps State.map (by intro s a; simp) _ _).trans (by simp)
  · exact (foldl_keeps State.engine (by intro s a; simp) _ _).trans (by simp)
  · exact (foldl_keeps State.bridge (by intro s a; simp) _ _).trans (by simp)
  · exact (foldl_keeps State.dose (by intro s a; simp) _ _).trans (by simp)
  · exact (foldl_keeps State.mon (by intro s a; simp) _ _).trans (by simp)
  · exact (foldl_keeps State.boundary (by intro s a; simp) _ _).trans (by simp)

end Sys2Proof.Machine
end

