-- ==== Sys2Proof/Laws/DoseFrame.lean ====
section
/-! SUPPORT. What each operation of the dose integrator leaves as it was: one lemma for each, with every block it does not touch. -/

namespace Sys2Proof.Machine

open Sys2Proof

@[simp] theorem State.flagTag_leaves (tag : Nat) (f : ZoneFlag) (s : State) : (s.flagTag tag f).pending = s.pending ∧ (s.flagTag
    tag f).now = s.now ∧ (s.flagTag tag f).station = s.station ∧ (s.flagTag tag f).clock = s.clock ∧ (s.flagTag tag f).bus =
    s.bus ∧ (s.flagTag tag f).cache = s.cache ∧ (s.flagTag tag f).tracker = s.tracker ∧ (s.flagTag tag f).map = s.map ∧
    (s.flagTag tag f).engine = s.engine ∧ (s.flagTag tag f).bridge = s.bridge ∧ (s.flagTag tag f).mon = s.mon ∧ (s.flagTag tag
    f).boundary = s.boundary := by
  and_intros <;> (unfold State.flagTag; (try dsimp only); (repeat' split) <;> simp)

@[simp] theorem State.flagAll_leaves (f : ZoneFlag) (s : State) : (s.flagAll f).pending = s.pending ∧ (s.flagAll f).now = s.now
    ∧ (s.flagAll f).station = s.station ∧ (s.flagAll f).clock = s.clock ∧ (s.flagAll f).bus = s.bus ∧ (s.flagAll f).cache =
    s.cache ∧ (s.flagAll f).tracker = s.tracker ∧ (s.flagAll f).map = s.map ∧ (s.flagAll f).engine = s.engine ∧ (s.flagAll
    f).bridge = s.bridge ∧ (s.flagAll f).mon = s.mon ∧ (s.flagAll f).boundary = s.boundary := by
  and_intros <;> (unfold State.flagAll; (try dsimp only); (repeat' split) <;> simp)

@[simp] theorem State.fixTarget_leaves (e : Entry) (s : State) : (s.fixTarget e).pending = s.pending ∧ (s.fixTarget e).now =
    s.now ∧ (s.fixTarget e).station = s.station ∧ (s.fixTarget e).clock = s.clock ∧ (s.fixTarget e).bus = s.bus ∧ (s.fixTarget
    e).cache = s.cache ∧ (s.fixTarget e).tracker = s.tracker ∧ (s.fixTarget e).map = s.map ∧ (s.fixTarget e).engine = s.engine ∧
    (s.fixTarget e).bridge = s.bridge ∧ (s.fixTarget e).mon = s.mon ∧ (s.fixTarget e).boundary = s.boundary := by
  and_intros <;> (unfold State.fixTarget; (try dsimp only); (repeat' split) <;> simp)

@[simp] theorem State.openRecord_leaves (e : Entry) (s : State) : (s.openRecord e).pending = s.pending ∧ (s.openRecord e).now =
    s.now ∧ (s.openRecord e).station = s.station ∧ (s.openRecord e).clock = s.clock ∧ (s.openRecord e).bus = s.bus ∧
    (s.openRecord e).cache = s.cache ∧ (s.openRecord e).tracker = s.tracker ∧ (s.openRecord e).map = s.map ∧ (s.openRecord
    e).engine = s.engine ∧ (s.openRecord e).bridge = s.bridge ∧ (s.openRecord e).mon = s.mon ∧ (s.openRecord e).boundary =
    s.boundary := by
  and_intros <;> (unfold State.openRecord; (try dsimp only); (repeat' split) <;> simp)

@[simp] theorem State.takeSlotRecord_leaves (r : SlotRecord) (s : State) : (s.takeSlotRecord r).pending = s.pending ∧
    (s.takeSlotRecord r).now = s.now ∧ (s.takeSlotRecord r).station = s.station ∧ (s.takeSlotRecord r).clock = s.clock ∧
    (s.takeSlotRecord r).bus = s.bus ∧ (s.takeSlotRecord r).cache = s.cache ∧ (s.takeSlotRecord r).tracker = s.tracker ∧
    (s.takeSlotRecord r).map = s.map ∧ (s.takeSlotRecord r).engine = s.engine ∧ (s.takeSlotRecord r).bridge = s.bridge ∧
    (s.takeSlotRecord r).mon = s.mon ∧ (s.takeSlotRecord r).boundary = s.boundary := by
  and_intros <;> (unfold State.takeSlotRecord; (try dsimp only); (repeat' split) <;> simp)

@[simp] theorem State.handReport_leaves (r : SlotReport) (s : State) : (s.handReport r).pending = s.pending ∧ (s.handReport
    r).now = s.now ∧ (s.handReport r).station = s.station ∧ (s.handReport r).clock = s.clock ∧ (s.handReport r).bus = s.bus ∧
    (s.handReport r).cache = s.cache ∧ (s.handReport r).tracker = s.tracker ∧ (s.handReport r).map = s.map ∧ (s.handReport
    r).engine = s.engine ∧ (s.handReport r).bridge = s.bridge ∧ (s.handReport r).mon = s.mon ∧ (s.handReport r).boundary =
    s.boundary := by
  and_intros <;> (unfold State.handReport; (try dsimp only); (repeat' split) <;> simp)

@[simp] theorem State.handLateReport_leaves (counted : Option Nat) (r : SlotReport) (s : State) : (s.handLateReport counted r).pending = s.pending ∧
    (s.handLateReport counted r).now = s.now ∧ (s.handLateReport counted r).station = s.station ∧ (s.handLateReport counted r).clock = s.clock ∧
    (s.handLateReport counted r).bus = s.bus ∧ (s.handLateReport counted r).cache = s.cache ∧ (s.handLateReport counted r).tracker = s.tracker ∧
    (s.handLateReport counted r).map = s.map ∧ (s.handLateReport counted r).engine = s.engine ∧ (s.handLateReport counted r).bridge = s.bridge ∧
    (s.handLateReport counted r).mon = s.mon ∧ (s.handLateReport counted r).boundary = s.boundary := by
  and_intros <;> (unfold State.handLateReport; (try dsimp only); (repeat' split) <;> simp)

@[simp] theorem State.doseFrame_leaves (s : State) : (s.doseFrame).pending = s.pending ∧ (s.doseFrame).now = s.now ∧
    (s.doseFrame).station = s.station ∧ (s.doseFrame).clock = s.clock ∧ (s.doseFrame).cache = s.cache ∧ (s.doseFrame).tracker =
    s.tracker ∧ (s.doseFrame).map = s.map ∧ (s.doseFrame).engine = s.engine ∧ (s.doseFrame).bridge = s.bridge ∧
    (s.doseFrame).boundary = s.boundary := by
  and_intros <;> (unfold State.doseFrame; (try dsimp only); (repeat' split) <;> simp)

@[simp] theorem State.closeRecord_leaves (e : Entry) (s : State) : (s.closeRecord e).2.pending = s.pending ∧ (s.closeRecord
    e).2.now = s.now ∧ (s.closeRecord e).2.station = s.station ∧ (s.closeRecord e).2.clock = s.clock ∧ (s.closeRecord e).2.bus =
    s.bus ∧ (s.closeRecord e).2.cache = s.cache ∧ (s.closeRecord e).2.tracker = s.tracker ∧ (s.closeRecord e).2.map = s.map ∧
    (s.closeRecord e).2.engine = s.engine ∧ (s.closeRecord e).2.bridge = s.bridge ∧ (s.closeRecord e).2.mon = s.mon ∧
    (s.closeRecord e).2.boundary = s.boundary := by
  and_intros <;> (unfold State.closeRecord; (try dsimp only); (repeat' split) <;> simp)

end Sys2Proof.Machine
end

