-- ==== Sys2Proof/Laws/ClaimsFrame.lean ====
section
/-! SUPPORT. What each operation of the CLAIM submissions leaves as it was: one lemma for each, with every block it does not touch. -/

namespace Sys2Proof.Machine

open Sys2Proof

@[simp] theorem State.sendClaim_leaves (s : State) : (s.sendClaim).pending = s.pending ∧ (s.sendClaim).now = s.now ∧
    (s.sendClaim).station = s.station ∧ (s.sendClaim).clock = s.clock ∧ (s.sendClaim).cache = s.cache ∧ (s.sendClaim).tracker =
    s.tracker ∧ (s.sendClaim).engine = s.engine ∧ (s.sendClaim).bridge = s.bridge ∧ (s.sendClaim).dose = s.dose ∧
    (s.sendClaim).mon = s.mon ∧ (s.sendClaim).boundary = s.boundary := by
  and_intros <;> (unfold State.sendClaim; (repeat' split) <;> (try (rename_i h; have h := congrArg Prod.fst h; dsimp only at h; subst h)) <;> simp)

@[simp] theorem State.submitClaim_leaves (s : State) : (s.submitClaim).pending = s.pending ∧ (s.submitClaim).now = s.now ∧
    (s.submitClaim).station = s.station ∧ (s.submitClaim).clock = s.clock ∧ (s.submitClaim).cache = s.cache ∧
    (s.submitClaim).tracker = s.tracker ∧ (s.submitClaim).engine = s.engine ∧ (s.submitClaim).bridge = s.bridge ∧
    (s.submitClaim).dose = s.dose ∧ (s.submitClaim).mon = s.mon ∧ (s.submitClaim).boundary = s.boundary := by
  and_intros <;> (unfold State.submitClaim; (try dsimp only); (repeat' split) <;> simp)

@[simp] theorem State.flushClaim_leaves (s : State) : (s.flushClaim).pending = s.pending ∧ (s.flushClaim).now = s.now ∧
    (s.flushClaim).station = s.station ∧ (s.flushClaim).clock = s.clock ∧ (s.flushClaim).cache = s.cache ∧
    (s.flushClaim).tracker = s.tracker ∧ (s.flushClaim).engine = s.engine ∧ (s.flushClaim).bridge = s.bridge ∧
    (s.flushClaim).dose = s.dose ∧ (s.flushClaim).mon = s.mon ∧ (s.flushClaim).boundary = s.boundary := by
  and_intros <;> (unfold State.flushClaim; (try dsimp only); (repeat' split) <;> simp)

@[simp] theorem State.clearStarved_leaves (s : State) : (s.clearStarved).pending = s.pending ∧ (s.clearStarved).now = s.now ∧
    (s.clearStarved).station = s.station ∧ (s.clearStarved).clock = s.clock ∧ (s.clearStarved).cache = s.cache ∧
    (s.clearStarved).tracker = s.tracker ∧ (s.clearStarved).map = s.map ∧ (s.clearStarved).engine = s.engine ∧
    (s.clearStarved).bridge = s.bridge ∧ (s.clearStarved).dose = s.dose ∧ (s.clearStarved).boundary = s.boundary := by
  and_intros <;> (unfold State.clearStarved; (try dsimp only); (repeat' split) <;> simp)

@[simp] theorem State.cancelPlan_leaves (s : State) : (s.cancelPlan).pending = s.pending ∧ (s.cancelPlan).now = s.now ∧
    (s.cancelPlan).station = s.station ∧ (s.cancelPlan).clock = s.clock ∧ (s.cancelPlan).cache = s.cache ∧
    (s.cancelPlan).tracker = s.tracker ∧ (s.cancelPlan).engine = s.engine ∧ (s.cancelPlan).bridge = s.bridge ∧
    (s.cancelPlan).dose = s.dose ∧ (s.cancelPlan).boundary = s.boundary := by
  and_intros <;> (unfold State.cancelPlan; (try dsimp only); (repeat' split) <;> simp)

@[simp] theorem State.askPlan_leaves (p : Pattern) (s : State) : (s.askPlan p).pending = s.pending ∧ (s.askPlan p).now = s.now ∧
    (s.askPlan p).station = s.station ∧ (s.askPlan p).clock = s.clock ∧ (s.askPlan p).bus = s.bus ∧ (s.askPlan p).cache =
    s.cache ∧ (s.askPlan p).tracker = s.tracker ∧ (s.askPlan p).engine = s.engine ∧ (s.askPlan p).bridge = s.bridge ∧ (s.askPlan
    p).dose = s.dose ∧ (s.askPlan p).mon = s.mon ∧ (s.askPlan p).boundary = s.boundary := by
  and_intros <;> (unfold State.askPlan; (try dsimp only); (repeat' split) <;> simp)

end Sys2Proof.Machine
end

