-- ==== Sys2Proof/Laws/EngineFrame.lean ====
section
/-! SUPPORT. What each operation of the waveform engine leaves as it was: one lemma for each, with every block it does not touch. -/

namespace Sys2Proof.Machine

open Sys2Proof

@[simp] theorem State.handSlotSetpoint_leaves (sp : Setpoint) (s : State) : (s.handSlotSetpoint sp).pending = s.pending ∧
    (s.handSlotSetpoint sp).now = s.now ∧ (s.handSlotSetpoint sp).station = s.station ∧ (s.handSlotSetpoint sp).clock = s.clock
    ∧ (s.handSlotSetpoint sp).bus = s.bus ∧ (s.handSlotSetpoint sp).cache = s.cache ∧ (s.handSlotSetpoint sp).tracker =
    s.tracker ∧ (s.handSlotSetpoint sp).map = s.map ∧ (s.handSlotSetpoint sp).engine = s.engine ∧ (s.handSlotSetpoint sp).dose =
    s.dose ∧ (s.handSlotSetpoint sp).mon = s.mon ∧ (s.handSlotSetpoint sp).boundary = s.boundary := by
  and_intros <;> (unfold State.handSlotSetpoint; (try dsimp only); (repeat' split) <;> simp)

@[simp] theorem State.handSetpointNow_leaves (sp : Setpoint) (s : State) : (s.handSetpointNow sp).pending = s.pending ∧
    (s.handSetpointNow sp).now = s.now ∧ (s.handSetpointNow sp).station = s.station ∧ (s.handSetpointNow sp).clock = s.clock ∧
    (s.handSetpointNow sp).bus = s.bus ∧ (s.handSetpointNow sp).cache = s.cache ∧ (s.handSetpointNow sp).tracker = s.tracker ∧
    (s.handSetpointNow sp).map = s.map ∧ (s.handSetpointNow sp).engine = s.engine ∧ (s.handSetpointNow sp).dose = s.dose ∧
    (s.handSetpointNow sp).mon = s.mon ∧ (s.handSetpointNow sp).boundary = s.boundary := by
  and_intros <;> (unfold State.handSetpointNow; (try dsimp only); (repeat' split) <;> simp)

@[simp] theorem State.putActive_leaves (c : Context) (s : State) : (s.putActive c).pending = s.pending ∧ (s.putActive c).now =
    s.now ∧ (s.putActive c).station = s.station ∧ (s.putActive c).clock = s.clock ∧ (s.putActive c).bus = s.bus ∧ (s.putActive
    c).tracker = s.tracker ∧ (s.putActive c).map = s.map ∧ (s.putActive c).bridge = s.bridge ∧ (s.putActive c).dose = s.dose ∧
    (s.putActive c).mon = s.mon ∧ (s.putActive c).boundary = s.boundary := by
  and_intros <;> (unfold State.putActive; (try dsimp only); (repeat' split) <;> simp)

@[simp] theorem State.buildActive_leaves (carrier : Option Nat) (s : State) : (s.buildActive carrier).pending = s.pending ∧
    (s.buildActive carrier).now = s.now ∧ (s.buildActive carrier).station = s.station ∧ (s.buildActive carrier).clock = s.clock
    ∧ (s.buildActive carrier).bus = s.bus ∧ (s.buildActive carrier).tracker = s.tracker ∧ (s.buildActive carrier).map = s.map ∧
    (s.buildActive carrier).bridge = s.bridge ∧ (s.buildActive carrier).dose = s.dose ∧ (s.buildActive carrier).mon = s.mon ∧
    (s.buildActive carrier).boundary = s.boundary := by
  and_intros <;> (unfold State.buildActive; (try dsimp only); (repeat' split) <;> simp)

@[simp] theorem State.discardPrepared_leaves (s : State) : (s.discardPrepared).pending = s.pending ∧ (s.discardPrepared).now =
    s.now ∧ (s.discardPrepared).station = s.station ∧ (s.discardPrepared).clock = s.clock ∧ (s.discardPrepared).bus = s.bus ∧
    (s.discardPrepared).tracker = s.tracker ∧ (s.discardPrepared).map = s.map ∧ (s.discardPrepared).bridge = s.bridge ∧
    (s.discardPrepared).dose = s.dose ∧ (s.discardPrepared).mon = s.mon ∧ (s.discardPrepared).boundary = s.boundary := by
  and_intros <;> (unfold State.discardPrepared; (try dsimp only); (repeat' split) <;> simp)

@[simp] theorem State.buildPrepared_leaves (carrier : Nat) (s : State) : (s.buildPrepared carrier).pending = s.pending ∧
    (s.buildPrepared carrier).now = s.now ∧ (s.buildPrepared carrier).station = s.station ∧ (s.buildPrepared carrier).clock =
    s.clock ∧ (s.buildPrepared carrier).bus = s.bus ∧ (s.buildPrepared carrier).tracker = s.tracker ∧ (s.buildPrepared
    carrier).map = s.map ∧ (s.buildPrepared carrier).bridge = s.bridge ∧ (s.buildPrepared carrier).dose = s.dose ∧
    (s.buildPrepared carrier).mon = s.mon ∧ (s.buildPrepared carrier).boundary = s.boundary := by
  and_intros <;> (unfold State.buildPrepared; (try dsimp only); (repeat' split) <;> simp)

@[simp] theorem State.rebuildPrepared_leaves (s : State) : (s.rebuildPrepared).pending = s.pending ∧ (s.rebuildPrepared).now =
    s.now ∧ (s.rebuildPrepared).station = s.station ∧ (s.rebuildPrepared).clock = s.clock ∧ (s.rebuildPrepared).bus = s.bus ∧
    (s.rebuildPrepared).tracker = s.tracker ∧ (s.rebuildPrepared).map = s.map ∧ (s.rebuildPrepared).bridge = s.bridge ∧
    (s.rebuildPrepared).dose = s.dose ∧ (s.rebuildPrepared).mon = s.mon ∧ (s.rebuildPrepared).boundary = s.boundary := by
  and_intros <;> (unfold State.rebuildPrepared; (try dsimp only); (repeat' split) <;> simp)

@[simp] theorem State.swapPrepared_leaves (s : State) : (s.swapPrepared).pending = s.pending ∧ (s.swapPrepared).now = s.now ∧
    (s.swapPrepared).station = s.station ∧ (s.swapPrepared).clock = s.clock ∧ (s.swapPrepared).bus = s.bus ∧
    (s.swapPrepared).tracker = s.tracker ∧ (s.swapPrepared).map = s.map ∧ (s.swapPrepared).bridge = s.bridge ∧
    (s.swapPrepared).dose = s.dose ∧ (s.swapPrepared).mon = s.mon ∧ (s.swapPrepared).boundary = s.boundary := by
  and_intros <;> (unfold State.swapPrepared; (try dsimp only); (repeat' split) <;> simp)

@[simp] theorem State.giveRequest_leaves (owner : Owner) (p : Option Pattern) (s : State) : (s.giveRequest owner p).pending =
    s.pending ∧ (s.giveRequest owner p).now = s.now ∧ (s.giveRequest owner p).station = s.station ∧ (s.giveRequest owner
    p).clock = s.clock ∧ (s.giveRequest owner p).cache = s.cache ∧ (s.giveRequest owner p).tracker = s.tracker ∧ (s.giveRequest
    owner p).bridge = s.bridge ∧ (s.giveRequest owner p).dose = s.dose ∧ (s.giveRequest owner p).boundary = s.boundary := by
  and_intros <;> (unfold State.giveRequest; (try dsimp only); (repeat' split) <;> simp)

@[simp] theorem State.settle_leaves (s : State) : (s.settle).pending = s.pending ∧ (s.settle).now = s.now ∧ (s.settle).station =
    s.station ∧ (s.settle).clock = s.clock ∧ (s.settle).cache = s.cache ∧ (s.settle).tracker = s.tracker ∧ (s.settle).bridge =
    s.bridge ∧ (s.settle).dose = s.dose ∧ (s.settle).boundary = s.boundary := by
  and_intros <;> (unfold State.settle; (try dsimp only); (repeat' split) <;> simp)

@[simp] theorem State.cancelRequest_leaves (s : State) : (s.cancelRequest).pending = s.pending ∧ (s.cancelRequest).now = s.now ∧
    (s.cancelRequest).station = s.station ∧ (s.cancelRequest).clock = s.clock ∧ (s.cancelRequest).cache = s.cache ∧
    (s.cancelRequest).tracker = s.tracker ∧ (s.cancelRequest).bridge = s.bridge ∧ (s.cancelRequest).dose = s.dose ∧
    (s.cancelRequest).boundary = s.boundary := by
  and_intros <;> (unfold State.cancelRequest; (try dsimp only); (repeat' split) <;> simp)

@[simp] theorem State.engineSlot_leaves (s : State) : (s.engineSlot).pending = s.pending ∧ (s.engineSlot).now = s.now ∧
    (s.engineSlot).station = s.station ∧ (s.engineSlot).clock = s.clock ∧ (s.engineSlot).bus = s.bus ∧ (s.engineSlot).cache =
    s.cache ∧ (s.engineSlot).tracker = s.tracker ∧ (s.engineSlot).map = s.map ∧ (s.engineSlot).mon = s.mon ∧
    (s.engineSlot).boundary = s.boundary := by
  and_intros <;> (unfold State.engineSlot; (try dsimp only); (repeat' split) <;> simp)

@[simp] theorem State.markLate_leaves (carrier : Option Nat) (s : State) : (s.markLate carrier).pending = s.pending ∧
    (s.markLate carrier).now = s.now ∧ (s.markLate carrier).station = s.station ∧ (s.markLate carrier).clock = s.clock ∧
    (s.markLate carrier).bus = s.bus ∧ (s.markLate carrier).cache = s.cache ∧ (s.markLate carrier).tracker = s.tracker ∧
    (s.markLate carrier).map = s.map ∧ (s.markLate carrier).engine = s.engine ∧ (s.markLate carrier).bridge = s.bridge ∧
    (s.markLate carrier).mon = s.mon ∧ (s.markLate carrier).boundary = s.boundary := by
  and_intros <;> (unfold State.markLate; (try dsimp only); (repeat' split) <;> simp)

@[simp] theorem State.dropStale_leaves (forecast : Option Nat) (s : State) : (s.dropStale forecast).pending = s.pending ∧
    (s.dropStale forecast).now = s.now ∧ (s.dropStale forecast).station = s.station ∧ (s.dropStale forecast).clock = s.clock ∧
    (s.dropStale forecast).bus = s.bus ∧ (s.dropStale forecast).tracker = s.tracker ∧ (s.dropStale forecast).map = s.map ∧
    (s.dropStale forecast).bridge = s.bridge ∧ (s.dropStale forecast).dose = s.dose ∧ (s.dropStale forecast).mon = s.mon ∧
    (s.dropStale forecast).boundary = s.boundary := by
  and_intros <;> (unfold State.dropStale; (try dsimp only); (repeat' split) <;> simp)

@[simp] theorem State.dropPreparedFor_leaves (dominant : Option Nat) (s : State) : (s.dropPreparedFor dominant).pending =
    s.pending ∧ (s.dropPreparedFor dominant).now = s.now ∧ (s.dropPreparedFor dominant).station = s.station ∧ (s.dropPreparedFor
    dominant).clock = s.clock ∧ (s.dropPreparedFor dominant).bus = s.bus ∧ (s.dropPreparedFor dominant).tracker = s.tracker ∧
    (s.dropPreparedFor dominant).map = s.map ∧ (s.dropPreparedFor dominant).bridge = s.bridge ∧ (s.dropPreparedFor
    dominant).dose = s.dose ∧ (s.dropPreparedFor dominant).mon = s.mon ∧ (s.dropPreparedFor dominant).boundary = s.boundary :=
    by
  and_intros <;> (unfold State.dropPreparedFor; (try dsimp only); (repeat' split) <;> simp)

@[simp] theorem State.followDominant_leaves (dominant : Option Nat) (s : State) : (s.followDominant dominant).pending =
    s.pending ∧ (s.followDominant dominant).now = s.now ∧ (s.followDominant dominant).station = s.station ∧ (s.followDominant
    dominant).clock = s.clock ∧ (s.followDominant dominant).bus = s.bus ∧ (s.followDominant dominant).tracker = s.tracker ∧
    (s.followDominant dominant).map = s.map ∧ (s.followDominant dominant).bridge = s.bridge ∧ (s.followDominant dominant).mon =
    s.mon ∧ (s.followDominant dominant).boundary = s.boundary := by
  and_intros <;> (unfold State.followDominant; (try dsimp only); (repeat' split) <;> simp)

@[simp] theorem State.restIfNone_leaves (dominant : Option Nat) (s : State) : (s.restIfNone dominant).pending = s.pending ∧
    (s.restIfNone dominant).now = s.now ∧ (s.restIfNone dominant).station = s.station ∧ (s.restIfNone dominant).clock = s.clock
    ∧ (s.restIfNone dominant).bus = s.bus ∧ (s.restIfNone dominant).tracker = s.tracker ∧ (s.restIfNone dominant).map = s.map ∧
    (s.restIfNone dominant).bridge = s.bridge ∧ (s.restIfNone dominant).dose = s.dose ∧ (s.restIfNone dominant).mon = s.mon ∧
    (s.restIfNone dominant).boundary = s.boundary := by
  and_intros <;> (unfold State.restIfNone; (try dsimp only); (repeat' split) <;> simp)

@[simp] theorem State.prepareFor_leaves (forecast : Option Nat) (s : State) : (s.prepareFor forecast).pending = s.pending ∧
    (s.prepareFor forecast).now = s.now ∧ (s.prepareFor forecast).station = s.station ∧ (s.prepareFor forecast).clock = s.clock
    ∧ (s.prepareFor forecast).bus = s.bus ∧ (s.prepareFor forecast).tracker = s.tracker ∧ (s.prepareFor forecast).map = s.map ∧
    (s.prepareFor forecast).bridge = s.bridge ∧ (s.prepareFor forecast).dose = s.dose ∧ (s.prepareFor forecast).mon = s.mon ∧
    (s.prepareFor forecast).boundary = s.boundary := by
  and_intros <;> (unfold State.prepareFor; (try dsimp only); (repeat' split) <;> simp)

@[simp] theorem State.settleAfter_leaves (stale : Bool) (s : State) : (s.settleAfter stale).pending = s.pending ∧ (s.settleAfter
    stale).now = s.now ∧ (s.settleAfter stale).station = s.station ∧ (s.settleAfter stale).clock = s.clock ∧ (s.settleAfter
    stale).cache = s.cache ∧ (s.settleAfter stale).tracker = s.tracker ∧ (s.settleAfter stale).bridge = s.bridge ∧
    (s.settleAfter stale).dose = s.dose ∧ (s.settleAfter stale).boundary = s.boundary := by
  and_intros <;> (unfold State.settleAfter; (try dsimp only); (repeat' split) <;> simp)

@[simp] theorem State.handOver_leaves (dominant forecast : Option Nat) (s : State) : (s.handOver dominant forecast).pending =
    s.pending ∧ (s.handOver dominant forecast).now = s.now ∧ (s.handOver dominant forecast).station = s.station ∧ (s.handOver
    dominant forecast).clock = s.clock ∧ (s.handOver dominant forecast).tracker = s.tracker ∧ (s.handOver dominant
    forecast).bridge = s.bridge ∧ (s.handOver dominant forecast).boundary = s.boundary := by
  and_intros <;> (unfold State.handOver; (try dsimp only); (repeat' split) <;> simp)

@[simp] theorem State.planFailed_leaves (s : State) : (s.planFailed).pending = s.pending ∧ (s.planFailed).now = s.now ∧
    (s.planFailed).station = s.station ∧ (s.planFailed).clock = s.clock ∧ (s.planFailed).cache = s.cache ∧
    (s.planFailed).tracker = s.tracker ∧ (s.planFailed).bridge = s.bridge ∧ (s.planFailed).dose = s.dose ∧
    (s.planFailed).boundary = s.boundary := by
  and_intros <;> (unfold State.planFailed; (try dsimp only); (repeat' split) <;> simp)

@[simp] theorem State.redecideActive_leaves (s : State) : (s.redecideActive).pending = s.pending ∧ (s.redecideActive).now =
    s.now ∧ (s.redecideActive).station = s.station ∧ (s.redecideActive).clock = s.clock ∧ (s.redecideActive).bus = s.bus ∧
    (s.redecideActive).cache = s.cache ∧ (s.redecideActive).tracker = s.tracker ∧ (s.redecideActive).map = s.map ∧
    (s.redecideActive).bridge = s.bridge ∧ (s.redecideActive).dose = s.dose ∧ (s.redecideActive).mon = s.mon ∧
    (s.redecideActive).boundary = s.boundary := by
  and_intros <;> (unfold State.redecideActive; (try dsimp only); (repeat' split) <;> simp)

@[simp] theorem State.renewPrepared_leaves (s : State) : (s.renewPrepared).pending = s.pending ∧ (s.renewPrepared).now = s.now ∧
    (s.renewPrepared).station = s.station ∧ (s.renewPrepared).clock = s.clock ∧ (s.renewPrepared).bus = s.bus ∧
    (s.renewPrepared).tracker = s.tracker ∧ (s.renewPrepared).map = s.map ∧ (s.renewPrepared).bridge = s.bridge ∧
    (s.renewPrepared).dose = s.dose ∧ (s.renewPrepared).mon = s.mon ∧ (s.renewPrepared).boundary = s.boundary := by
  and_intros <;> (unfold State.renewPrepared; (try dsimp only); (repeat' split) <;> simp)

@[simp] theorem State.markMixed_leaves (outgoing : Option Nat) (s : State) : (s.markMixed outgoing).pending = s.pending ∧
    (s.markMixed outgoing).now = s.now ∧ (s.markMixed outgoing).station = s.station ∧ (s.markMixed outgoing).clock = s.clock ∧
    (s.markMixed outgoing).bus = s.bus ∧ (s.markMixed outgoing).cache = s.cache ∧ (s.markMixed outgoing).tracker = s.tracker ∧
    (s.markMixed outgoing).map = s.map ∧ (s.markMixed outgoing).engine = s.engine ∧ (s.markMixed outgoing).bridge = s.bridge ∧
    (s.markMixed outgoing).mon = s.mon ∧ (s.markMixed outgoing).boundary = s.boundary := by
  and_intros <;> (unfold State.markMixed; (try dsimp only); (repeat' split) <;> simp)

@[simp] theorem State.rehand_leaves (s : State) : (s.rehand).pending = s.pending ∧ (s.rehand).now = s.now ∧ (s.rehand).station =
    s.station ∧ (s.rehand).clock = s.clock ∧ (s.rehand).bus = s.bus ∧ (s.rehand).cache = s.cache ∧ (s.rehand).tracker =
    s.tracker ∧ (s.rehand).map = s.map ∧ (s.rehand).dose = s.dose ∧ (s.rehand).mon = s.mon ∧ (s.rehand).boundary = s.boundary :=
    by
  and_intros <;> (unfold State.rehand; (try dsimp only); (repeat' split) <;> simp)

@[simp] theorem State.commitNotice_leaves (s : State) : (s.commitNotice).pending = s.pending ∧ (s.commitNotice).now = s.now ∧
    (s.commitNotice).station = s.station ∧ (s.commitNotice).clock = s.clock ∧ (s.commitNotice).tracker = s.tracker ∧
    (s.commitNotice).boundary = s.boundary := by
  and_intros <;> (unfold State.commitNotice; (try dsimp only); (repeat' split) <;> simp)

@[simp] theorem State.stopReverse_leaves (s : State) : (s.stopReverse).pending = s.pending ∧ (s.stopReverse).now = s.now ∧
    (s.stopReverse).station = s.station ∧ (s.stopReverse).clock = s.clock ∧ (s.stopReverse).bus = s.bus ∧ (s.stopReverse).cache
    = s.cache ∧ (s.stopReverse).tracker = s.tracker ∧ (s.stopReverse).map = s.map ∧ (s.stopReverse).dose = s.dose ∧
    (s.stopReverse).mon = s.mon ∧ (s.stopReverse).boundary = s.boundary := by
  and_intros <;> (unfold State.stopReverse; (try dsimp only); (repeat' split) <;> simp)

@[simp] theorem State.forgetRequest_leaves (s : State) : (s.forgetRequest).pending = s.pending ∧ (s.forgetRequest).now = s.now ∧
    (s.forgetRequest).station = s.station ∧ (s.forgetRequest).clock = s.clock ∧ (s.forgetRequest).bus = s.bus ∧
    (s.forgetRequest).cache = s.cache ∧ (s.forgetRequest).tracker = s.tracker ∧ (s.forgetRequest).map = s.map ∧
    (s.forgetRequest).bridge = s.bridge ∧ (s.forgetRequest).dose = s.dose ∧ (s.forgetRequest).mon = s.mon ∧
    (s.forgetRequest).boundary = s.boundary := by
  and_intros <;> (unfold State.forgetRequest; (try dsimp only); (repeat' split) <;> simp)

@[simp] theorem State.withdrawNotice_leaves (s : State) : (s.withdrawNotice).pending = s.pending ∧ (s.withdrawNotice).now =
    s.now ∧ (s.withdrawNotice).station = s.station ∧ (s.withdrawNotice).clock = s.clock ∧ (s.withdrawNotice).tracker = s.tracker
    ∧ (s.withdrawNotice).dose = s.dose ∧ (s.withdrawNotice).boundary = s.boundary := by
  and_intros <;> (unfold State.withdrawNotice; (try dsimp only); (repeat' split) <;> simp)

@[simp] theorem State.engineSlip_leaves (s : State) : (s.engineSlip).pending = s.pending ∧ (s.engineSlip).now = s.now ∧
    (s.engineSlip).station = s.station ∧ (s.engineSlip).clock = s.clock ∧ (s.engineSlip).tracker = s.tracker ∧
    (s.engineSlip).bridge = s.bridge ∧ (s.engineSlip).dose = s.dose ∧ (s.engineSlip).boundary = s.boundary := by
  and_intros <;> (unfold State.engineSlip; (try dsimp only); (repeat' split) <;> simp)

@[simp] theorem State.recipeAvailable_leaves (k : Key) (s : State) : (s.recipeAvailable k).pending = s.pending ∧
    (s.recipeAvailable k).now = s.now ∧ (s.recipeAvailable k).station = s.station ∧ (s.recipeAvailable k).clock = s.clock ∧
    (s.recipeAvailable k).tracker = s.tracker ∧ (s.recipeAvailable k).bridge = s.bridge ∧ (s.recipeAvailable k).dose = s.dose ∧
    (s.recipeAvailable k).boundary = s.boundary := by
  and_intros <;> (unfold State.recipeAvailable; (try dsimp only); (repeat' split) <;> simp)

@[simp] theorem State.engineTrip_leaves (s : State) : (s.engineTrip).pending = s.pending ∧ (s.engineTrip).now = s.now ∧
    (s.engineTrip).station = s.station ∧ (s.engineTrip).clock = s.clock ∧ (s.engineTrip).tracker = s.tracker ∧
    (s.engineTrip).bridge = s.bridge ∧ (s.engineTrip).dose = s.dose ∧ (s.engineTrip).boundary = s.boundary := by
  and_intros <;> (unfold State.engineTrip; (try dsimp only); (repeat' split) <;> simp)

@[simp] theorem State.engineRestEnd_leaves (s : State) : (s.engineRestEnd).pending = s.pending ∧ (s.engineRestEnd).now = s.now ∧
    (s.engineRestEnd).station = s.station ∧ (s.engineRestEnd).clock = s.clock ∧ (s.engineRestEnd).tracker = s.tracker ∧
    (s.engineRestEnd).bridge = s.bridge ∧ (s.engineRestEnd).boundary = s.boundary := by
  and_intros <;> (unfold State.engineRestEnd; (try dsimp only); (repeat' split) <;> simp)

@[simp] theorem State.engineRebuild_leaves (s : State) : (s.engineRebuild).pending = s.pending ∧ (s.engineRebuild).now = s.now ∧
    (s.engineRebuild).station = s.station ∧ (s.engineRebuild).clock = s.clock ∧ (s.engineRebuild).tracker = s.tracker ∧
    (s.engineRebuild).bridge = s.bridge ∧ (s.engineRebuild).dose = s.dose ∧ (s.engineRebuild).boundary = s.boundary := by
  and_intros <;> (unfold State.engineRebuild; (try dsimp only); (repeat' split) <;> simp)

@[simp] theorem State.engineListen_leaves (s : State) : (s.engineListen).pending = s.pending ∧ (s.engineListen).now = s.now ∧
    (s.engineListen).station = s.station ∧ (s.engineListen).clock = s.clock ∧ (s.engineListen).tracker = s.tracker ∧
    (s.engineListen).bridge = s.bridge ∧ (s.engineListen).dose = s.dose ∧ (s.engineListen).boundary = s.boundary := by
  and_intros <;> (unfold State.engineListen; (try dsimp only); (repeat' split) <;> simp)

@[simp] theorem State.engineLockout_leaves (s : State) : (s.engineLockout).pending = s.pending ∧ (s.engineLockout).now = s.now ∧
    (s.engineLockout).station = s.station ∧ (s.engineLockout).clock = s.clock ∧ (s.engineLockout).tracker = s.tracker ∧
    (s.engineLockout).bridge = s.bridge ∧ (s.engineLockout).dose = s.dose ∧ (s.engineLockout).boundary = s.boundary := by
  and_intros <;> (unfold State.engineLockout; (try dsimp only); (repeat' split) <;> simp)

end Sys2Proof.Machine
end

