-- ==== Sys2Proof/Laws/SlotMapFrame.lean ====
section
/-! SUPPORT. What each operation of the slot map and the slot clock leaves as it was: one lemma for each, with every block it does not touch. -/

namespace Sys2Proof.Machine

open Sys2Proof

@[simp] theorem State.withdrawalClaim_leaves (lockout : Bool) (s : State) : (s.withdrawalClaim lockout).pending = s.pending ∧
    (s.withdrawalClaim lockout).now = s.now ∧ (s.withdrawalClaim lockout).station = s.station ∧ (s.withdrawalClaim
    lockout).clock = s.clock ∧ (s.withdrawalClaim lockout).cache = s.cache ∧ (s.withdrawalClaim lockout).tracker = s.tracker ∧
    (s.withdrawalClaim lockout).engine = s.engine ∧ (s.withdrawalClaim lockout).bridge = s.bridge ∧ (s.withdrawalClaim
    lockout).dose = s.dose ∧ (s.withdrawalClaim lockout).mon = s.mon ∧ (s.withdrawalClaim lockout).boundary = s.boundary := by
  and_intros <;> (unfold State.withdrawalClaim; (try dsimp only); (repeat' split) <;> simp)

@[simp] theorem State.withdraw_leaves (lockout : Bool) (s : State) : (s.withdraw lockout).pending = s.pending ∧ (s.withdraw
    lockout).now = s.now ∧ (s.withdraw lockout).station = s.station ∧ (s.withdraw lockout).clock = s.clock ∧ (s.withdraw
    lockout).tracker = s.tracker ∧ (s.withdraw lockout).dose = s.dose ∧ (s.withdraw lockout).boundary = s.boundary := by
  and_intros <;> (unfold State.withdraw; (try dsimp only); (repeat' split) <;> simp)

@[simp] theorem State.mapSlip_leaves (s : State) : (s.mapSlip).pending = s.pending ∧ (s.mapSlip).now = s.now ∧
    (s.mapSlip).station = s.station ∧ (s.mapSlip).clock = s.clock ∧ (s.mapSlip).tracker = s.tracker ∧ (s.mapSlip).dose = s.dose
    ∧ (s.mapSlip).boundary = s.boundary := by
  and_intros <;> (unfold State.mapSlip; (try dsimp only); (repeat' split) <;> simp)

@[simp] theorem State.testConflict_leaves (sender : Peer) (s : State) : (s.testConflict sender).pending = s.pending ∧
    (s.testConflict sender).now = s.now ∧ (s.testConflict sender).station = s.station ∧ (s.testConflict sender).clock = s.clock
    ∧ (s.testConflict sender).tracker = s.tracker ∧ (s.testConflict sender).dose = s.dose ∧ (s.testConflict sender).boundary =
    s.boundary := by
  and_intros <;> (unfold State.testConflict; (try dsimp only); (repeat' split) <;> simp)

@[simp] theorem State.testObjection_leaves (sender : Peer) (s : State) : (s.testObjection sender).pending = s.pending ∧
    (s.testObjection sender).now = s.now ∧ (s.testObjection sender).station = s.station ∧ (s.testObjection sender).clock =
    s.clock ∧ (s.testObjection sender).bus = s.bus ∧ (s.testObjection sender).cache = s.cache ∧ (s.testObjection sender).tracker
    = s.tracker ∧ (s.testObjection sender).engine = s.engine ∧ (s.testObjection sender).bridge = s.bridge ∧ (s.testObjection
    sender).dose = s.dose ∧ (s.testObjection sender).mon = s.mon ∧ (s.testObjection sender).boundary = s.boundary := by
  and_intros <;> (unfold State.testObjection; (try dsimp only); (repeat' split) <;> simp)

@[simp] theorem State.applyClaim_leaves (p : Peer) (s : State) : (s.applyClaim p).pending = s.pending ∧ (s.applyClaim p).now =
    s.now ∧ (s.applyClaim p).station = s.station ∧ (s.applyClaim p).clock = s.clock ∧ (s.applyClaim p).tracker = s.tracker ∧
    (s.applyClaim p).dose = s.dose ∧ (s.applyClaim p).boundary = s.boundary := by
  and_intros <;> (unfold State.applyClaim; (try dsimp only); (repeat' split) <;> simp)

@[simp] theorem State.closeWindow_leaves (s : State) : (s.closeWindow).1.pending = s.pending ∧ (s.closeWindow).1.now = s.now ∧
    (s.closeWindow).1.station = s.station ∧ (s.closeWindow).1.clock = s.clock ∧ (s.closeWindow).1.cache = s.cache ∧
    (s.closeWindow).1.tracker = s.tracker ∧ (s.closeWindow).1.engine = s.engine ∧ (s.closeWindow).1.bridge = s.bridge ∧
    (s.closeWindow).1.dose = s.dose ∧ (s.closeWindow).1.boundary = s.boundary := by
  and_intros <;> (unfold State.closeWindow; (try dsimp only); (repeat' split) <;> simp)

@[simp] theorem State.plan_leaves (s : State) : (s.plan).1.pending = s.pending ∧ (s.plan).1.now = s.now ∧ (s.plan).1.station =
    s.station ∧ (s.plan).1.clock = s.clock ∧ (s.plan).1.cache = s.cache ∧ (s.plan).1.tracker = s.tracker ∧ (s.plan).1.engine =
    s.engine ∧ (s.plan).1.bridge = s.bridge ∧ (s.plan).1.dose = s.dose ∧ (s.plan).1.boundary = s.boundary := by
  and_intros <;> (unfold State.plan; (try dsimp only); (repeat' split) <;> simp)

@[simp] theorem State.countAndPlan_leaves (closing : Bool) (s : State) : (s.countAndPlan closing).1.pending = s.pending ∧
    (s.countAndPlan closing).1.now = s.now ∧ (s.countAndPlan closing).1.station = s.station ∧ (s.countAndPlan closing).1.clock =
    s.clock ∧ (s.countAndPlan closing).1.cache = s.cache ∧ (s.countAndPlan closing).1.tracker = s.tracker ∧ (s.countAndPlan
    closing).1.engine = s.engine ∧ (s.countAndPlan closing).1.bridge = s.bridge ∧ (s.countAndPlan closing).1.dose = s.dose ∧
    (s.countAndPlan closing).1.boundary = s.boundary := by
  and_intros <;> (unfold State.countAndPlan; (try dsimp only); (repeat' split) <;> simp)

@[simp] theorem State.expireUnneeded_leaves (s : State) : (s.expireUnneeded).pending = s.pending ∧ (s.expireUnneeded).now =
    s.now ∧ (s.expireUnneeded).station = s.station ∧ (s.expireUnneeded).clock = s.clock ∧ (s.expireUnneeded).tracker = s.tracker
    ∧ (s.expireUnneeded).boundary = s.boundary := by
  and_intros <;> (unfold State.expireUnneeded; (try dsimp only); (repeat' split) <;> simp)

@[simp] theorem State.tellEngine_leaves (n : MapNotices) (s : State) : (s.tellEngine n).pending = s.pending ∧ (s.tellEngine
    n).now = s.now ∧ (s.tellEngine n).station = s.station ∧ (s.tellEngine n).clock = s.clock ∧ (s.tellEngine n).tracker =
    s.tracker ∧ (s.tellEngine n).boundary = s.boundary := by
  and_intros <;> (unfold State.tellEngine; (try dsimp only); (repeat' split) <;> simp)

@[simp] theorem State.mapFrame_leaves (s : State) : (s.mapFrame).pending = s.pending ∧ (s.mapFrame).now = s.now ∧
    (s.mapFrame).station = s.station ∧ (s.mapFrame).clock = s.clock ∧ (s.mapFrame).tracker = s.tracker ∧ (s.mapFrame).boundary =
    s.boundary := by
  and_intros <;> (unfold State.mapFrame; (try dsimp only); (repeat' split) <;> simp)

@[simp] theorem State.retryClaim_leaves (s : State) : (s.retryClaim).pending = s.pending ∧ (s.retryClaim).now = s.now ∧
    (s.retryClaim).station = s.station ∧ (s.retryClaim).clock = s.clock ∧ (s.retryClaim).cache = s.cache ∧
    (s.retryClaim).tracker = s.tracker ∧ (s.retryClaim).engine = s.engine ∧ (s.retryClaim).bridge = s.bridge ∧
    (s.retryClaim).dose = s.dose ∧ (s.retryClaim).mon = s.mon ∧ (s.retryClaim).boundary = s.boundary := by
  and_intros <;> (unfold State.retryClaim; (try dsimp only); (repeat' split) <;> simp)

@[simp] theorem State.mapBoundary_leaves (s : State) : (s.mapBoundary).pending = s.pending ∧ (s.mapBoundary).now = s.now ∧
    (s.mapBoundary).station = s.station ∧ (s.mapBoundary).clock = s.clock ∧ (s.mapBoundary).tracker = s.tracker ∧
    (s.mapBoundary).boundary = s.boundary := by
  and_intros <;> (unfold State.mapBoundary; (try dsimp only); (repeat' split) <;> simp)

@[simp] theorem State.renumber_leaves (q : Nat) (s : State) : (s.renumber q).pending = s.pending ∧ (s.renumber q).now = s.now ∧
    (s.renumber q).station = s.station ∧ (s.renumber q).bus = s.bus ∧ (s.renumber q).cache = s.cache ∧ (s.renumber q).tracker =
    s.tracker ∧ (s.renumber q).map = s.map ∧ (s.renumber q).engine = s.engine ∧ (s.renumber q).bridge = s.bridge ∧ (s.renumber
    q).mon = s.mon := by
  and_intros <;> (unfold State.renumber; (try dsimp only); (repeat' split) <;> simp)

@[simp] theorem State.slip_leaves (q : Nat) (s : State) : (s.slip q).pending = s.pending ∧ (s.slip q).now = s.now ∧ (s.slip
    q).station = s.station ∧ (s.slip q).tracker = s.tracker := by
  and_intros <;> (unfold State.slip; (try dsimp only); (repeat' split) <;> simp)

@[simp] theorem State.trackVerdict_leaves (address : Nat) (v : Verdict) (s : State) : (s.trackVerdict address v).pending =
    s.pending ∧ (s.trackVerdict address v).now = s.now ∧ (s.trackVerdict address v).station = s.station ∧ (s.trackVerdict
    address v).tracker = s.tracker := by
  and_intros <;> (unfold State.trackVerdict; (try dsimp only); (repeat' split) <;> simp)

@[simp] theorem State.setAligned_leaves (s : State) : (s.setAligned).pending = s.pending ∧ (s.setAligned).now = s.now ∧
    (s.setAligned).station = s.station ∧ (s.setAligned).bus = s.bus ∧ (s.setAligned).cache = s.cache ∧ (s.setAligned).tracker =
    s.tracker ∧ (s.setAligned).map = s.map ∧ (s.setAligned).engine = s.engine ∧ (s.setAligned).bridge = s.bridge ∧
    (s.setAligned).dose = s.dose ∧ (s.setAligned).mon = s.mon ∧ (s.setAligned).boundary = s.boundary := by
  and_intros <;> (unfold State.setAligned; (try dsimp only); (repeat' split) <;> simp)

@[simp] theorem State.alignTo_leaves (v : Verdict) (d : Nat) (s : State) : (s.alignTo v d).1.pending = s.pending ∧ (s.alignTo v
    d).1.now = s.now ∧ (s.alignTo v d).1.station = s.station ∧ (s.alignTo v d).1.cache = s.cache ∧ (s.alignTo v d).1.tracker =
    s.tracker ∧ (s.alignTo v d).1.engine = s.engine ∧ (s.alignTo v d).1.bridge = s.bridge := by
  and_intros <;> (unfold State.alignTo; (try dsimp only); (repeat' split) <;> simp)

@[simp] theorem State.judgeStamp_leaves (address stamp : Nat) (s : State) : (s.judgeStamp address stamp).1.pending = s.pending ∧
    (s.judgeStamp address stamp).1.now = s.now ∧ (s.judgeStamp address stamp).1.station = s.station ∧ (s.judgeStamp address
    stamp).1.tracker = s.tracker := by
  and_intros <;> (unfold State.judgeStamp; (try dsimp only); (repeat' split) <;> simp)

end Sys2Proof.Machine
end

