-- ==== Sys2Proof/Laws/TrackerFrame.lean ====
section
/-! SUPPORT. What each operation of the carrier tracker leaves as it was: one lemma for each, with every block it does not touch. -/

namespace Sys2Proof.Machine

open Sys2Proof

@[simp] theorem State.formDominant_leaves (s : State) : (s.formDominant).pending = s.pending ∧ (s.formDominant).now = s.now ∧
    (s.formDominant).station = s.station ∧ (s.formDominant).clock = s.clock ∧ (s.formDominant).bus = s.bus ∧
    (s.formDominant).cache = s.cache ∧ (s.formDominant).map = s.map ∧ (s.formDominant).engine = s.engine ∧
    (s.formDominant).bridge = s.bridge ∧ (s.formDominant).dose = s.dose ∧ (s.formDominant).mon = s.mon ∧
    (s.formDominant).boundary = s.boundary := by
  and_intros <;> (unfold State.formDominant; (try dsimp only); (repeat' split) <;> simp)

@[simp] theorem State.setTable_leaves (table : List Entry) (s : State) : (s.setTable table).pending = s.pending ∧ (s.setTable
    table).now = s.now ∧ (s.setTable table).station = s.station ∧ (s.setTable table).clock = s.clock ∧ (s.setTable table).bus =
    s.bus ∧ (s.setTable table).cache = s.cache ∧ (s.setTable table).map = s.map ∧ (s.setTable table).engine = s.engine ∧
    (s.setTable table).bridge = s.bridge ∧ (s.setTable table).dose = s.dose ∧ (s.setTable table).mon = s.mon ∧ (s.setTable
    table).boundary = s.boundary := by
  and_intros <;> (unfold State.setTable; (try dsimp only); (repeat' split) <;> simp)

@[simp] theorem State.updateEntry_leaves (tag : Nat) (f : Entry → Entry) (s : State) : (s.updateEntry tag f).pending = s.pending
    ∧ (s.updateEntry tag f).now = s.now ∧ (s.updateEntry tag f).station = s.station ∧ (s.updateEntry tag f).clock = s.clock ∧
    (s.updateEntry tag f).bus = s.bus ∧ (s.updateEntry tag f).cache = s.cache ∧ (s.updateEntry tag f).map = s.map ∧
    (s.updateEntry tag f).engine = s.engine ∧ (s.updateEntry tag f).bridge = s.bridge ∧ (s.updateEntry tag f).dose = s.dose ∧
    (s.updateEntry tag f).mon = s.mon ∧ (s.updateEntry tag f).boundary = s.boundary := by
  and_intros <;> (unfold State.updateEntry; (try dsimp only); (repeat' split) <;> simp)

@[simp] theorem State.tracking_leaves (cause : Cause) (s : State) : (s.tracking cause).pending = s.pending ∧ (s.tracking
    cause).now = s.now ∧ (s.tracking cause).station = s.station ∧ (s.tracking cause).clock = s.clock ∧ (s.tracking cause).cache
    = s.cache ∧ (s.tracking cause).tracker = s.tracker ∧ (s.tracking cause).map = s.map ∧ (s.tracking cause).engine = s.engine ∧
    (s.tracking cause).bridge = s.bridge ∧ (s.tracking cause).dose = s.dose ∧ (s.tracking cause).boundary = s.boundary := by
  and_intros <;> (unfold State.tracking; (try dsimp only); (repeat' split) <;> simp)

@[simp] theorem State.releaseCarrier_leaves (key : Option Key) (s : State) : (s.releaseCarrier key).pending = s.pending ∧
    (s.releaseCarrier key).now = s.now ∧ (s.releaseCarrier key).station = s.station ∧ (s.releaseCarrier key).clock = s.clock ∧
    (s.releaseCarrier key).bus = s.bus ∧ (s.releaseCarrier key).tracker = s.tracker ∧ (s.releaseCarrier key).map = s.map ∧
    (s.releaseCarrier key).engine = s.engine ∧ (s.releaseCarrier key).bridge = s.bridge ∧ (s.releaseCarrier key).dose = s.dose ∧
    (s.releaseCarrier key).mon = s.mon ∧ (s.releaseCarrier key).boundary = s.boundary := by
  and_intros <;> (unfold State.releaseCarrier; (try dsimp only); (repeat' split) <;> simp)

@[simp] theorem State.departEntry_leaves (e : Entry) (s : State) : (s.departEntry e).pending = s.pending ∧ (s.departEntry e).now
    = s.now ∧ (s.departEntry e).station = s.station ∧ (s.departEntry e).clock = s.clock ∧ (s.departEntry e).map = s.map ∧
    (s.departEntry e).engine = s.engine ∧ (s.departEntry e).bridge = s.bridge ∧ (s.departEntry e).mon = s.mon ∧ (s.departEntry
    e).boundary = s.boundary := by
  and_intros <;> (unfold State.departEntry; (try dsimp only); (repeat' split) <;> simp)

@[simp] theorem State.depart_leaves (tag : Nat) (s : State) : (s.depart tag).pending = s.pending ∧ (s.depart tag).now = s.now ∧
    (s.depart tag).station = s.station ∧ (s.depart tag).clock = s.clock ∧ (s.depart tag).map = s.map ∧ (s.depart tag).engine =
    s.engine ∧ (s.depart tag).bridge = s.bridge ∧ (s.depart tag).mon = s.mon ∧ (s.depart tag).boundary = s.boundary := by
  and_intros <;> (unfold State.depart; (try dsimp only); (repeat' split) <;> simp)

@[simp] theorem State.forceDeparture_leaves (tag : Nat) (s : State) : (s.forceDeparture tag).pending = s.pending ∧
    (s.forceDeparture tag).now = s.now ∧ (s.forceDeparture tag).station = s.station ∧ (s.forceDeparture tag).clock = s.clock ∧
    (s.forceDeparture tag).map = s.map ∧ (s.forceDeparture tag).engine = s.engine ∧ (s.forceDeparture tag).bridge = s.bridge ∧
    (s.forceDeparture tag).boundary = s.boundary := by
  and_intros <;> (unfold State.forceDeparture; (try dsimp only); (repeat' split) <;> simp)

@[simp] theorem State.checkLimit_leaves (s : State) : (s.checkLimit).pending = s.pending ∧ (s.checkLimit).now = s.now ∧
    (s.checkLimit).station = s.station ∧ (s.checkLimit).clock = s.clock ∧ (s.checkLimit).map = s.map ∧ (s.checkLimit).engine =
    s.engine ∧ (s.checkLimit).bridge = s.bridge ∧ (s.checkLimit).boundary = s.boundary := by
  unfold State.checkLimit
  and_intros
  · exact (foldl_keeps State.pending (by intro s a; simp) _ _).trans (by simp)
  · exact (foldl_keeps State.now (by intro s a; simp) _ _).trans (by simp)
  · exact (foldl_keeps State.station (by intro s a; simp) _ _).trans (by simp)
  · exact (foldl_keeps State.clock (by intro s a; simp) _ _).trans (by simp)
  · exact (foldl_keeps State.map (by intro s a; simp) _ _).trans (by simp)
  · exact (foldl_keeps State.engine (by intro s a; simp) _ _).trans (by simp)
  · exact (foldl_keeps State.bridge (by intro s a; simp) _ _).trans (by simp)
  · exact (foldl_keeps State.boundary (by intro s a; simp) _ _).trans (by simp)

@[simp] theorem State.settleTable_leaves (s : State) : (s.settleTable).pending = s.pending ∧ (s.settleTable).now = s.now ∧
    (s.settleTable).station = s.station ∧ (s.settleTable).clock = s.clock ∧ (s.settleTable).map = s.map ∧ (s.settleTable).engine
    = s.engine ∧ (s.settleTable).bridge = s.bridge ∧ (s.settleTable).boundary = s.boundary := by
  and_intros <;> (unfold State.settleTable; (try dsimp only); (repeat' split) <;> simp)

@[simp] theorem State.queryCarrier_leaves (tag : Nat) (s : State) : (s.queryCarrier tag).pending = s.pending ∧ (s.queryCarrier
    tag).now = s.now ∧ (s.queryCarrier tag).station = s.station ∧ (s.queryCarrier tag).clock = s.clock ∧ (s.queryCarrier
    tag).cache = s.cache ∧ (s.queryCarrier tag).map = s.map ∧ (s.queryCarrier tag).engine = s.engine ∧ (s.queryCarrier
    tag).bridge = s.bridge ∧ (s.queryCarrier tag).dose = s.dose ∧ (s.queryCarrier tag).mon = s.mon ∧ (s.queryCarrier
    tag).boundary = s.boundary := by
  and_intros <;> (unfold State.queryCarrier; (repeat' split) <;> (try (rename_i h; have h := congrArg Prod.fst h; dsimp only at h; subst h)) <;> simp)

@[simp] theorem State.tickQuery_leaves (e : Entry) (s : State) : (s.tickQuery e).pending = s.pending ∧ (s.tickQuery e).now =
    s.now ∧ (s.tickQuery e).station = s.station ∧ (s.tickQuery e).clock = s.clock ∧ (s.tickQuery e).cache = s.cache ∧
    (s.tickQuery e).map = s.map ∧ (s.tickQuery e).engine = s.engine ∧ (s.tickQuery e).bridge = s.bridge ∧ (s.tickQuery e).dose =
    s.dose ∧ (s.tickQuery e).mon = s.mon ∧ (s.tickQuery e).boundary = s.boundary := by
  and_intros <;> (unfold State.tickQuery; (try dsimp only); (repeat' split) <;> simp)

@[simp] theorem State.tickQueries_leaves (s : State) : (s.tickQueries).pending = s.pending ∧ (s.tickQueries).now = s.now ∧
    (s.tickQueries).station = s.station ∧ (s.tickQueries).clock = s.clock ∧ (s.tickQueries).cache = s.cache ∧
    (s.tickQueries).map = s.map ∧ (s.tickQueries).engine = s.engine ∧ (s.tickQueries).bridge = s.bridge ∧ (s.tickQueries).dose =
    s.dose ∧ (s.tickQueries).mon = s.mon ∧ (s.tickQueries).boundary = s.boundary := by
  unfold State.tickQueries
  and_intros
  · exact (foldl_keeps State.pending (by intro s a; simp) _ _).trans (by simp)
  · exact (foldl_keeps State.now (by intro s a; simp) _ _).trans (by simp)
  · exact (foldl_keeps State.station (by intro s a; simp) _ _).trans (by simp)
  · exact (foldl_keeps State.clock (by intro s a; simp) _ _).trans (by simp)
  · exact (foldl_keeps State.cache (by intro s a; simp) _ _).trans (by simp)
  · exact (foldl_keeps State.map (by intro s a; simp) _ _).trans (by simp)
  · exact (foldl_keeps State.engine (by intro s a; simp) _ _).trans (by simp)
  · exact (foldl_keeps State.bridge (by intro s a; simp) _ _).trans (by simp)
  · exact (foldl_keeps State.dose (by intro s a; simp) _ _).trans (by simp)
  · exact (foldl_keeps State.mon (by intro s a; simp) _ _).trans (by simp)
  · exact (foldl_keeps State.boundary (by intro s a; simp) _ _).trans (by simp)

@[simp] theorem State.appendEntry_leaves (e : Entry) (s : State) : (s.appendEntry e).pending = s.pending ∧ (s.appendEntry e).now
    = s.now ∧ (s.appendEntry e).station = s.station ∧ (s.appendEntry e).clock = s.clock ∧ (s.appendEntry e).bus = s.bus ∧
    (s.appendEntry e).cache = s.cache ∧ (s.appendEntry e).map = s.map ∧ (s.appendEntry e).engine = s.engine ∧ (s.appendEntry
    e).bridge = s.bridge ∧ (s.appendEntry e).dose = s.dose ∧ (s.appendEntry e).mon = s.mon ∧ (s.appendEntry e).boundary =
    s.boundary := by
  and_intros <;> (unfold State.appendEntry; (try dsimp only); (repeat' split) <;> simp)

@[simp] theorem State.pinEntry_leaves (tag : Nat) (key : Option Key) (s : State) : (s.pinEntry tag key).pending = s.pending ∧
    (s.pinEntry tag key).now = s.now ∧ (s.pinEntry tag key).station = s.station ∧ (s.pinEntry tag key).clock = s.clock ∧
    (s.pinEntry tag key).map = s.map ∧ (s.pinEntry tag key).engine = s.engine ∧ (s.pinEntry tag key).bridge = s.bridge ∧
    (s.pinEntry tag key).dose = s.dose ∧ (s.pinEntry tag key).mon = s.mon ∧ (s.pinEntry tag key).boundary = s.boundary := by
  and_intros <;> (unfold State.pinEntry; (repeat' split) <;> (try (rename_i h; have h := congrArg Prod.fst h; dsimp only at h; subst h)) <;> simp)

@[simp] theorem State.announce_leaves (d : DoseRecord) (s : State) : (s.announce d).pending = s.pending ∧ (s.announce d).now =
    s.now ∧ (s.announce d).station = s.station ∧ (s.announce d).clock = s.clock ∧ (s.announce d).map = s.map ∧ (s.announce
    d).engine = s.engine ∧ (s.announce d).bridge = s.bridge ∧ (s.announce d).dose = s.dose ∧ (s.announce d).mon = s.mon ∧
    (s.announce d).boundary = s.boundary := by
  and_intros <;> (unfold State.announce; (try dsimp only); (repeat' split) <;> simp)

@[simp] theorem State.examineOrder_leaves (tag : Nat) (d : DoseRecord) (s : State) : (s.examineOrder tag d).pending = s.pending
    ∧ (s.examineOrder tag d).now = s.now ∧ (s.examineOrder tag d).station = s.station ∧ (s.examineOrder tag d).clock = s.clock ∧
    (s.examineOrder tag d).cache = s.cache ∧ (s.examineOrder tag d).map = s.map ∧ (s.examineOrder tag d).engine = s.engine ∧
    (s.examineOrder tag d).bridge = s.bridge ∧ (s.examineOrder tag d).dose = s.dose ∧ (s.examineOrder tag d).boundary =
    s.boundary := by
  and_intros <;> (unfold State.examineOrder; (try dsimp only); (repeat' split) <;> simp)

@[simp] theorem State.matchLength_leaves (e : Entry) (d : DoseRecord) (s : State) : (s.matchLength e d).pending = s.pending ∧
    (s.matchLength e d).now = s.now ∧ (s.matchLength e d).station = s.station ∧ (s.matchLength e d).clock = s.clock ∧
    (s.matchLength e d).cache = s.cache ∧ (s.matchLength e d).tracker = s.tracker ∧ (s.matchLength e d).map = s.map ∧
    (s.matchLength e d).engine = s.engine ∧ (s.matchLength e d).bridge = s.bridge ∧ (s.matchLength e d).boundary = s.boundary :=
    by
  and_intros <;> (unfold State.matchLength; (try dsimp only); (repeat' split) <;> simp)

@[simp] theorem State.markIdentified_leaves (tag : Nat) (s : State) : (s.markIdentified tag).pending = s.pending ∧
    (s.markIdentified tag).now = s.now ∧ (s.markIdentified tag).station = s.station ∧ (s.markIdentified tag).clock = s.clock ∧
    (s.markIdentified tag).bus = s.bus ∧ (s.markIdentified tag).cache = s.cache ∧ (s.markIdentified tag).tracker = s.tracker ∧
    (s.markIdentified tag).map = s.map ∧ (s.markIdentified tag).engine = s.engine ∧ (s.markIdentified tag).bridge = s.bridge ∧
    (s.markIdentified tag).mon = s.mon ∧ (s.markIdentified tag).boundary = s.boundary := by
  and_intros <;> (unfold State.markIdentified; (try dsimp only); (repeat' split) <;> simp)

@[simp] theorem State.fixTargetOf_leaves (tag : Nat) (s : State) : (s.fixTargetOf tag).pending = s.pending ∧ (s.fixTargetOf
    tag).now = s.now ∧ (s.fixTargetOf tag).station = s.station ∧ (s.fixTargetOf tag).clock = s.clock ∧ (s.fixTargetOf tag).bus =
    s.bus ∧ (s.fixTargetOf tag).cache = s.cache ∧ (s.fixTargetOf tag).tracker = s.tracker ∧ (s.fixTargetOf tag).map = s.map ∧
    (s.fixTargetOf tag).engine = s.engine ∧ (s.fixTargetOf tag).bridge = s.bridge ∧ (s.fixTargetOf tag).mon = s.mon ∧
    (s.fixTargetOf tag).boundary = s.boundary := by
  and_intros <;> (unfold State.fixTargetOf; (try dsimp only); (repeat' split) <;> simp)

@[simp] theorem State.identify_leaves (examine : Bool) (e : Entry) (d : DoseRecord) (s : State) : (s.identify examine e
    d).pending = s.pending ∧ (s.identify examine e d).now = s.now ∧ (s.identify examine e d).station = s.station ∧ (s.identify
    examine e d).clock = s.clock ∧ (s.identify examine e d).map = s.map ∧ (s.identify examine e d).engine = s.engine ∧
    (s.identify examine e d).bridge = s.bridge ∧ (s.identify examine e d).boundary = s.boundary := by
  and_intros <;> (unfold State.identify; (try dsimp only); (repeat' split) <;> simp)

@[simp] theorem State.takeAdmission_leaves (d : DoseRecord) (s : State) : (s.takeAdmission d).pending = s.pending ∧ (s.takeAdmission d).now = s.now ∧
    (s.takeAdmission d).station = s.station ∧ (s.takeAdmission d).clock = s.clock ∧ (s.takeAdmission d).map = s.map ∧ (s.takeAdmission d).engine = s.engine ∧
    (s.takeAdmission d).bridge = s.bridge ∧ (s.takeAdmission d).boundary = s.boundary := by
  and_intros <;> (unfold State.takeAdmission; (try dsimp only); (repeat' split) <;> simp)

@[simp] theorem State.appendHandover_leaves (d : DoseRecord) (s : State) : (s.appendHandover d).pending = s.pending ∧
    (s.appendHandover d).now = s.now ∧ (s.appendHandover d).station = s.station ∧ (s.appendHandover d).clock = s.clock ∧
    (s.appendHandover d).map = s.map ∧ (s.appendHandover d).engine = s.engine ∧ (s.appendHandover d).bridge = s.bridge ∧
    (s.appendHandover d).dose = s.dose ∧ (s.appendHandover d).boundary = s.boundary := by
  and_intros <;> (unfold State.appendHandover; (try dsimp only); (repeat' split) <;> simp)

@[simp] theorem State.takeRecord_leaves (d : DoseRecord) (s : State) : (s.takeRecord d).pending = s.pending ∧ (s.takeRecord
    d).now = s.now ∧ (s.takeRecord d).station = s.station ∧ (s.takeRecord d).clock = s.clock ∧ (s.takeRecord d).map = s.map ∧
    (s.takeRecord d).engine = s.engine ∧ (s.takeRecord d).bridge = s.bridge ∧ (s.takeRecord d).boundary = s.boundary := by
  and_intros <;> (unfold State.takeRecord; (try dsimp only); (repeat' split) <;> simp)

@[simp] theorem State.takeAdmitFrame_leaves (f : RxFrame) (s : State) : (s.takeAdmitFrame f).pending = s.pending ∧
    (s.takeAdmitFrame f).now = s.now ∧ (s.takeAdmitFrame f).station = s.station ∧ (s.takeAdmitFrame f).clock = s.clock ∧
    (s.takeAdmitFrame f).map = s.map ∧ (s.takeAdmitFrame f).engine = s.engine ∧ (s.takeAdmitFrame f).bridge = s.bridge ∧
    (s.takeAdmitFrame f).boundary = s.boundary := by
  and_intros <;> (unfold State.takeAdmitFrame; (try dsimp only); (repeat' split) <;> simp)

@[simp] theorem State.takeHandoverFrame_leaves (f : RxFrame) (s : State) : (s.takeHandoverFrame f).pending = s.pending ∧
    (s.takeHandoverFrame f).now = s.now ∧ (s.takeHandoverFrame f).station = s.station ∧ (s.takeHandoverFrame f).clock = s.clock
    ∧ (s.takeHandoverFrame f).map = s.map ∧ (s.takeHandoverFrame f).engine = s.engine ∧ (s.takeHandoverFrame f).bridge =
    s.bridge ∧ (s.takeHandoverFrame f).boundary = s.boundary := by
  and_intros <;> (unfold State.takeHandoverFrame; (try dsimp only); (repeat' split) <;> simp)

@[simp] theorem State.takeQueryFrame_leaves (f : RxFrame) (s : State) : (s.takeQueryFrame f).pending = s.pending ∧
    (s.takeQueryFrame f).now = s.now ∧ (s.takeQueryFrame f).station = s.station ∧ (s.takeQueryFrame f).clock = s.clock ∧
    (s.takeQueryFrame f).cache = s.cache ∧ (s.takeQueryFrame f).tracker = s.tracker ∧ (s.takeQueryFrame f).map = s.map ∧
    (s.takeQueryFrame f).engine = s.engine ∧ (s.takeQueryFrame f).bridge = s.bridge ∧ (s.takeQueryFrame f).dose = s.dose ∧
    (s.takeQueryFrame f).mon = s.mon ∧ (s.takeQueryFrame f).boundary = s.boundary := by
  and_intros <;> (unfold State.takeQueryFrame; (try dsimp only); (repeat' split) <;> simp)

@[simp] theorem State.arriveUnknown_leaves (s : State) : (s.arriveUnknown).pending = s.pending ∧ (s.arriveUnknown).now = s.now ∧
    (s.arriveUnknown).station = s.station ∧ (s.arriveUnknown).clock = s.clock ∧ (s.arriveUnknown).map = s.map ∧
    (s.arriveUnknown).engine = s.engine ∧ (s.arriveUnknown).bridge = s.bridge ∧ (s.arriveUnknown).boundary = s.boundary := by
  and_intros <;> (unfold State.arriveUnknown; (try dsimp only); (repeat' split) <;> simp)

@[simp] theorem State.arrive_leaves (s : State) : (s.arrive).pending = s.pending ∧ (s.arrive).now = s.now ∧ (s.arrive).station =
    s.station ∧ (s.arrive).clock = s.clock ∧ (s.arrive).map = s.map ∧ (s.arrive).engine = s.engine ∧ (s.arrive).bridge =
    s.bridge ∧ (s.arrive).boundary = s.boundary := by
  and_intros <;> (unfold State.arrive; (try dsimp only); (repeat' split) <;> simp)

@[simp] theorem State.entryRise_leaves (s : State) : (s.entryRise).pending = s.pending ∧ (s.entryRise).now = s.now ∧
    (s.entryRise).station = s.station ∧ (s.entryRise).clock = s.clock ∧ (s.entryRise).map = s.map ∧ (s.entryRise).engine =
    s.engine ∧ (s.entryRise).bridge = s.bridge ∧ (s.entryRise).boundary = s.boundary := by
  and_intros <;> (unfold State.entryRise; (try dsimp only); (repeat' split) <;> simp)

@[simp] theorem State.checkLength_leaves (e : Entry) (s : State) : (s.checkLength e).pending = s.pending ∧ (s.checkLength e).now
    = s.now ∧ (s.checkLength e).station = s.station ∧ (s.checkLength e).clock = s.clock ∧ (s.checkLength e).cache = s.cache ∧
    (s.checkLength e).tracker = s.tracker ∧ (s.checkLength e).map = s.map ∧ (s.checkLength e).engine = s.engine ∧ (s.checkLength
    e).bridge = s.bridge ∧ (s.checkLength e).boundary = s.boundary := by
  and_intros <;> (unfold State.checkLength; (try dsimp only); (repeat' split) <;> simp)

@[simp] theorem State.entryFall_leaves (s : State) : (s.entryFall).pending = s.pending ∧ (s.entryFall).now = s.now ∧
    (s.entryFall).station = s.station ∧ (s.entryFall).clock = s.clock ∧ (s.entryFall).map = s.map ∧ (s.entryFall).engine =
    s.engine ∧ (s.entryFall).bridge = s.bridge ∧ (s.entryFall).boundary = s.boundary := by
  and_intros <;> (unfold State.entryFall; (try dsimp only); (repeat' split) <;> simp)

@[simp] theorem State.countForward_leaves (s : State) : (s.countForward).pending = s.pending ∧ (s.countForward).now = s.now ∧
    (s.countForward).station = s.station ∧ (s.countForward).clock = s.clock ∧ (s.countForward).map = s.map ∧
    (s.countForward).engine = s.engine ∧ (s.countForward).bridge = s.bridge ∧ (s.countForward).boundary = s.boundary := by
  and_intros <;> (unfold State.countForward; (try dsimp only); (repeat' split) <;> simp)

@[simp] theorem State.countBackward_leaves (s : State) : (s.countBackward).pending = s.pending ∧ (s.countBackward).now = s.now ∧
    (s.countBackward).station = s.station ∧ (s.countBackward).clock = s.clock ∧ (s.countBackward).cache = s.cache ∧
    (s.countBackward).map = s.map ∧ (s.countBackward).engine = s.engine ∧ (s.countBackward).bridge = s.bridge ∧
    (s.countBackward).boundary = s.boundary := by
  and_intros <;> (unfold State.countBackward; (try dsimp only); (repeat' split) <;> simp)

@[simp] theorem State.exitMissed_leaves (tag : Nat) (s : State) : (s.exitMissed tag).pending = s.pending ∧ (s.exitMissed
    tag).now = s.now ∧ (s.exitMissed tag).station = s.station ∧ (s.exitMissed tag).clock = s.clock ∧ (s.exitMissed tag).map =
    s.map ∧ (s.exitMissed tag).engine = s.engine ∧ (s.exitMissed tag).bridge = s.bridge ∧ (s.exitMissed tag).boundary =
    s.boundary := by
  and_intros <;> (unfold State.exitMissed; (try dsimp only); (repeat' split) <;> simp)

@[simp] theorem State.departMissed_leaves (s : State) : (s.departMissed).pending = s.pending ∧ (s.departMissed).now = s.now ∧
    (s.departMissed).station = s.station ∧ (s.departMissed).clock = s.clock ∧ (s.departMissed).map = s.map ∧
    (s.departMissed).engine = s.engine ∧ (s.departMissed).bridge = s.bridge ∧ (s.departMissed).boundary = s.boundary := by
  unfold State.departMissed
  and_intros
  · exact (foldl_keeps State.pending (by intro s a; simp) _ _).trans (by simp)
  · exact (foldl_keeps State.now (by intro s a; simp) _ _).trans (by simp)
  · exact (foldl_keeps State.station (by intro s a; simp) _ _).trans (by simp)
  · exact (foldl_keeps State.clock (by intro s a; simp) _ _).trans (by simp)
  · exact (foldl_keeps State.map (by intro s a; simp) _ _).trans (by simp)
  · exact (foldl_keeps State.engine (by intro s a; simp) _ _).trans (by simp)
  · exact (foldl_keeps State.bridge (by intro s a; simp) _ _).trans (by simp)
  · exact (foldl_keeps State.boundary (by intro s a; simp) _ _).trans (by simp)

@[simp] theorem State.correctExit_leaves (e : Entry) (s : State) : (s.correctExit e).pending = s.pending ∧ (s.correctExit e).now
    = s.now ∧ (s.correctExit e).station = s.station ∧ (s.correctExit e).clock = s.clock ∧ (s.correctExit e).cache = s.cache ∧
    (s.correctExit e).map = s.map ∧ (s.correctExit e).engine = s.engine ∧ (s.correctExit e).bridge = s.bridge ∧ (s.correctExit
    e).boundary = s.boundary := by
  have h (l : List Nat) (s : State) : (l.foldl (fun s tag => State.flagTag tag .trackError s) s).pending = s.pending ∧ (l.foldl (fun s tag => State.flagTag
      tag .trackError s) s).now = s.now ∧ (l.foldl (fun s tag => State.flagTag tag .trackError s) s).station = s.station
      ∧ (l.foldl (fun s tag => State.flagTag tag .trackError s) s).clock = s.clock ∧ (l.foldl (fun s tag =>
      State.flagTag tag .trackError s) s).cache = s.cache ∧ (l.foldl (fun s tag => State.flagTag tag .trackError s)
      s).map = s.map ∧ (l.foldl (fun s tag => State.flagTag tag .trackError s) s).engine = s.engine ∧ (l.foldl (fun s
      tag => State.flagTag tag .trackError s) s).bridge = s.bridge ∧ (l.foldl (fun s tag => State.flagTag tag
      .trackError s) s).boundary = s.boundary := by
    and_intros
    · exact foldl_keeps State.pending (by intro s a; simp) _ _
    · exact foldl_keeps State.now (by intro s a; simp) _ _
    · exact foldl_keeps State.station (by intro s a; simp) _ _
    · exact foldl_keeps State.clock (by intro s a; simp) _ _
    · exact foldl_keeps State.cache (by intro s a; simp) _ _
    · exact foldl_keeps State.map (by intro s a; simp) _ _
    · exact foldl_keeps State.engine (by intro s a; simp) _ _
    · exact foldl_keeps State.bridge (by intro s a; simp) _ _
    · exact foldl_keeps State.boundary (by intro s a; simp) _ _
  unfold State.correctExit
  split
  · simp [h]
  · simp

@[simp] theorem State.exitRise_leaves (s : State) : (s.exitRise).pending = s.pending ∧ (s.exitRise).now = s.now ∧
    (s.exitRise).station = s.station ∧ (s.exitRise).clock = s.clock ∧ (s.exitRise).map = s.map ∧ (s.exitRise).engine = s.engine
    ∧ (s.exitRise).bridge = s.bridge ∧ (s.exitRise).boundary = s.boundary := by
  and_intros <;> (unfold State.exitRise; (try dsimp only); (repeat' split) <;> simp)

@[simp] theorem State.exitFall_leaves (s : State) : (s.exitFall).pending = s.pending ∧ (s.exitFall).now = s.now ∧
    (s.exitFall).station = s.station ∧ (s.exitFall).clock = s.clock ∧ (s.exitFall).map = s.map ∧ (s.exitFall).engine = s.engine
    ∧ (s.exitFall).bridge = s.bridge ∧ (s.exitFall).boundary = s.boundary := by
  and_intros <;> (unfold State.exitFall; (try dsimp only); (repeat' split) <;> simp)

@[simp] theorem State.trackerFrame_leaves (s : State) : (s.trackerFrame).pending = s.pending ∧ (s.trackerFrame).now = s.now ∧
    (s.trackerFrame).station = s.station ∧ (s.trackerFrame).clock = s.clock ∧ (s.trackerFrame).cache = s.cache ∧
    (s.trackerFrame).map = s.map ∧ (s.trackerFrame).engine = s.engine ∧ (s.trackerFrame).bridge = s.bridge ∧
    (s.trackerFrame).dose = s.dose ∧ (s.trackerFrame).mon = s.mon := by
  and_intros <;> (unfold State.trackerFrame; (try dsimp only); (repeat' split) <;> simp)

@[simp] theorem State.trackerBoundary_leaves (s : State) : (s.trackerBoundary).pending = s.pending ∧ (s.trackerBoundary).now =
    s.now ∧ (s.trackerBoundary).station = s.station ∧ (s.trackerBoundary).clock = s.clock ∧ (s.trackerBoundary).cache = s.cache
    ∧ (s.trackerBoundary).map = s.map ∧ (s.trackerBoundary).bridge = s.bridge ∧ (s.trackerBoundary).mon = s.mon := by
  and_intros <;> (unfold State.trackerBoundary; (try dsimp only); (repeat' split) <;> simp)

end Sys2Proof.Machine
end

