-- ==== Sys2Proof/Laws/StationFrame.lean ====
section
/-! SUPPORT. What each operation of the station controller leaves as it was: one lemma for each, with every block it does not touch. -/

namespace Sys2Proof.Machine

open Sys2Proof

@[simp] theorem State.leaveFlight_leaves (s : State) : (s.leaveFlight).pending = s.pending ∧ (s.leaveFlight).now = s.now ∧
    (s.leaveFlight).station = s.station ∧ (s.leaveFlight).clock = s.clock ∧ (s.leaveFlight).cache = s.cache ∧
    (s.leaveFlight).tracker = s.tracker ∧ (s.leaveFlight).map = s.map ∧ (s.leaveFlight).engine = s.engine ∧
    (s.leaveFlight).bridge = s.bridge ∧ (s.leaveFlight).dose = s.dose ∧ (s.leaveFlight).boundary = s.boundary := by
  and_intros <;> (unfold State.leaveFlight; (try dsimp only); (repeat' split) <;> simp)

@[simp] theorem State.busLeaveJoined_leaves (s : State) : (s.busLeaveJoined).pending = s.pending ∧ (s.busLeaveJoined).now =
    s.now ∧ (s.busLeaveJoined).station = s.station ∧ (s.busLeaveJoined).clock = s.clock ∧ (s.busLeaveJoined).cache = s.cache ∧
    (s.busLeaveJoined).tracker = s.tracker ∧ (s.busLeaveJoined).map = s.map ∧ (s.busLeaveJoined).engine = s.engine ∧
    (s.busLeaveJoined).bridge = s.bridge ∧ (s.busLeaveJoined).dose = s.dose ∧ (s.busLeaveJoined).boundary = s.boundary := by
  and_intros <;> (unfold State.busLeaveJoined; (try dsimp only); (repeat' split) <;> simp)

@[simp] theorem State.setStanding_leaves (st : StationState) (join : Option Nat) (s : State) : (s.setStanding st join).pending =
    s.pending ∧ (s.setStanding st join).now = s.now ∧ (s.setStanding st join).clock = s.clock ∧ (s.setStanding st join).bus =
    s.bus ∧ (s.setStanding st join).cache = s.cache ∧ (s.setStanding st join).tracker = s.tracker ∧ (s.setStanding st join).map
    = s.map ∧ (s.setStanding st join).engine = s.engine ∧ (s.setStanding st join).bridge = s.bridge ∧ (s.setStanding st
    join).dose = s.dose ∧ (s.setStanding st join).mon = s.mon ∧ (s.setStanding st join).boundary = s.boundary := by
  and_intros <;> (unfold State.setStanding; (try dsimp only); (repeat' split) <;> simp)

@[simp] theorem State.enliven_leaves (s : State) : (s.enliven).pending = s.pending ∧ (s.enliven).now = s.now ∧
    (s.enliven).station = s.station ∧ (s.enliven).clock = s.clock ∧ (s.enliven).bus = s.bus ∧ (s.enliven).cache = s.cache ∧
    (s.enliven).tracker = s.tracker ∧ (s.enliven).engine = s.engine ∧ (s.enliven).bridge = s.bridge ∧ (s.enliven).dose = s.dose
    ∧ (s.enliven).mon = s.mon ∧ (s.enliven).boundary = s.boundary := by
  and_intros <;> (unfold State.enliven; (try dsimp only); (repeat' split) <;> simp)

@[simp] theorem State.clearAligned_leaves (s : State) : (s.clearAligned).pending = s.pending ∧ (s.clearAligned).now = s.now ∧
    (s.clearAligned).station = s.station ∧ (s.clearAligned).bus = s.bus ∧ (s.clearAligned).cache = s.cache ∧
    (s.clearAligned).tracker = s.tracker ∧ (s.clearAligned).map = s.map ∧ (s.clearAligned).engine = s.engine ∧
    (s.clearAligned).bridge = s.bridge ∧ (s.clearAligned).dose = s.dose ∧ (s.clearAligned).mon = s.mon ∧
    (s.clearAligned).boundary = s.boundary := by
  and_intros <;> (unfold State.clearAligned; (try dsimp only); (repeat' split) <;> simp)

@[simp] theorem State.passSelfTest_leaves (s : State) : (s.passSelfTest).pending = s.pending ∧ (s.passSelfTest).now = s.now ∧
    (s.passSelfTest).tracker = s.tracker ∧ (s.passSelfTest).dose = s.dose ∧ (s.passSelfTest).boundary = s.boundary := by
  and_intros <;> (unfold State.passSelfTest; (try dsimp only); (repeat' split) <;> simp)

@[simp] theorem State.releaseToListening_leaves (s : State) : (s.releaseToListening).pending = s.pending ∧
    (s.releaseToListening).now = s.now ∧ (s.releaseToListening).tracker = s.tracker ∧ (s.releaseToListening).bridge = s.bridge ∧
    (s.releaseToListening).dose = s.dose ∧ (s.releaseToListening).boundary = s.boundary := by
  and_intros <;> (unfold State.releaseToListening; (try dsimp only); (repeat' split) <;> simp)

@[simp] theorem State.dropClaims_leaves (s : State) : (s.dropClaims).pending = s.pending ∧ (s.dropClaims).now = s.now ∧
    (s.dropClaims).station = s.station ∧ (s.dropClaims).clock = s.clock ∧ (s.dropClaims).tracker = s.tracker ∧
    (s.dropClaims).dose = s.dose ∧ (s.dropClaims).boundary = s.boundary := by
  and_intros <;> (unfold State.dropClaims; (try dsimp only); (repeat' split) <;> simp)

@[simp] theorem State.loseJoined_leaves (s : State) : (s.loseJoined).pending = s.pending ∧ (s.loseJoined).now = s.now ∧
    (s.loseJoined).tracker = s.tracker ∧ (s.loseJoined).dose = s.dose ∧ (s.loseJoined).boundary = s.boundary := by
  and_intros <;> (unfold State.loseJoined; (try dsimp only); (repeat' split) <;> simp)

@[simp] theorem State.enterJoined_leaves (s : State) : (s.enterJoined).pending = s.pending ∧ (s.enterJoined).now = s.now ∧
    (s.enterJoined).tracker = s.tracker ∧ (s.enterJoined).bridge = s.bridge ∧ (s.enterJoined).dose = s.dose ∧
    (s.enterJoined).boundary = s.boundary := by
  and_intros <;> (unfold State.enterJoined; (try dsimp only); (repeat' split) <;> simp)

@[simp] theorem State.isolateBlocks_leaves (s : State) : (s.isolateBlocks).pending = s.pending ∧ (s.isolateBlocks).now = s.now ∧
    (s.isolateBlocks).clock = s.clock ∧ (s.isolateBlocks).tracker = s.tracker ∧ (s.isolateBlocks).dose = s.dose ∧
    (s.isolateBlocks).boundary = s.boundary := by
  and_intros <;> (unfold State.isolateBlocks; (try dsimp only); (repeat' split) <;> simp)

@[simp] theorem State.enterIsolated_leaves (s : State) : (s.enterIsolated).pending = s.pending ∧ (s.enterIsolated).now = s.now ∧
    (s.enterIsolated).clock = s.clock ∧ (s.enterIsolated).tracker = s.tracker ∧ (s.enterIsolated).dose = s.dose ∧
    (s.enterIsolated).boundary = s.boundary := by
  and_intros <;> (unfold State.enterIsolated; (try dsimp only); (repeat' split) <;> simp)

@[simp] theorem State.failSelfTest_leaves (s : State) : (s.failSelfTest).pending = s.pending ∧ (s.failSelfTest).now = s.now ∧
    (s.failSelfTest).clock = s.clock ∧ (s.failSelfTest).tracker = s.tracker ∧ (s.failSelfTest).dose = s.dose ∧
    (s.failSelfTest).boundary = s.boundary := by
  and_intros <;> (unfold State.failSelfTest; (try dsimp only); (repeat' split) <;> simp)

@[simp] theorem State.askIsolated_leaves (s : State) : (s.askIsolated).pending = s.pending ∧ (s.askIsolated).now = s.now ∧
    (s.askIsolated).clock = s.clock ∧ (s.askIsolated).tracker = s.tracker ∧ (s.askIsolated).dose = s.dose ∧
    (s.askIsolated).boundary = s.boundary := by
  and_intros <;> (unfold State.askIsolated; (try dsimp only); (repeat' split) <;> simp)

@[simp] theorem State.clash_leaves (kind : Kind) (declareFirst : Bool) (s : State) : (s.clash kind declareFirst).pending =
    s.pending ∧ (s.clash kind declareFirst).now = s.now ∧ (s.clash kind declareFirst).clock = s.clock ∧ (s.clash kind
    declareFirst).tracker = s.tracker ∧ (s.clash kind declareFirst).dose = s.dose ∧ (s.clash kind declareFirst).boundary =
    s.boundary := by
  and_intros <;> (unfold State.clash; (try dsimp only); (repeat' split) <;> simp)

@[simp] theorem State.declareLockout_leaves (s : State) : (s.declareLockout).pending = s.pending ∧ (s.declareLockout).now =
    s.now ∧ (s.declareLockout).station = s.station ∧ (s.declareLockout).clock = s.clock ∧ (s.declareLockout).cache = s.cache ∧
    (s.declareLockout).tracker = s.tracker ∧ (s.declareLockout).map = s.map ∧ (s.declareLockout).engine = s.engine ∧
    (s.declareLockout).bridge = s.bridge ∧ (s.declareLockout).dose = s.dose ∧ (s.declareLockout).boundary = s.boundary := by
  and_intros <;> (unfold State.declareLockout; (try dsimp only); (repeat' split) <;> simp)

@[simp] theorem State.tellLockout_leaves (df : Bool) (s : State) : (s.tellLockout df).pending = s.pending ∧ (s.tellLockout df).now =
    s.now ∧ (s.tellLockout df).clock = s.clock ∧ (s.tellLockout df).cache = s.cache ∧ (s.tellLockout df).tracker = s.tracker ∧
    (s.tellLockout df).map = s.map ∧ (s.tellLockout df).engine = s.engine ∧ (s.tellLockout df).bridge = s.bridge ∧
    (s.tellLockout df).dose = s.dose ∧ (s.tellLockout df).boundary = s.boundary := by
  and_intros <;> (unfold State.tellLockout; (try dsimp only); (repeat' split) <;> simp)

@[simp] theorem State.enterLockout_leaves (df : Bool) (s : State) : (s.enterLockout df).pending = s.pending ∧ (s.enterLockout df).now =
    s.now ∧ (s.enterLockout df).clock = s.clock ∧ (s.enterLockout df).tracker = s.tracker ∧ (s.enterLockout df).dose = s.dose ∧
    (s.enterLockout df).boundary = s.boundary := by
  and_intros <;> (unfold State.enterLockout; (try dsimp only); (repeat' split) <;> simp)

@[simp] theorem State.askLockout_leaves (declareFirst : Bool) (s : State) : (s.askLockout declareFirst).pending = s.pending ∧
    (s.askLockout declareFirst).now = s.now ∧ (s.askLockout declareFirst).clock = s.clock ∧ (s.askLockout declareFirst).tracker
    = s.tracker ∧ (s.askLockout declareFirst).dose = s.dose ∧ (s.askLockout declareFirst).boundary = s.boundary := by
  and_intros <;> (unfold State.askLockout; (try dsimp only); (repeat' split) <;> simp)

@[simp] theorem State.release_leaves (s : State) : (s.release).pending = s.pending ∧ (s.release).now = s.now ∧
    (s.release).tracker = s.tracker ∧ (s.release).dose = s.dose ∧ (s.release).boundary = s.boundary := by
  and_intros <;> (unfold State.release; (try dsimp only); (repeat' split) <;> simp)

@[simp] theorem State.takeReleaseFrame_leaves (s : State) : (s.takeReleaseFrame).pending = s.pending ∧ (s.takeReleaseFrame).now
    = s.now ∧ (s.takeReleaseFrame).tracker = s.tracker ∧ (s.takeReleaseFrame).dose = s.dose ∧ (s.takeReleaseFrame).boundary =
    s.boundary := by
  and_intros <;> (unfold State.takeReleaseFrame; (try dsimp only); (repeat' split) <;> simp)

@[simp] theorem State.lockGained_leaves (s : State) : (s.lockGained).pending = s.pending ∧ (s.lockGained).now = s.now ∧
    (s.lockGained).clock = s.clock ∧ (s.lockGained).bus = s.bus ∧ (s.lockGained).cache = s.cache ∧ (s.lockGained).tracker =
    s.tracker ∧ (s.lockGained).map = s.map ∧ (s.lockGained).engine = s.engine ∧ (s.lockGained).bridge = s.bridge ∧
    (s.lockGained).dose = s.dose ∧ (s.lockGained).mon = s.mon ∧ (s.lockGained).boundary = s.boundary := by
  and_intros <;> (unfold State.lockGained; (try dsimp only); (repeat' split) <;> simp)

@[simp] theorem State.lockLost_leaves (s : State) : (s.lockLost).pending = s.pending ∧ (s.lockLost).now = s.now ∧
    (s.lockLost).clock = s.clock ∧ (s.lockLost).bus = s.bus ∧ (s.lockLost).cache = s.cache ∧ (s.lockLost).tracker = s.tracker ∧
    (s.lockLost).map = s.map ∧ (s.lockLost).engine = s.engine ∧ (s.lockLost).bridge = s.bridge ∧ (s.lockLost).dose = s.dose ∧
    (s.lockLost).mon = s.mon ∧ (s.lockLost).boundary = s.boundary := by
  and_intros <;> (unfold State.lockLost; (try dsimp only); (repeat' split) <;> simp)

@[simp] theorem State.refLost_leaves (s : State) : (s.refLost).pending = s.pending ∧ (s.refLost).now = s.now ∧
    (s.refLost).tracker = s.tracker ∧ (s.refLost).dose = s.dose ∧ (s.refLost).boundary = s.boundary := by
  and_intros <;> (unfold State.refLost; (try dsimp only); (repeat' split) <;> simp)

@[simp] theorem State.selfFault_leaves (s : State) : (s.selfFault).pending = s.pending ∧ (s.selfFault).now = s.now ∧
    (s.selfFault).clock = s.clock ∧ (s.selfFault).bus = s.bus ∧ (s.selfFault).cache = s.cache ∧ (s.selfFault).tracker =
    s.tracker ∧ (s.selfFault).map = s.map ∧ (s.selfFault).engine = s.engine ∧ (s.selfFault).bridge = s.bridge ∧
    (s.selfFault).dose = s.dose ∧ (s.selfFault).mon = s.mon ∧ (s.selfFault).boundary = s.boundary := by
  and_intros <;> (unfold State.selfFault; (try dsimp only); (repeat' split) <;> simp)

@[simp] theorem State.takeTest_leaves (f : RxFrame) (s : State) : (s.takeTest f).pending = s.pending ∧ (s.takeTest f).now =
    s.now ∧ (s.takeTest f).clock = s.clock ∧ (s.takeTest f).bus = s.bus ∧ (s.takeTest f).cache = s.cache ∧ (s.takeTest
    f).tracker = s.tracker ∧ (s.takeTest f).map = s.map ∧ (s.takeTest f).engine = s.engine ∧ (s.takeTest f).bridge = s.bridge ∧
    (s.takeTest f).dose = s.dose ∧ (s.takeTest f).mon = s.mon ∧ (s.takeTest f).boundary = s.boundary := by
  and_intros <;> (unfold State.takeTest; (try dsimp only); (repeat' split) <;> simp)

@[simp] theorem State.selfTestFrame_leaves (s : State) : (s.selfTestFrame).pending = s.pending ∧ (s.selfTestFrame).now = s.now ∧
    (s.selfTestFrame).tracker = s.tracker ∧ (s.selfTestFrame).dose = s.dose ∧ (s.selfTestFrame).boundary = s.boundary := by
  and_intros <;> (unfold State.selfTestFrame; (try dsimp only); (repeat' split) <;> simp)

@[simp] theorem State.joinFrame_leaves (s : State) : (s.joinFrame).pending = s.pending ∧ (s.joinFrame).now = s.now ∧
    (s.joinFrame).tracker = s.tracker ∧ (s.joinFrame).bridge = s.bridge ∧ (s.joinFrame).dose = s.dose ∧ (s.joinFrame).boundary =
    s.boundary := by
  and_intros <;> (unfold State.joinFrame; (try dsimp only); (repeat' split) <;> simp)

@[simp] theorem State.stationFrame_leaves (s : State) : (s.stationFrame).pending = s.pending ∧ (s.stationFrame).now = s.now ∧
    (s.stationFrame).tracker = s.tracker ∧ (s.stationFrame).dose = s.dose ∧ (s.stationFrame).boundary = s.boundary := by
  and_intros <;> (unfold State.stationFrame; (try dsimp only); (repeat' split) <;> simp)

@[simp] theorem State.submitTest_leaves (n : Nat) (s : State) : (s.submitTest n).pending = s.pending ∧ (s.submitTest n).now =
    s.now ∧ (s.submitTest n).station = s.station ∧ (s.submitTest n).clock = s.clock ∧ (s.submitTest n).cache = s.cache ∧
    (s.submitTest n).tracker = s.tracker ∧ (s.submitTest n).map = s.map ∧ (s.submitTest n).engine = s.engine ∧ (s.submitTest
    n).bridge = s.bridge ∧ (s.submitTest n).dose = s.dose ∧ (s.submitTest n).mon = s.mon ∧ (s.submitTest n).boundary =
    s.boundary := by
  and_intros <;> (unfold State.submitTest; (try dsimp only); (repeat' split) <;> simp)

@[simp] theorem State.startSelfTest_leaves (c : Cfg) (s : State) : (s.startSelfTest c).pending = s.pending ∧ (s.startSelfTest
    c).now = s.now ∧ (s.startSelfTest c).cache = s.cache ∧ (s.startSelfTest c).tracker = s.tracker ∧ (s.startSelfTest c).map =
    s.map ∧ (s.startSelfTest c).engine = s.engine ∧ (s.startSelfTest c).bridge = s.bridge ∧ (s.startSelfTest c).dose = s.dose ∧
    (s.startSelfTest c).boundary = s.boundary := by
  and_intros <;> (unfold State.startSelfTest; (try dsimp only); (repeat' split) <;> simp)

@[simp] theorem State.configFault_leaves (s : State) : (s.configFault).pending = s.pending ∧ (s.configFault).now = s.now ∧
    (s.configFault).clock = s.clock ∧ (s.configFault).cache = s.cache ∧ (s.configFault).tracker = s.tracker ∧
    (s.configFault).map = s.map ∧ (s.configFault).engine = s.engine ∧ (s.configFault).bridge = s.bridge ∧ (s.configFault).dose =
    s.dose ∧ (s.configFault).boundary = s.boundary := by
  and_intros <;> (unfold State.configFault; (try dsimp only); (repeat' split) <;> simp)

@[simp] theorem State.takeImage_leaves (image : List Byte) (s : State) : (s.takeImage image).pending = s.pending ∧ (s.takeImage
    image).now = s.now ∧ (s.takeImage image).cache = s.cache ∧ (s.takeImage image).tracker = s.tracker ∧ (s.takeImage image).map
    = s.map ∧ (s.takeImage image).engine = s.engine ∧ (s.takeImage image).bridge = s.bridge ∧ (s.takeImage image).dose = s.dose
    ∧ (s.takeImage image).boundary = s.boundary := by
  and_intros <;> (unfold State.takeImage; (try dsimp only); (repeat' split) <;> simp)

@[simp] theorem State.releaseReset_leaves (s : State) : (s.releaseReset).pending = s.pending ∧ (s.releaseReset).now = s.now ∧
    (s.releaseReset).clock = s.clock ∧ (s.releaseReset).bus = s.bus ∧ (s.releaseReset).cache = s.cache ∧
    (s.releaseReset).tracker = s.tracker ∧ (s.releaseReset).map = s.map ∧ (s.releaseReset).engine = s.engine ∧
    (s.releaseReset).bridge = s.bridge ∧ (s.releaseReset).dose = s.dose ∧ (s.releaseReset).mon = s.mon ∧
    (s.releaseReset).boundary = s.boundary := by
  and_intros <;> (unfold State.releaseReset; (try dsimp only); (repeat' split) <;> simp)

end Sys2Proof.Machine
end

