-- ==== Sys2Proof/Laws/BridgeFrame.lean ====
section
/-! SUPPORT. What each operation of the recipe frames and the bridge link leaves as it was: one lemma for each, with every block it does not touch. -/

namespace Sys2Proof.Machine

open Sys2Proof

@[simp] theorem State.clearPending_leaves (k : Key) (s : State) : (s.clearPending k).pending = s.pending ∧ (s.clearPending
    k).now = s.now ∧ (s.clearPending k).station = s.station ∧ (s.clearPending k).clock = s.clock ∧ (s.clearPending k).bus =
    s.bus ∧ (s.clearPending k).cache = s.cache ∧ (s.clearPending k).map = s.map ∧ (s.clearPending k).engine = s.engine ∧
    (s.clearPending k).bridge = s.bridge ∧ (s.clearPending k).dose = s.dose ∧ (s.clearPending k).mon = s.mon ∧ (s.clearPending
    k).boundary = s.boundary := by
  and_intros <;> (unfold State.clearPending; (try dsimp only); (repeat' split) <;> simp)

@[simp] theorem State.fixTargetsFor_leaves (k : Key) (s : State) : (s.fixTargetsFor k).pending = s.pending ∧ (s.fixTargetsFor
    k).now = s.now ∧ (s.fixTargetsFor k).station = s.station ∧ (s.fixTargetsFor k).clock = s.clock ∧ (s.fixTargetsFor k).bus =
    s.bus ∧ (s.fixTargetsFor k).cache = s.cache ∧ (s.fixTargetsFor k).tracker = s.tracker ∧ (s.fixTargetsFor k).map = s.map ∧
    (s.fixTargetsFor k).engine = s.engine ∧ (s.fixTargetsFor k).bridge = s.bridge ∧ (s.fixTargetsFor k).mon = s.mon ∧
    (s.fixTargetsFor k).boundary = s.boundary := by
  unfold State.fixTargetsFor
  and_intros
  · exact (foldl_keeps State.pending (by intro s a; simp) _ _).trans (by simp)
  · exact (foldl_keeps State.now (by intro s a; simp) _ _).trans (by simp)
  · exact (foldl_keeps State.station (by intro s a; simp) _ _).trans (by simp)
  · exact (foldl_keeps State.clock (by intro s a; simp) _ _).trans (by simp)
  · exact (foldl_keeps State.bus (by intro s a; simp) _ _).trans (by simp)
  · exact (foldl_keeps State.cache (by intro s a; simp) _ _).trans (by simp)
  · exact (foldl_keeps State.tracker (by intro s a; simp) _ _).trans (by simp)
  · exact (foldl_keeps State.map (by intro s a; simp) _ _).trans (by simp)
  · exact (foldl_keeps State.engine (by intro s a; simp) _ _).trans (by simp)
  · exact (foldl_keeps State.bridge (by intro s a; simp) _ _).trans (by simp)
  · exact (foldl_keeps State.mon (by intro s a; simp) _ _).trans (by simp)
  · exact (foldl_keeps State.boundary (by intro s a; simp) _ _).trans (by simp)

@[simp] theorem State.recipeNotice_leaves (k : Key) (s : State) : (s.recipeNotice k).pending = s.pending ∧ (s.recipeNotice
    k).now = s.now ∧ (s.recipeNotice k).station = s.station ∧ (s.recipeNotice k).clock = s.clock ∧ (s.recipeNotice k).bridge =
    s.bridge ∧ (s.recipeNotice k).boundary = s.boundary := by
  and_intros <;> (unfold State.recipeNotice; (try dsimp only); (repeat' split) <;> simp)

@[simp] theorem State.storeRecipe_leaves (flushed : Option Key) (r : Recipe) (s : State) : (s.storeRecipe flushed r).pending =
    s.pending ∧ (s.storeRecipe flushed r).now = s.now ∧ (s.storeRecipe flushed r).station = s.station ∧ (s.storeRecipe flushed
    r).clock = s.clock ∧ (s.storeRecipe flushed r).bridge = s.bridge ∧ (s.storeRecipe flushed r).boundary = s.boundary := by
  and_intros <;> (unfold State.storeRecipe; (try dsimp only); (repeat' split) <;> simp)

@[simp] theorem State.placeRecipe_leaves (r : Recipe) (s : State) : (s.placeRecipe r).pending = s.pending ∧ (s.placeRecipe
    r).now = s.now ∧ (s.placeRecipe r).station = s.station ∧ (s.placeRecipe r).clock = s.clock ∧ (s.placeRecipe r).bridge =
    s.bridge ∧ (s.placeRecipe r).boundary = s.boundary := by
  and_intros <;> (unfold State.placeRecipe; (try dsimp only); (repeat' split) <;> simp)

@[simp] theorem State.takeRecipeFrame_leaves (f : RxFrame) (s : State) : (s.takeRecipeFrame f).pending = s.pending ∧
    (s.takeRecipeFrame f).now = s.now ∧ (s.takeRecipeFrame f).station = s.station ∧ (s.takeRecipeFrame f).clock = s.clock ∧
    (s.takeRecipeFrame f).bridge = s.bridge ∧ (s.takeRecipeFrame f).boundary = s.boundary := by
  and_intros <;> (unfold State.takeRecipeFrame; (try dsimp only); (repeat' split) <;> simp)

@[simp] theorem State.takeRecipeQueryFrame_leaves (f : RxFrame) (s : State) : (s.takeRecipeQueryFrame f).pending = s.pending ∧
    (s.takeRecipeQueryFrame f).now = s.now ∧ (s.takeRecipeQueryFrame f).station = s.station ∧ (s.takeRecipeQueryFrame f).clock =
    s.clock ∧ (s.takeRecipeQueryFrame f).bus = s.bus ∧ (s.takeRecipeQueryFrame f).tracker = s.tracker ∧ (s.takeRecipeQueryFrame
    f).map = s.map ∧ (s.takeRecipeQueryFrame f).engine = s.engine ∧ (s.takeRecipeQueryFrame f).bridge = s.bridge ∧
    (s.takeRecipeQueryFrame f).dose = s.dose ∧ (s.takeRecipeQueryFrame f).mon = s.mon ∧ (s.takeRecipeQueryFrame f).boundary =
    s.boundary := by
  and_intros <;> (unfold State.takeRecipeQueryFrame; (try dsimp only); (repeat' split) <;> simp)

@[simp] theorem State.updateBridge_leaves (f : Bridge → Bridge) (s : State) : (s.updateBridge f).pending = s.pending ∧
    (s.updateBridge f).now = s.now ∧ (s.updateBridge f).station = s.station ∧ (s.updateBridge f).clock = s.clock ∧
    (s.updateBridge f).bus = s.bus ∧ (s.updateBridge f).cache = s.cache ∧ (s.updateBridge f).tracker = s.tracker ∧
    (s.updateBridge f).map = s.map ∧ (s.updateBridge f).engine = s.engine ∧ (s.updateBridge f).dose = s.dose ∧ (s.updateBridge
    f).mon = s.mon ∧ (s.updateBridge f).boundary = s.boundary := by
  and_intros <;> (unfold State.updateBridge; (try dsimp only); (repeat' split) <;> simp)

@[simp] theorem State.escalate_leaves (declareFirst : Bool) (s : State) : (s.escalate declareFirst).pending = s.pending ∧
    (s.escalate declareFirst).now = s.now ∧ (s.escalate declareFirst).clock = s.clock ∧ (s.escalate declareFirst).tracker =
    s.tracker ∧ (s.escalate declareFirst).boundary = s.boundary := by
  and_intros <;> (unfold State.escalate; (try dsimp only); (repeat' split) <;> simp)

@[simp] theorem State.trip_leaves (cause : Cause) (declareFirst : Bool) (s : State) : (s.trip cause declareFirst).pending =
    s.pending ∧ (s.trip cause declareFirst).now = s.now ∧ (s.trip cause declareFirst).clock = s.clock ∧ (s.trip cause
    declareFirst).tracker = s.tracker ∧ (s.trip cause declareFirst).boundary = s.boundary := by
  and_intros <;> (unfold State.trip; (try dsimp only); (repeat' split) <;> simp)

@[simp] theorem State.miss_leaves (declareFirst : Bool) (s : State) : (s.miss declareFirst).pending = s.pending ∧ (s.miss
    declareFirst).now = s.now ∧ (s.miss declareFirst).clock = s.clock ∧ (s.miss declareFirst).tracker = s.tracker ∧ (s.miss
    declareFirst).boundary = s.boundary := by
  and_intros <;> (unfold State.miss; (try dsimp only); (repeat' split) <;> simp)

@[simp] theorem State.missReading_leaves (log : SlotLog) (declareFirst : Bool) (s : State) : (s.missReading log
    declareFirst).pending = s.pending ∧ (s.missReading log declareFirst).now = s.now ∧ (s.missReading log declareFirst).clock =
    s.clock ∧ (s.missReading log declareFirst).tracker = s.tracker ∧ (s.missReading log declareFirst).boundary = s.boundary :=
    by
  and_intros <;> (unfold State.missReading; (try dsimp only); (repeat' split) <;> simp)

@[simp] theorem State.sentSetpoint_leaves (t : Instant) (s : State) : (s.sentSetpoint t).pending = s.pending ∧ (s.sentSetpoint
    t).now = s.now ∧ (s.sentSetpoint t).station = s.station ∧ (s.sentSetpoint t).clock = s.clock ∧ (s.sentSetpoint t).bus =
    s.bus ∧ (s.sentSetpoint t).cache = s.cache ∧ (s.sentSetpoint t).tracker = s.tracker ∧ (s.sentSetpoint t).map = s.map ∧
    (s.sentSetpoint t).engine = s.engine ∧ (s.sentSetpoint t).dose = s.dose ∧ (s.sentSetpoint t).mon = s.mon ∧ (s.sentSetpoint
    t).boundary = s.boundary := by
  and_intros <;> (unfold State.sentSetpoint; (try dsimp only); (repeat' split) <;> simp)

@[simp] theorem State.sentOff_leaves (t : Instant) (s : State) : (s.sentOff t).pending = s.pending ∧ (s.sentOff t).now = s.now ∧
    (s.sentOff t).station = s.station ∧ (s.sentOff t).clock = s.clock ∧ (s.sentOff t).bus = s.bus ∧ (s.sentOff t).cache =
    s.cache ∧ (s.sentOff t).tracker = s.tracker ∧ (s.sentOff t).map = s.map ∧ (s.sentOff t).engine = s.engine ∧ (s.sentOff
    t).dose = s.dose ∧ (s.sentOff t).mon = s.mon ∧ (s.sentOff t).boundary = s.boundary := by
  and_intros <;> (unfold State.sentOff; (try dsimp only); (repeat' split) <;> simp)

@[simp] theorem State.endExpectation_leaves (declareFirst : Bool) (s : State) : (s.endExpectation declareFirst).pending =
    s.pending ∧ (s.endExpectation declareFirst).now = s.now ∧ (s.endExpectation declareFirst).clock = s.clock ∧
    (s.endExpectation declareFirst).tracker = s.tracker ∧ (s.endExpectation declareFirst).boundary = s.boundary := by
  and_intros <;> (unfold State.endExpectation; (try dsimp only); (repeat' split) <;> simp)

@[simp] theorem State.sentMark_leaves (t : Instant) (declareFirst : Bool) (s : State) : (s.sentMark t declareFirst).pending =
    s.pending ∧ (s.sentMark t declareFirst).now = s.now ∧ (s.sentMark t declareFirst).clock = s.clock ∧ (s.sentMark t
    declareFirst).tracker = s.tracker ∧ (s.sentMark t declareFirst).boundary = s.boundary := by
  and_intros <;> (unfold State.sentMark; (try dsimp only); (repeat' split) <;> simp)

@[simp] theorem State.takeRunOut_leaves (t : Instant) (declareFirst : Bool) (s : State) : (s.takeRunOut t declareFirst).pending
    = s.pending ∧ (s.takeRunOut t declareFirst).now = s.now ∧ (s.takeRunOut t declareFirst).clock = s.clock ∧ (s.takeRunOut t
    declareFirst).tracker = s.tracker ∧ (s.takeRunOut t declareFirst).boundary = s.boundary := by
  and_intros <;> (unfold State.takeRunOut; (try dsimp only); (repeat' split) <;> simp)

@[simp] theorem State.reportNoReading_leaves (log : SlotLog) (s : State) : (s.reportNoReading log).pending = s.pending ∧
    (s.reportNoReading log).now = s.now ∧ (s.reportNoReading log).station = s.station ∧ (s.reportNoReading log).clock = s.clock
    ∧ (s.reportNoReading log).bus = s.bus ∧ (s.reportNoReading log).cache = s.cache ∧ (s.reportNoReading log).tracker =
    s.tracker ∧ (s.reportNoReading log).map = s.map ∧ (s.reportNoReading log).engine = s.engine ∧ (s.reportNoReading log).mon =
    s.mon ∧ (s.reportNoReading log).boundary = s.boundary := by
  and_intros <;> (unfold State.reportNoReading; (try dsimp only); (repeat' split) <;> simp)

@[simp] theorem State.readingRunOut_leaves (t : Instant) (declareFirst : Bool) (s : State) : (s.readingRunOut t
    declareFirst).pending = s.pending ∧ (s.readingRunOut t declareFirst).now = s.now ∧ (s.readingRunOut t declareFirst).clock =
    s.clock ∧ (s.readingRunOut t declareFirst).tracker = s.tracker ∧ (s.readingRunOut t declareFirst).boundary = s.boundary :=
    by
  and_intros <;> (unfold State.readingRunOut; (try dsimp only); (repeat' split) <;> simp)

@[simp] theorem State.deadline_leaves (declareFirst : Bool) (s : State) : (s.deadline declareFirst).pending = s.pending ∧
    (s.deadline declareFirst).now = s.now ∧ (s.deadline declareFirst).clock = s.clock ∧ (s.deadline declareFirst).tracker =
    s.tracker ∧ (s.deadline declareFirst).boundary = s.boundary := by
  and_intros <;> (unfold State.deadline; (try dsimp only); (repeat' split) <;> simp)

@[simp] theorem State.takeAck_leaves (a : AckDir) (declareFirst : Bool) (s : State) : (s.takeAck a declareFirst).pending =
    s.pending ∧ (s.takeAck a declareFirst).now = s.now ∧ (s.takeAck a declareFirst).clock = s.clock ∧ (s.takeAck a
    declareFirst).tracker = s.tracker ∧ (s.takeAck a declareFirst).boundary = s.boundary := by
  and_intros <;> (unfold State.takeAck; (try dsimp only); (repeat' split) <;> simp)

@[simp] theorem State.judgeReading_leaves (log : SlotLog) (current : Int) (declareFirst : Bool) (s : State) : (s.judgeReading
    log current declareFirst).pending = s.pending ∧ (s.judgeReading log current declareFirst).now = s.now ∧ (s.judgeReading log
    current declareFirst).clock = s.clock ∧ (s.judgeReading log current declareFirst).tracker = s.tracker ∧ (s.judgeReading log
    current declareFirst).boundary = s.boundary := by
  and_intros <;> (unfold State.judgeReading; (try dsimp only); (repeat' split) <;> simp)

@[simp] theorem State.takeAwaited_leaves (e : Expectation) (m : Measured) (declareFirst : Bool) (s : State) : (s.takeAwaited e m
    declareFirst).pending = s.pending ∧ (s.takeAwaited e m declareFirst).now = s.now ∧ (s.takeAwaited e m declareFirst).clock =
    s.clock ∧ (s.takeAwaited e m declareFirst).tracker = s.tracker ∧ (s.takeAwaited e m declareFirst).boundary = s.boundary :=
    by
  and_intros <;> (unfold State.takeAwaited; (try dsimp only); (repeat' split) <;> simp)

@[simp] theorem State.takeReading_leaves (m : Measured) (slotMod4 : Nat) (declareFirst : Bool) (s : State) : (s.takeReading m
    slotMod4 declareFirst).pending = s.pending ∧ (s.takeReading m slotMod4 declareFirst).now = s.now ∧ (s.takeReading m slotMod4
    declareFirst).clock = s.clock ∧ (s.takeReading m slotMod4 declareFirst).tracker = s.tracker ∧ (s.takeReading m slotMod4
    declareFirst).boundary = s.boundary := by
  and_intros <;> (unfold State.takeReading; (try dsimp only); (repeat' split) <;> simp)

@[simp] theorem State.tickRest_leaves (s : State) : (s.tickRest).pending = s.pending ∧ (s.tickRest).now = s.now ∧
    (s.tickRest).station = s.station ∧ (s.tickRest).clock = s.clock ∧ (s.tickRest).tracker = s.tracker ∧ (s.tickRest).boundary =
    s.boundary := by
  and_intros <;> (unfold State.tickRest; (try dsimp only); (repeat' split) <;> simp)

@[simp] theorem State.markSlot_leaves (log : SlotLog) (declareFirst : Bool) (s : State) : (s.markSlot log declareFirst).pending
    = s.pending ∧ (s.markSlot log declareFirst).now = s.now ∧ (s.markSlot log declareFirst).clock = s.clock ∧ (s.markSlot log
    declareFirst).tracker = s.tracker ∧ (s.markSlot log declareFirst).boundary = s.boundary := by
  and_intros <;> (unfold State.markSlot; (try dsimp only); (repeat' split) <;> simp)

@[simp] theorem State.endSlotLog_leaves (log : Option SlotLog) (declareFirst : Bool) (s : State) : (s.endSlotLog log
    declareFirst).pending = s.pending ∧ (s.endSlotLog log declareFirst).now = s.now ∧ (s.endSlotLog log declareFirst).clock =
    s.clock ∧ (s.endSlotLog log declareFirst).tracker = s.tracker ∧ (s.endSlotLog log declareFirst).boundary = s.boundary := by
  and_intros <;> (unfold State.endSlotLog; (try dsimp only); (repeat' split) <;> simp)

@[simp] theorem State.bridgeSlot_leaves (s : State) : (s.bridgeSlot).pending = s.pending ∧ (s.bridgeSlot).now = s.now ∧
    (s.bridgeSlot).clock = s.clock ∧ (s.bridgeSlot).tracker = s.tracker ∧ (s.bridgeSlot).boundary = s.boundary := by
  and_intros <;> (unfold State.bridgeSlot; (try dsimp only); (repeat' split) <;> simp)

@[simp] theorem State.bridgeFrame_leaves (s : State) : (s.bridgeFrame).pending = s.pending ∧ (s.bridgeFrame).now = s.now ∧
    (s.bridgeFrame).station = s.station ∧ (s.bridgeFrame).clock = s.clock ∧ (s.bridgeFrame).cache = s.cache ∧
    (s.bridgeFrame).tracker = s.tracker ∧ (s.bridgeFrame).map = s.map ∧ (s.bridgeFrame).engine = s.engine ∧ (s.bridgeFrame).dose
    = s.dose ∧ (s.bridgeFrame).boundary = s.boundary := by
  and_intros <;> (unfold State.bridgeFrame; (try dsimp only); (repeat' split) <;> simp)

end Sys2Proof.Machine
end

