-- ==== Sys2Proof/Laws/BoundaryFrame.lean ====
section
/-! SUPPORT. What each operation of the zone bus and the boundary leaves as it was: one lemma for each, with every block it does not touch. -/

namespace Sys2Proof.Machine

open Sys2Proof

@[simp] theorem State.updateBus_leaves (f : Bus → Bus) (s : State) : (s.updateBus f).pending = s.pending ∧ (s.updateBus f).now =
    s.now ∧ (s.updateBus f).station = s.station ∧ (s.updateBus f).clock = s.clock ∧ (s.updateBus f).cache = s.cache ∧
    (s.updateBus f).tracker = s.tracker ∧ (s.updateBus f).map = s.map ∧ (s.updateBus f).engine = s.engine ∧ (s.updateBus
    f).bridge = s.bridge ∧ (s.updateBus f).dose = s.dose ∧ (s.updateBus f).mon = s.mon ∧ (s.updateBus f).boundary = s.boundary
    := by
  and_intros <;> (unfold State.updateBus; (try dsimp only); (repeat' split) <;> simp)

@[simp] theorem State.busFault_leaves (k : RxFault) (s : State) : (s.busFault k).pending = s.pending ∧ (s.busFault k).now =
    s.now ∧ (s.busFault k).clock = s.clock ∧ (s.busFault k).cache = s.cache ∧ (s.busFault k).tracker = s.tracker ∧ (s.busFault
    k).map = s.map ∧ (s.busFault k).engine = s.engine ∧ (s.busFault k).bridge = s.bridge ∧ (s.busFault k).dose = s.dose ∧
    (s.busFault k).mon = s.mon ∧ (s.busFault k).boundary = s.boundary := by
  and_intros <;> (unfold State.busFault; (try dsimp only); (repeat' split) <;> simp)

@[simp] theorem State.dropRx_leaves (k : RxFault) (s : State) : (s.dropRx k).pending = s.pending ∧ (s.dropRx k).now = s.now ∧
    (s.dropRx k).clock = s.clock ∧ (s.dropRx k).cache = s.cache ∧ (s.dropRx k).tracker = s.tracker ∧ (s.dropRx k).map = s.map ∧
    (s.dropRx k).engine = s.engine ∧ (s.dropRx k).bridge = s.bridge ∧ (s.dropRx k).dose = s.dose ∧ (s.dropRx k).mon = s.mon ∧
    (s.dropRx k).boundary = s.boundary := by
  and_intros <;> (unfold State.dropRx; (try dsimp only); (repeat' split) <;> simp)

@[simp] theorem State.dropQuiet_leaves (s : State) : (s.dropQuiet).pending = s.pending ∧ (s.dropQuiet).now = s.now ∧
    (s.dropQuiet).clock = s.clock ∧ (s.dropQuiet).cache = s.cache ∧ (s.dropQuiet).tracker = s.tracker ∧ (s.dropQuiet).map =
    s.map ∧ (s.dropQuiet).engine = s.engine ∧ (s.dropQuiet).bridge = s.bridge ∧ (s.dropQuiet).dose = s.dose ∧ (s.dropQuiet).mon
    = s.mon ∧ (s.dropQuiet).boundary = s.boundary := by
  and_intros <;> (unfold State.dropQuiet; (try dsimp only); (repeat' split) <;> simp)

@[simp] theorem State.takeClaim_leaves (f : RxFrame) (declareFirst : Bool) (s : State) : (s.takeClaim f declareFirst).pending =
    s.pending ∧ (s.takeClaim f declareFirst).now = s.now ∧ (s.takeClaim f declareFirst).tracker = s.tracker := by
  and_intros <;> (unfold State.takeClaim; (try dsimp only); (repeat' split) <;> simp)

@[simp] theorem State.enqueueRx_leaves (f : RxFrame) (s : State) : (s.enqueueRx f).pending = s.pending ∧ (s.enqueueRx f).now =
    s.now ∧ (s.enqueueRx f).clock = s.clock ∧ (s.enqueueRx f).cache = s.cache ∧ (s.enqueueRx f).tracker = s.tracker ∧
    (s.enqueueRx f).map = s.map ∧ (s.enqueueRx f).engine = s.engine ∧ (s.enqueueRx f).bridge = s.bridge ∧ (s.enqueueRx f).dose =
    s.dose ∧ (s.enqueueRx f).mon = s.mon ∧ (s.enqueueRx f).boundary = s.boundary := by
  and_intros <;> (unfold State.enqueueRx; (try dsimp only); (repeat' split) <;> simp)

@[simp] theorem State.filterFrame_leaves (f : RxFrame) (own declareFirst : Bool) (s : State) : (s.filterFrame f own
    declareFirst).pending = s.pending ∧ (s.filterFrame f own declareFirst).now = s.now ∧ (s.filterFrame f own
    declareFirst).tracker = s.tracker := by
  and_intros <;> (unfold State.filterFrame; (try dsimp only); (repeat' split) <;> simp)

@[simp] theorem State.deliver_leaves (f : RxFrame) (own declareFirst : Bool) (s : State) : (s.deliver f own
    declareFirst).pending = s.pending ∧ (s.deliver f own declareFirst).now = s.now ∧ (s.deliver f own declareFirst).tracker =
    s.tracker := by
  and_intros <;> (unfold State.deliver; (try dsimp only); (repeat' split) <;> simp)

@[simp] theorem State.receiveStart_leaves (s : State) : (s.receiveStart).pending = s.pending ∧ (s.receiveStart).now = s.now ∧
    (s.receiveStart).clock = s.clock ∧ (s.receiveStart).cache = s.cache ∧ (s.receiveStart).tracker = s.tracker ∧
    (s.receiveStart).map = s.map ∧ (s.receiveStart).engine = s.engine ∧ (s.receiveStart).bridge = s.bridge ∧
    (s.receiveStart).dose = s.dose ∧ (s.receiveStart).mon = s.mon ∧ (s.receiveStart).boundary = s.boundary := by
  and_intros <;> (unfold State.receiveStart; (try dsimp only); (repeat' split) <;> simp)

@[simp] theorem State.receiveData_leaves (x : Byte) (s : State) : (s.receiveData x).pending = s.pending ∧ (s.receiveData x).now
    = s.now ∧ (s.receiveData x).clock = s.clock ∧ (s.receiveData x).cache = s.cache ∧ (s.receiveData x).tracker = s.tracker ∧
    (s.receiveData x).map = s.map ∧ (s.receiveData x).engine = s.engine ∧ (s.receiveData x).bridge = s.bridge ∧ (s.receiveData
    x).dose = s.dose ∧ (s.receiveData x).mon = s.mon ∧ (s.receiveData x).boundary = s.boundary := by
  and_intros <;> (unfold State.receiveData; (try dsimp only); (repeat' split) <;> simp)

@[simp] theorem State.receiveEnd_leaves (declareFirst : Bool) (s : State) : (s.receiveEnd declareFirst).pending = s.pending ∧
    (s.receiveEnd declareFirst).now = s.now ∧ (s.receiveEnd declareFirst).tracker = s.tracker := by
  and_intros <;> (unfold State.receiveEnd; (try dsimp only); (repeat' split) <;> simp)

@[simp] theorem State.receiveBad_leaves (s : State) : (s.receiveBad).pending = s.pending ∧ (s.receiveBad).now = s.now ∧
    (s.receiveBad).clock = s.clock ∧ (s.receiveBad).cache = s.cache ∧ (s.receiveBad).tracker = s.tracker ∧ (s.receiveBad).map =
    s.map ∧ (s.receiveBad).engine = s.engine ∧ (s.receiveBad).bridge = s.bridge ∧ (s.receiveBad).dose = s.dose ∧
    (s.receiveBad).mon = s.mon ∧ (s.receiveBad).boundary = s.boundary := by
  and_intros <;> (unfold State.receiveBad; (try dsimp only); (repeat' split) <;> simp)

@[simp] theorem State.activeUntil_leaves (t : Instant) (s : State) : (s.activeUntil t).pending = s.pending ∧ (s.activeUntil
    t).now = s.now ∧ (s.activeUntil t).station = s.station ∧ (s.activeUntil t).clock = s.clock ∧ (s.activeUntil t).cache =
    s.cache ∧ (s.activeUntil t).tracker = s.tracker ∧ (s.activeUntil t).map = s.map ∧ (s.activeUntil t).engine = s.engine ∧
    (s.activeUntil t).bridge = s.bridge ∧ (s.activeUntil t).dose = s.dose ∧ (s.activeUntil t).mon = s.mon ∧ (s.activeUntil
    t).boundary = s.boundary := by
  and_intros <;> (unfold State.activeUntil; (try dsimp only); (repeat' split) <;> simp)

@[simp] theorem State.symbolActive_leaves (s : State) : (s.symbolActive).pending = s.pending ∧ (s.symbolActive).now = s.now ∧
    (s.symbolActive).station = s.station ∧ (s.symbolActive).clock = s.clock ∧ (s.symbolActive).cache = s.cache ∧
    (s.symbolActive).tracker = s.tracker ∧ (s.symbolActive).map = s.map ∧ (s.symbolActive).engine = s.engine ∧
    (s.symbolActive).bridge = s.bridge ∧ (s.symbolActive).dose = s.dose ∧ (s.symbolActive).mon = s.mon ∧ (s.symbolActive).boundary =
    s.boundary := by
  and_intros <;> (unfold State.symbolActive; (try dsimp only); (repeat' split) <;> simp)

@[simp] theorem State.lineActive_leaves (s : State) : (s.lineActive).pending = s.pending ∧ (s.lineActive).now = s.now ∧
    (s.lineActive).station = s.station ∧ (s.lineActive).clock = s.clock ∧ (s.lineActive).cache = s.cache ∧
    (s.lineActive).tracker = s.tracker ∧ (s.lineActive).map = s.map ∧ (s.lineActive).engine = s.engine ∧ (s.lineActive).bridge =
    s.bridge ∧ (s.lineActive).dose = s.dose ∧ (s.lineActive).mon = s.mon ∧ (s.lineActive).boundary = s.boundary := by
  and_intros <;> (unfold State.lineActive; (try dsimp only); (repeat' split) <;> simp)

@[simp] theorem State.receiveSymbol_leaves (x : Symbol) (declareFirst : Bool) (s : State) : (s.receiveSymbol x
    declareFirst).pending = s.pending ∧ (s.receiveSymbol x declareFirst).now = s.now ∧ (s.receiveSymbol x declareFirst).tracker
    = s.tracker := by
  and_intros <;> (unfold State.receiveSymbol; (try dsimp only); (repeat' split) <;> simp)

@[simp] theorem State.rxTimeout_leaves (s : State) : (s.rxTimeout).pending = s.pending ∧ (s.rxTimeout).now = s.now ∧
    (s.rxTimeout).clock = s.clock ∧ (s.rxTimeout).cache = s.cache ∧ (s.rxTimeout).tracker = s.tracker ∧ (s.rxTimeout).map =
    s.map ∧ (s.rxTimeout).engine = s.engine ∧ (s.rxTimeout).bridge = s.bridge ∧ (s.rxTimeout).dose = s.dose ∧ (s.rxTimeout).mon
    = s.mon ∧ (s.rxTimeout).boundary = s.boundary := by
  and_intros <;> (unfold State.rxTimeout; (try dsimp only); (repeat' split) <;> simp)

@[simp] theorem State.reportClaim_leaves (f : TxFrame) (sent : Bool) (s : State) : (s.reportClaim f sent).pending = s.pending ∧
    (s.reportClaim f sent).now = s.now ∧ (s.reportClaim f sent).station = s.station ∧ (s.reportClaim f sent).clock = s.clock ∧
    (s.reportClaim f sent).bus = s.bus ∧ (s.reportClaim f sent).cache = s.cache ∧ (s.reportClaim f sent).tracker = s.tracker ∧
    (s.reportClaim f sent).engine = s.engine ∧ (s.reportClaim f sent).bridge = s.bridge ∧ (s.reportClaim f sent).dose = s.dose ∧
    (s.reportClaim f sent).mon = s.mon ∧ (s.reportClaim f sent).boundary = s.boundary := by
  and_intros <;> (unfold State.reportClaim; (try dsimp only); (repeat' split) <;> simp)

@[simp] theorem State.startFrame_leaves (underWay : Bool) (s : State) : (s.startFrame underWay).pending = s.pending ∧ (s.startFrame underWay).now = s.now ∧
    (s.startFrame underWay).station = s.station ∧ (s.startFrame underWay).clock = s.clock ∧ (s.startFrame underWay).cache = s.cache ∧
    (s.startFrame underWay).tracker = s.tracker ∧ (s.startFrame underWay).map = s.map ∧ (s.startFrame underWay).engine = s.engine ∧ (s.startFrame underWay).bridge =
    s.bridge ∧ (s.startFrame underWay).dose = s.dose ∧ (s.startFrame underWay).mon = s.mon ∧ (s.startFrame underWay).boundary = s.boundary := by
  and_intros <;> (unfold State.startFrame; (try dsimp only); (repeat' split) <;> simp)

@[simp] theorem State.frameSent_leaves (s : State) : (s.frameSent).pending = s.pending ∧ (s.frameSent).now = s.now ∧
    (s.frameSent).station = s.station ∧ (s.frameSent).clock = s.clock ∧ (s.frameSent).cache = s.cache ∧ (s.frameSent).tracker =
    s.tracker ∧ (s.frameSent).engine = s.engine ∧ (s.frameSent).bridge = s.bridge ∧ (s.frameSent).dose = s.dose ∧
    (s.frameSent).boundary = s.boundary := by
  and_intros <;> (unfold State.frameSent; (try dsimp only); (repeat' split) <;> simp)

@[simp] theorem State.startBackoff_leaves (attempts : Nat) (s : State) : (s.startBackoff attempts).pending = s.pending ∧
    (s.startBackoff attempts).now = s.now ∧ (s.startBackoff attempts).station = s.station ∧ (s.startBackoff attempts).clock =
    s.clock ∧ (s.startBackoff attempts).cache = s.cache ∧ (s.startBackoff attempts).tracker = s.tracker ∧ (s.startBackoff
    attempts).map = s.map ∧ (s.startBackoff attempts).engine = s.engine ∧ (s.startBackoff attempts).bridge = s.bridge ∧
    (s.startBackoff attempts).dose = s.dose ∧ (s.startBackoff attempts).mon = s.mon ∧ (s.startBackoff attempts).boundary =
    s.boundary := by
  and_intros <;> (unfold State.startBackoff; (try dsimp only); (repeat' split) <;> simp)

@[simp] theorem State.collide_leaves (s : State) : (s.collide).pending = s.pending ∧ (s.collide).now = s.now ∧ (s.collide).clock
    = s.clock ∧ (s.collide).cache = s.cache ∧ (s.collide).tracker = s.tracker ∧ (s.collide).engine = s.engine ∧
    (s.collide).bridge = s.bridge ∧ (s.collide).dose = s.dose ∧ (s.collide).boundary = s.boundary := by
  and_intros <;> (unfold State.collide; (try dsimp only); (repeat' split) <;> simp)

@[simp] theorem State.backoffDone_leaves (s : State) : (s.backoffDone).pending = s.pending ∧ (s.backoffDone).now = s.now ∧
    (s.backoffDone).station = s.station ∧ (s.backoffDone).clock = s.clock ∧ (s.backoffDone).cache = s.cache ∧
    (s.backoffDone).tracker = s.tracker ∧ (s.backoffDone).map = s.map ∧ (s.backoffDone).engine = s.engine ∧
    (s.backoffDone).bridge = s.bridge ∧ (s.backoffDone).dose = s.dose ∧ (s.backoffDone).mon = s.mon ∧ (s.backoffDone).boundary =
    s.boundary := by
  and_intros <;> (unfold State.backoffDone; (try dsimp only); (repeat' split) <;> simp)

@[simp] theorem State.refLostMap_leaves (s : State) : (s.refLostMap).pending = s.pending ∧ (s.refLostMap).now = s.now ∧
    (s.refLostMap).station = s.station ∧ (s.refLostMap).clock = s.clock ∧ (s.refLostMap).tracker = s.tracker ∧
    (s.refLostMap).dose = s.dose ∧ (s.refLostMap).boundary = s.boundary := by
  and_intros <;> (unfold State.refLostMap; (try dsimp only); (repeat' split) <;> simp)

@[simp] theorem State.busFrame_leaves (s : State) : (s.busFrame).pending = s.pending ∧ (s.busFrame).now = s.now ∧
    (s.busFrame).station = s.station ∧ (s.busFrame).clock = s.clock ∧ (s.busFrame).cache = s.cache ∧ (s.busFrame).tracker =
    s.tracker ∧ (s.busFrame).map = s.map ∧ (s.busFrame).engine = s.engine ∧ (s.busFrame).bridge = s.bridge ∧ (s.busFrame).dose =
    s.dose ∧ (s.busFrame).boundary = s.boundary := by
  and_intros <;> (unfold State.busFrame; (try dsimp only); (repeat' split) <;> simp)

end Sys2Proof.Machine
end

