-- ==== Sys2Proof/Laws/StationKeeps.lean ====
section
/-! SUPPORT. What the changes of station state leave as it was: the configuration values, and whether the part is held or reading; and
the slot clock but for the aligned flag and the tracker. -/

namespace Sys2Proof.Machine

open Sys2Proof

@[simp] theorem State.setStanding_keeps (st : StationState) (join : Option Nat) (s : State) : (s.setStanding st
    join).station.cfg = s.station.cfg ∧ (s.setStanding st join).station.held = s.station.held ∧ (s.setStanding st
    join).station.reading = s.station.reading := by
  and_intros <;> (unfold State.setStanding; (try dsimp only); (repeat' split) <;> simp)

@[simp] theorem State.passSelfTest_keeps (s : State) : (s.passSelfTest).station.cfg = s.station.cfg ∧
    (s.passSelfTest).station.held = s.station.held ∧ (s.passSelfTest).station.reading = s.station.reading := by
  and_intros <;> (unfold State.passSelfTest; (try dsimp only); (repeat' split) <;> simp)

@[simp] theorem State.releaseToListening_keeps (s : State) : (s.releaseToListening).station.cfg = s.station.cfg ∧
    (s.releaseToListening).station.held = s.station.held ∧ (s.releaseToListening).station.reading = s.station.reading := by
  and_intros <;> (unfold State.releaseToListening; (try dsimp only); (repeat' split) <;> simp)

@[simp] theorem State.loseJoined_keeps (s : State) : (s.loseJoined).station.cfg = s.station.cfg ∧ (s.loseJoined).station.held =
    s.station.held ∧ (s.loseJoined).station.reading = s.station.reading := by
  and_intros <;> (unfold State.loseJoined; (try dsimp only); (repeat' split) <;> simp)

@[simp] theorem State.enterJoined_keeps (s : State) : (s.enterJoined).station.cfg = s.station.cfg ∧ (s.enterJoined).station.held
    = s.station.held ∧ (s.enterJoined).station.reading = s.station.reading := by
  and_intros <;> (unfold State.enterJoined; (try dsimp only); (repeat' split) <;> simp)

@[simp] theorem State.isolateBlocks_keeps (s : State) : (s.isolateBlocks).station.cfg = s.station.cfg ∧
    (s.isolateBlocks).station.held = s.station.held ∧ (s.isolateBlocks).station.reading = s.station.reading := by
  and_intros <;> (unfold State.isolateBlocks; (try dsimp only); (repeat' split) <;> simp)

@[simp] theorem State.enterIsolated_keeps (s : State) : (s.enterIsolated).station.cfg = s.station.cfg ∧
    (s.enterIsolated).station.held = s.station.held ∧ (s.enterIsolated).station.reading = s.station.reading := by
  and_intros <;> (unfold State.enterIsolated; (try dsimp only); (repeat' split) <;> simp)

@[simp] theorem State.failSelfTest_keeps (s : State) : (s.failSelfTest).station.cfg = s.station.cfg ∧
    (s.failSelfTest).station.held = s.station.held ∧ (s.failSelfTest).station.reading = s.station.reading := by
  and_intros <;> (unfold State.failSelfTest; (try dsimp only); (repeat' split) <;> simp)

@[simp] theorem State.askIsolated_keeps (s : State) : (s.askIsolated).station.cfg = s.station.cfg ∧ (s.askIsolated).station.held
    = s.station.held ∧ (s.askIsolated).station.reading = s.station.reading := by
  and_intros <;> (unfold State.askIsolated; (try dsimp only); (repeat' split) <;> simp)

@[simp] theorem State.clash_keeps (kind : Kind) (declareFirst : Bool) (s : State) : (s.clash kind declareFirst).station.cfg =
    s.station.cfg ∧ (s.clash kind declareFirst).station.held = s.station.held ∧ (s.clash kind declareFirst).station.reading =
    s.station.reading := by
  and_intros <;> (unfold State.clash; (try dsimp only); (repeat' split) <;> simp)

@[simp] theorem State.tellLockout_keeps (df : Bool) (s : State) : (s.tellLockout df).station.cfg = s.station.cfg ∧
    (s.tellLockout df).station.held = s.station.held ∧ (s.tellLockout df).station.reading = s.station.reading := by
  and_intros <;> (unfold State.tellLockout; (try dsimp only); (repeat' split) <;> simp)

@[simp] theorem State.enterLockout_keeps (df : Bool) (s : State) : (s.enterLockout df).station.cfg = s.station.cfg ∧
    (s.enterLockout df).station.held = s.station.held ∧ (s.enterLockout df).station.reading = s.station.reading := by
  and_intros <;> (unfold State.enterLockout; (try dsimp only); (repeat' split) <;> simp)

@[simp] theorem State.askLockout_keeps (declareFirst : Bool) (s : State) : (s.askLockout declareFirst).station.cfg =
    s.station.cfg ∧ (s.askLockout declareFirst).station.held = s.station.held ∧ (s.askLockout declareFirst).station.reading =
    s.station.reading := by
  and_intros <;> (unfold State.askLockout; (try dsimp only); (repeat' split) <;> simp)

@[simp] theorem State.release_keeps (s : State) : (s.release).station.cfg = s.station.cfg ∧ (s.release).station.held =
    s.station.held ∧ (s.release).station.reading = s.station.reading := by
  and_intros <;> (unfold State.release; (try dsimp only); (repeat' split) <;> simp)

@[simp] theorem State.takeReleaseFrame_keeps (s : State) : (s.takeReleaseFrame).station.cfg = s.station.cfg ∧
    (s.takeReleaseFrame).station.held = s.station.held ∧ (s.takeReleaseFrame).station.reading = s.station.reading := by
  and_intros <;> (unfold State.takeReleaseFrame; (try dsimp only); (repeat' split) <;> simp)

@[simp] theorem State.lockGained_keeps (s : State) : (s.lockGained).station.cfg = s.station.cfg ∧ (s.lockGained).station.held =
    s.station.held ∧ (s.lockGained).station.reading = s.station.reading := by
  and_intros <;> (unfold State.lockGained; (try dsimp only); (repeat' split) <;> simp)

@[simp] theorem State.lockLost_keeps (s : State) : (s.lockLost).station.cfg = s.station.cfg ∧ (s.lockLost).station.held =
    s.station.held ∧ (s.lockLost).station.reading = s.station.reading := by
  and_intros <;> (unfold State.lockLost; (try dsimp only); (repeat' split) <;> simp)

@[simp] theorem State.refLost_keeps (s : State) : (s.refLost).station.cfg = s.station.cfg ∧ (s.refLost).station.held =
    s.station.held ∧ (s.refLost).station.reading = s.station.reading := by
  and_intros <;> (unfold State.refLost; (try dsimp only); (repeat' split) <;> simp)

@[simp] theorem State.selfFault_keeps (s : State) : (s.selfFault).station.cfg = s.station.cfg ∧ (s.selfFault).station.held =
    s.station.held ∧ (s.selfFault).station.reading = s.station.reading := by
  and_intros <;> (unfold State.selfFault; (try dsimp only); (repeat' split) <;> simp)

@[simp] theorem State.takeTest_keeps (f : RxFrame) (s : State) : (s.takeTest f).station.cfg = s.station.cfg ∧ (s.takeTest
    f).station.held = s.station.held ∧ (s.takeTest f).station.reading = s.station.reading := by
  and_intros <;> (unfold State.takeTest; (try dsimp only); (repeat' split) <;> simp)

@[simp] theorem State.selfTestFrame_keeps (s : State) : (s.selfTestFrame).station.cfg = s.station.cfg ∧
    (s.selfTestFrame).station.held = s.station.held ∧ (s.selfTestFrame).station.reading = s.station.reading := by
  and_intros <;> (unfold State.selfTestFrame; (try dsimp only); (repeat' split) <;> simp)

@[simp] theorem State.joinFrame_keeps (s : State) : (s.joinFrame).station.cfg = s.station.cfg ∧ (s.joinFrame).station.held =
    s.station.held ∧ (s.joinFrame).station.reading = s.station.reading := by
  and_intros <;> (unfold State.joinFrame; (try dsimp only); (repeat' split) <;> simp)

@[simp] theorem State.stationFrame_keeps (s : State) : (s.stationFrame).station.cfg = s.station.cfg ∧
    (s.stationFrame).station.held = s.station.held ∧ (s.stationFrame).station.reading = s.station.reading := by
  and_intros <;> (unfold State.stationFrame; (try dsimp only); (repeat' split) <;> simp)

@[simp] theorem State.escalate_keeps (declareFirst : Bool) (s : State) : (s.escalate declareFirst).station.cfg = s.station.cfg ∧
    (s.escalate declareFirst).station.held = s.station.held ∧ (s.escalate declareFirst).station.reading = s.station.reading :=
    by
  and_intros <;> (unfold State.escalate; (try dsimp only); (repeat' split) <;> simp)

@[simp] theorem State.trip_keeps (cause : Cause) (declareFirst : Bool) (s : State) : (s.trip cause declareFirst).station.cfg =
    s.station.cfg ∧ (s.trip cause declareFirst).station.held = s.station.held ∧ (s.trip cause declareFirst).station.reading =
    s.station.reading := by
  and_intros <;> (unfold State.trip; (try dsimp only); (repeat' split) <;> simp)

@[simp] theorem State.miss_keeps (declareFirst : Bool) (s : State) : (s.miss declareFirst).station.cfg = s.station.cfg ∧ (s.miss
    declareFirst).station.held = s.station.held ∧ (s.miss declareFirst).station.reading = s.station.reading := by
  and_intros <;> (unfold State.miss; (try dsimp only); (repeat' split) <;> simp)

@[simp] theorem State.missReading_keeps (log : SlotLog) (declareFirst : Bool) (s : State) : (s.missReading log
    declareFirst).station.cfg = s.station.cfg ∧ (s.missReading log declareFirst).station.held = s.station.held ∧ (s.missReading
    log declareFirst).station.reading = s.station.reading := by
  and_intros <;> (unfold State.missReading; (try dsimp only); (repeat' split) <;> simp)

@[simp] theorem State.endExpectation_keeps (declareFirst : Bool) (s : State) : (s.endExpectation declareFirst).station.cfg =
    s.station.cfg ∧ (s.endExpectation declareFirst).station.held = s.station.held ∧ (s.endExpectation
    declareFirst).station.reading = s.station.reading := by
  and_intros <;> (unfold State.endExpectation; (try dsimp only); (repeat' split) <;> simp)

@[simp] theorem State.sentMark_keeps (t : Instant) (declareFirst : Bool) (s : State) : (s.sentMark t declareFirst).station.cfg =
    s.station.cfg ∧ (s.sentMark t declareFirst).station.held = s.station.held ∧ (s.sentMark t declareFirst).station.reading =
    s.station.reading := by
  and_intros <;> (unfold State.sentMark; (try dsimp only); (repeat' split) <;> simp)

@[simp] theorem State.takeRunOut_keeps (t : Instant) (declareFirst : Bool) (s : State) : (s.takeRunOut t
    declareFirst).station.cfg = s.station.cfg ∧ (s.takeRunOut t declareFirst).station.held = s.station.held ∧ (s.takeRunOut t
    declareFirst).station.reading = s.station.reading := by
  and_intros <;> (unfold State.takeRunOut; (try dsimp only); (repeat' split) <;> simp)

@[simp] theorem State.readingRunOut_keeps (t : Instant) (declareFirst : Bool) (s : State) : (s.readingRunOut t
    declareFirst).station.cfg = s.station.cfg ∧ (s.readingRunOut t declareFirst).station.held = s.station.held ∧
    (s.readingRunOut t declareFirst).station.reading = s.station.reading := by
  and_intros <;> (unfold State.readingRunOut; (try dsimp only); (repeat' split) <;> simp)

@[simp] theorem State.deadline_keeps (declareFirst : Bool) (s : State) : (s.deadline declareFirst).station.cfg = s.station.cfg ∧
    (s.deadline declareFirst).station.held = s.station.held ∧ (s.deadline declareFirst).station.reading = s.station.reading :=
    by
  and_intros <;> (unfold State.deadline; (try dsimp only); (repeat' split) <;> simp)

@[simp] theorem State.takeAck_keeps (a : AckDir) (declareFirst : Bool) (s : State) : (s.takeAck a declareFirst).station.cfg =
    s.station.cfg ∧ (s.takeAck a declareFirst).station.held = s.station.held ∧ (s.takeAck a declareFirst).station.reading =
    s.station.reading := by
  and_intros <;> (unfold State.takeAck; (try dsimp only); (repeat' split) <;> simp)

@[simp] theorem State.judgeReading_keeps (log : SlotLog) (current : Int) (declareFirst : Bool) (s : State) : (s.judgeReading log
    current declareFirst).station.cfg = s.station.cfg ∧ (s.judgeReading log current declareFirst).station.held = s.station.held
    ∧ (s.judgeReading log current declareFirst).station.reading = s.station.reading := by
  and_intros <;> (unfold State.judgeReading; (try dsimp only); (repeat' split) <;> simp)

@[simp] theorem State.takeAwaited_keeps (e : Expectation) (m : Measured) (declareFirst : Bool) (s : State) : (s.takeAwaited e m
    declareFirst).station.cfg = s.station.cfg ∧ (s.takeAwaited e m declareFirst).station.held = s.station.held ∧ (s.takeAwaited
    e m declareFirst).station.reading = s.station.reading := by
  and_intros <;> (unfold State.takeAwaited; (try dsimp only); (repeat' split) <;> simp)

@[simp] theorem State.takeReading_keeps (m : Measured) (slotMod4 : Nat) (declareFirst : Bool) (s : State) : (s.takeReading m
    slotMod4 declareFirst).station.cfg = s.station.cfg ∧ (s.takeReading m slotMod4 declareFirst).station.held = s.station.held ∧
    (s.takeReading m slotMod4 declareFirst).station.reading = s.station.reading := by
  and_intros <;> (unfold State.takeReading; (try dsimp only); (repeat' split) <;> simp)

@[simp] theorem State.markSlot_keeps (log : SlotLog) (declareFirst : Bool) (s : State) : (s.markSlot log
    declareFirst).station.cfg = s.station.cfg ∧ (s.markSlot log declareFirst).station.held = s.station.held ∧ (s.markSlot log
    declareFirst).station.reading = s.station.reading := by
  and_intros <;> (unfold State.markSlot; (try dsimp only); (repeat' split) <;> simp)

@[simp] theorem State.endSlotLog_keeps (log : Option SlotLog) (declareFirst : Bool) (s : State) : (s.endSlotLog log
    declareFirst).station.cfg = s.station.cfg ∧ (s.endSlotLog log declareFirst).station.held = s.station.held ∧ (s.endSlotLog
    log declareFirst).station.reading = s.station.reading := by
  and_intros <;> (unfold State.endSlotLog; (try dsimp only); (repeat' split) <;> simp)

@[simp] theorem State.bridgeSlot_keeps (s : State) : (s.bridgeSlot).station.cfg = s.station.cfg ∧ (s.bridgeSlot).station.held =
    s.station.held ∧ (s.bridgeSlot).station.reading = s.station.reading := by
  and_intros <;> (unfold State.bridgeSlot; (try dsimp only); (repeat' split) <;> simp)

@[simp] theorem State.busFault_keeps (k : RxFault) (s : State) : (s.busFault k).station.cfg = s.station.cfg ∧ (s.busFault
    k).station.held = s.station.held ∧ (s.busFault k).station.reading = s.station.reading := by
  and_intros <;> (unfold State.busFault; (try dsimp only); (repeat' split) <;> simp)

@[simp] theorem State.dropRx_keeps (k : RxFault) (s : State) : (s.dropRx k).station.cfg = s.station.cfg ∧ (s.dropRx
    k).station.held = s.station.held ∧ (s.dropRx k).station.reading = s.station.reading := by
  and_intros <;> (unfold State.dropRx; (try dsimp only); (repeat' split) <;> simp)

@[simp] theorem State.dropQuiet_keeps (s : State) : (s.dropQuiet).station.cfg = s.station.cfg ∧ (s.dropQuiet).station.held =
    s.station.held ∧ (s.dropQuiet).station.reading = s.station.reading := by
  and_intros <;> (unfold State.dropQuiet; (try dsimp only); (repeat' split) <;> simp)

@[simp] theorem State.takeClaim_keeps (f : RxFrame) (declareFirst : Bool) (s : State) : (s.takeClaim f declareFirst).station.cfg
    = s.station.cfg ∧ (s.takeClaim f declareFirst).station.held = s.station.held ∧ (s.takeClaim f declareFirst).station.reading
    = s.station.reading := by
  and_intros <;> (unfold State.takeClaim; (try dsimp only); (repeat' split) <;> simp)

@[simp] theorem State.enqueueRx_keeps (f : RxFrame) (s : State) : (s.enqueueRx f).station.cfg = s.station.cfg ∧ (s.enqueueRx
    f).station.held = s.station.held ∧ (s.enqueueRx f).station.reading = s.station.reading := by
  and_intros <;> (unfold State.enqueueRx; (try dsimp only); (repeat' split) <;> simp)

@[simp] theorem State.filterFrame_keeps (f : RxFrame) (own declareFirst : Bool) (s : State) : (s.filterFrame f own
    declareFirst).station.cfg = s.station.cfg ∧ (s.filterFrame f own declareFirst).station.held = s.station.held ∧
    (s.filterFrame f own declareFirst).station.reading = s.station.reading := by
  and_intros <;> (unfold State.filterFrame; (try dsimp only); (repeat' split) <;> simp)

@[simp] theorem State.deliver_keeps (f : RxFrame) (own declareFirst : Bool) (s : State) : (s.deliver f own
    declareFirst).station.cfg = s.station.cfg ∧ (s.deliver f own declareFirst).station.held = s.station.held ∧ (s.deliver f own
    declareFirst).station.reading = s.station.reading := by
  and_intros <;> (unfold State.deliver; (try dsimp only); (repeat' split) <;> simp)

@[simp] theorem State.receiveStart_keeps (s : State) : (s.receiveStart).station.cfg = s.station.cfg ∧
    (s.receiveStart).station.held = s.station.held ∧ (s.receiveStart).station.reading = s.station.reading := by
  and_intros <;> (unfold State.receiveStart; (try dsimp only); (repeat' split) <;> simp)

@[simp] theorem State.receiveData_keeps (x : Byte) (s : State) : (s.receiveData x).station.cfg = s.station.cfg ∧ (s.receiveData
    x).station.held = s.station.held ∧ (s.receiveData x).station.reading = s.station.reading := by
  and_intros <;> (unfold State.receiveData; (try dsimp only); (repeat' split) <;> simp)

@[simp] theorem State.receiveEnd_keeps (declareFirst : Bool) (s : State) : (s.receiveEnd declareFirst).station.cfg =
    s.station.cfg ∧ (s.receiveEnd declareFirst).station.held = s.station.held ∧ (s.receiveEnd declareFirst).station.reading =
    s.station.reading := by
  and_intros <;> (unfold State.receiveEnd; (try dsimp only); (repeat' split) <;> simp)

@[simp] theorem State.receiveBad_keeps (s : State) : (s.receiveBad).station.cfg = s.station.cfg ∧ (s.receiveBad).station.held =
    s.station.held ∧ (s.receiveBad).station.reading = s.station.reading := by
  and_intros <;> (unfold State.receiveBad; (try dsimp only); (repeat' split) <;> simp)

@[simp] theorem State.receiveSymbol_keeps (x : Symbol) (declareFirst : Bool) (s : State) : (s.receiveSymbol x
    declareFirst).station.cfg = s.station.cfg ∧ (s.receiveSymbol x declareFirst).station.held = s.station.held ∧
    (s.receiveSymbol x declareFirst).station.reading = s.station.reading := by
  and_intros <;> (unfold State.receiveSymbol; (try dsimp only); (repeat' split) <;> simp)

@[simp] theorem State.rxTimeout_keeps (s : State) : (s.rxTimeout).station.cfg = s.station.cfg ∧ (s.rxTimeout).station.held =
    s.station.held ∧ (s.rxTimeout).station.reading = s.station.reading := by
  and_intros <;> (unfold State.rxTimeout; (try dsimp only); (repeat' split) <;> simp)

@[simp] theorem State.collide_keeps (s : State) : (s.collide).station.cfg = s.station.cfg ∧ (s.collide).station.held =
    s.station.held ∧ (s.collide).station.reading = s.station.reading := by
  and_intros <;> (unfold State.collide; (try dsimp only); (repeat' split) <;> simp)

@[simp] theorem State.setAligned_core (s : State) : (s.setAligned).clock.core = s.clock.core := by
  unfold State.setAligned; (try dsimp only); (repeat' split) <;> simp [Clock.core]

@[simp] theorem State.clearAligned_core (s : State) : (s.clearAligned).clock.core = s.clock.core := by
  unfold State.clearAligned; (try dsimp only); (repeat' split) <;> simp [Clock.core]

@[simp] theorem State.passSelfTest_core (s : State) : (s.passSelfTest).clock.core = s.clock.core := by
  unfold State.passSelfTest; (try dsimp only); (repeat' split) <;> simp

@[simp] theorem State.releaseToListening_core (s : State) : (s.releaseToListening).clock.core = s.clock.core := by
  unfold State.releaseToListening; (try dsimp only); (repeat' split) <;> simp

@[simp] theorem State.loseJoined_core (s : State) : (s.loseJoined).clock.core = s.clock.core := by
  unfold State.loseJoined; (try dsimp only); (repeat' split) <;> simp

@[simp] theorem State.enterJoined_core (s : State) : (s.enterJoined).clock.core = s.clock.core := by
  unfold State.enterJoined; (try dsimp only); (repeat' split) <;> simp

@[simp] theorem State.release_core (s : State) : (s.release).clock.core = s.clock.core := by
  unfold State.release; (try dsimp only); (repeat' split) <;> simp

@[simp] theorem State.takeReleaseFrame_core (s : State) : (s.takeReleaseFrame).clock.core = s.clock.core := by
  unfold State.takeReleaseFrame; (try dsimp only); (repeat' split) <;> simp

@[simp] theorem State.refLost_core (s : State) : (s.refLost).clock.core = s.clock.core := by
  unfold State.refLost; (try dsimp only); (repeat' split) <;> simp

@[simp] theorem State.selfTestFrame_core (s : State) : (s.selfTestFrame).clock.core = s.clock.core := by
  unfold State.selfTestFrame; (try dsimp only); (repeat' split) <;> simp

@[simp] theorem State.joinFrame_core (s : State) : (s.joinFrame).clock.core = s.clock.core := by
  unfold State.joinFrame; (try dsimp only); (repeat' split) <;> simp

@[simp] theorem State.stationFrame_core (s : State) : (s.stationFrame).clock.core = s.clock.core := by
  unfold State.stationFrame; (try dsimp only); (repeat' split) <;> simp

/-! ### Operations that leave the station state -/

@[simp] theorem State.lockGained_state (s : State) : (s.lockGained).station.state = s.station.state := by
  unfold State.lockGained; (try dsimp only); (repeat' split) <;> simp

@[simp] theorem State.lockLost_state (s : State) : (s.lockLost).station.state = s.station.state := by
  unfold State.lockLost; (try dsimp only); (repeat' split) <;> simp

@[simp] theorem State.selfFault_state (s : State) : (s.selfFault).station.state = s.station.state := by
  unfold State.selfFault; (try dsimp only); (repeat' split) <;> simp

@[simp] theorem State.takeTest_state (f : RxFrame) (s : State) : (s.takeTest f).station.state = s.station.state := by
  unfold State.takeTest; (try dsimp only); (repeat' split) <;> simp

@[simp] theorem State.busFault_state (k : RxFault) (s : State) : (s.busFault k).station.state = s.station.state := by
  unfold State.busFault; (try dsimp only); (repeat' split) <;> simp

@[simp] theorem State.dropRx_state (k : RxFault) (s : State) : (s.dropRx k).station.state = s.station.state := by
  unfold State.dropRx; (try dsimp only); (repeat' split) <;> simp

@[simp] theorem State.dropQuiet_state (s : State) : (s.dropQuiet).station.state = s.station.state := by
  unfold State.dropQuiet; (try dsimp only); (repeat' split) <;> simp

@[simp] theorem State.enqueueRx_state (f : RxFrame) (s : State) : (s.enqueueRx f).station.state = s.station.state := by
  unfold State.enqueueRx; (try dsimp only); (repeat' split) <;> simp

@[simp] theorem State.receiveStart_state (s : State) : (s.receiveStart).station.state = s.station.state := by
  unfold State.receiveStart; (try dsimp only); (repeat' split) <;> simp

@[simp] theorem State.receiveData_state (x : Byte) (s : State) : (s.receiveData x).station.state = s.station.state := by
  unfold State.receiveData; (try dsimp only); (repeat' split) <;> simp

@[simp] theorem State.receiveBad_state (s : State) : (s.receiveBad).station.state = s.station.state := by
  unfold State.receiveBad; (try dsimp only); (repeat' split) <;> simp

@[simp] theorem State.rxTimeout_state (s : State) : (s.rxTimeout).station.state = s.station.state := by
  unfold State.rxTimeout; (try dsimp only); (repeat' split) <;> simp

@[simp] theorem State.collide_state (s : State) : (s.collide).station.state = s.station.state := by
  unfold State.collide; (try dsimp only); (repeat' split) <;> simp

@[simp] theorem State.releaseReset_state (s : State) : (s.releaseReset).station.state = s.station.state := by
  unfold State.releaseReset; (try dsimp only); (repeat' split) <;> simp

end Sys2Proof.Machine
end

