-- ==== Sys2Proof/Laws/Clock.lean ====
section
/-! SUPPORT. What can happen to the slot clock: the blocks' takings of a boundary move nothing of it but the aligned flag and the
tracker, and its own operations keep its counts in range. -/

namespace Sys2Proof.Machine

open Sys2Proof

/-! ### Takings move only the aligned flag and the tracker -/

/-- Between two states the clock moved in its aligned flag and its tracker alone, the tracker at most emptied, and the configuration
values stayed. -/
def ClockKept (s t : State) : Prop :=
  t.clock.core = s.clock.core ∧ t.station.cfg = s.station.cfg ∧ (t.clock.tracker = s.clock.tracker ∨ t.clock.tracker = [])

theorem ClockKept.refl (s : State) : ClockKept s s := ⟨rfl, rfl, Or.inl rfl⟩

theorem ClockKept.trans {s t u : State} (h : ClockKept s t) (k : ClockKept t u) : ClockKept s u := by
  refine ⟨k.1.trans h.1, k.2.1.trans h.2.1, ?_⟩
  rcases k.2.2 with e | e
  · rw [e]; exact h.2.2
  · exact Or.inr e

/-- A step that leaves the clock and the station record keeps the clock. -/
theorem ClockKept.of_eq {s t : State} (hc : t.clock = s.clock) (hs : t.station.cfg = s.station.cfg) : ClockKept s t := by
  simp [ClockKept, hc, hs]

@[simp] theorem State.setAligned_tracker (s : State) : s.setAligned.clock.tracker = s.clock.tracker := by simp [State.setAligned]

@[simp] theorem State.clearAligned_tracker (s : State) : s.clearAligned.clock.tracker = [] := by simp [State.clearAligned]

@[simp] theorem State.enterJoined_tracker (s : State) : s.enterJoined.clock.tracker = s.clock.tracker := by simp [State.enterJoined]

@[simp] theorem State.passSelfTest_tracker (s : State) : s.passSelfTest.clock.tracker = [] := by simp [State.passSelfTest]

@[simp] theorem State.releaseToListening_tracker (s : State) : s.releaseToListening.clock.tracker = [] := by
  simp [State.releaseToListening]

@[simp] theorem State.loseJoined_tracker (s : State) : s.loseJoined.clock.tracker = [] := by
  simp [State.loseJoined]

theorem State.release_clockKept (s : State) : ClockKept s s.release := by
  refine ⟨by simp, by simp, ?_⟩
  unfold State.release; dsimp only; split <;> simp

theorem State.takeReleaseFrame_clockKept (s : State) : ClockKept s s.takeReleaseFrame := by
  unfold State.takeReleaseFrame
  split
  · exact s.release_clockKept
  · exact .refl s

theorem State.refLost_clockKept (s : State) : ClockKept s s.refLost := by
  refine ⟨by simp, by simp, ?_⟩
  unfold State.refLost; dsimp only; split <;> simp

theorem State.selfTestFrame_clockKept (s : State) : ClockKept s s.selfTestFrame := by
  refine ⟨by simp, by simp, ?_⟩
  unfold State.selfTestFrame; dsimp only; (repeat' split) <;> simp

theorem State.joinFrame_clockKept (s : State) : ClockKept s s.joinFrame := by
  refine ⟨by simp, by simp, ?_⟩
  unfold State.joinFrame; (repeat' split) <;> simp

theorem State.stationFrame_clockKept (s : State) : ClockKept s s.stationFrame := by
  unfold State.stationFrame
  split
  · exact s.selfTestFrame_clockKept
  · exact s.joinFrame_clockKept
  all_goals exact .refl s

/-- A taking keeps the clock. -/
theorem runTask_clockKept (t : Task) (s : State) : ClockKept s (runTask t s) := by
  cases t
  case refLostStation => exact s.refLost_clockKept
  case station => exact s.stationFrame_clockKept
  all_goals exact .of_eq (by simp [runTask]) (by simp [runTask])

theorem State.runOwed_clockKept (t : Task) (s : State) : ClockKept s (s.runOwed t) := by
  unfold State.runOwed
  split
  · have h := runTask_clockKept t (s.setBoundary (s.boundary.paid t))
    exact ⟨by simpa using h.1, by simpa using h.2.1, by simpa using h.2.2⟩
  · exact .refl s

theorem foldl_clockKept {α : Type} {f : State → α → State} (h : ∀ s a, ClockKept s (f s a)) :
    ∀ (l : List α) (s : State), ClockKept s (l.foldl f s)
  | [], s => .refl s
  | a :: l, s => (h s a).trans (foldl_clockKept h l (f s a))

theorem State.takeTask_clockKept (t : Task) (s : State) : ClockKept s (s.takeTask t) :=
  (foldl_clockKept (fun s t => s.runOwed_clockKept t) _ s).trans (State.runOwed_clockKept t _)

theorem State.takeTasks_clockKept (ts : List Task) (s : State) : ClockKept s (s.takeTasks ts) :=
  foldl_clockKept (fun s t => s.takeTask_clockKept t) _ s

theorem State.drain_clockKept (s : State) : ClockKept s s.drain := s.takeTasks_clockKept allTasks

theorem State.quiet_clockKept (s : State) : ClockKept s s.quiet := by
  unfold State.quiet
  split
  · exact s.takeTask_clockKept _
  · exact .refl s

/-! ### Time and the queue -/

theorem runTask_pending_now (t : Task) (s : State) : (runTask t s).pending = s.pending ∧ (runTask t s).now = s.now := by
  cases t <;> simp [runTask]

@[simp] theorem State.runOwed_pending_now (t : Task) (s : State) :
    (s.runOwed t).pending = s.pending ∧ (s.runOwed t).now = s.now := by
  unfold State.runOwed
  split
  · simp [runTask_pending_now]
  · simp

@[simp] theorem State.takeTask_pending_now (t : Task) (s : State) :
    (s.takeTask t).pending = s.pending ∧ (s.takeTask t).now = s.now := by
  unfold State.takeTask
  constructor
  · exact (State.runOwed_pending_now _ _).1.trans (foldl_keeps State.pending (fun s t => (s.runOwed_pending_now t).1) _ _)
  · exact (State.runOwed_pending_now _ _).2.trans (foldl_keeps State.now (fun s t => (s.runOwed_pending_now t).2) _ _)

@[simp] theorem State.takeTasks_pending_now (ts : List Task) (s : State) :
    (s.takeTasks ts).pending = s.pending ∧ (s.takeTasks ts).now = s.now :=
  ⟨foldl_keeps State.pending (fun s t => (s.takeTask_pending_now t).1) _ _,
   foldl_keeps State.now (fun s t => (s.takeTask_pending_now t).2) _ _⟩

@[simp] theorem State.drain_pending_now (s : State) : s.drain.pending = s.pending ∧ s.drain.now = s.now :=
  s.takeTasks_pending_now allTasks

/-! ### The clock's own operations keep its counts in range -/

theorem Clock.core_eq_iff (c d : Clock) : c.core = d.core ↔
    c.held = d.held ∧ c.lock = d.lock ∧ c.lastEdge = d.lastEdge ∧ c.measured = d.measured ∧ c.slotLength = d.slotLength
      ∧ c.sip = d.sip ∧ c.pif = d.pif ∧ c.goodRun = d.goodRun ∧ c.badRun = d.badRun ∧ c.holdoverCount = d.holdoverCount
      ∧ c.slotStart = d.slotStart := by
  simp [Clock.core]

/-- What the counts, the edge and the slot length of a clock say together. -/
def Clock.sound (h : Thresholds) (c : Clock) : Prop := c.countsInRange ∧ c.holdoverHasNoEdge ∧ c.lengthInClamp h

theorem Clock.sound_of_core {h : Thresholds} {c d : Clock} (e : d.core = c.core) (k : c.sound h) : d.sound h := by
  rw [Clock.core_eq_iff] at e
  obtain ⟨e1, e2, e3, e4, e5, e6, e7, e8, e9, e10, e11⟩ := e
  simpa [Clock.sound, Clock.countsInRange, Clock.holdoverHasNoEdge, Clock.lengthInClamp, e1, e2, e3, e5, e6, e7, e8, e9, e10] using k

/-- The thresholds of a table line lie in order. -/
theorem thresholdsOf_ordered (f : RefFreq) :
    (thresholdsOf f).clampLow ≤ (thresholdsOf f).nominalSlot ∧ (thresholdsOf f).nominalSlot ≤ (thresholdsOf f).clampHigh := by
  cases f <;> decide

theorem slotLengthOf_in_clamp (f : RefFreq) (period : Nat) :
    (thresholdsOf f).clampLow ≤ slotLengthOf (thresholdsOf f) period
      ∧ slotLengthOf (thresholdsOf f) period ≤ (thresholdsOf f).clampHigh := by
  have h := thresholdsOf_ordered f
  exact ⟨Nat.le_max_left _ _, Nat.max_le.mpr ⟨Nat.le_trans h.1 h.2, Nat.min_le_left _ _⟩⟩

theorem Clock.startEdge_sound {h : Thresholds} (t : Instant) {c : Clock} (k : c.sound h) : (c.startEdge t).sound h := by
  obtain ⟨⟨a1, a2, a3, a4, a5, a6, a7, a8⟩, b, d⟩ := k
  refine ⟨?_, ?_, ?_⟩
  · simp only [Clock.countsInRange, Clock.startEdge]
    refine ⟨a1, a2, by omega, by omega, ?_, by simp, by simp, ?_⟩ <;> split <;> simp_all
  · simp only [Clock.holdoverHasNoEdge, Clock.startEdge]
    split <;> simp_all
  · simp only [Clock.lengthInClamp, Clock.startEdge] at *
    intro e
    have d := d e
    refine ⟨d.1, d.2.1, ?_⟩
    split <;> simp_all

theorem Clock.acceptEdge_sound (f : RefFreq) (t : Instant) (k : EdgeClass) {c : Clock} (hk : c.sound (thresholdsOf f)) :
    (c.acceptEdge (thresholdsOf f) t k).1.sound (thresholdsOf f) := by
  have ho := thresholdsOf_ordered f
  cases k with
  | glitch => simpa [Clock.acceptEdge] using hk
  | start => exact Clock.startEdge_sound t hk
  | measured elapsed =>
    have hs := slotLengthOf_in_clamp f (elapsed / 10)
    unfold Clock.acceptEdge
    dsimp only
    split
    · rename_i hl
      unfold Clock.edgeUnlocked
      obtain ⟨⟨a1, a2, a3, a4, a5, a6, a7, a8⟩, b, d⟩ := hk
      (repeat' split) <;>
        simp_all [Clock.sound, Clock.countsInRange, Clock.holdoverHasNoEdge, Clock.lengthInClamp, Clock.measure] <;> omega
    · rename_i hl
      unfold Clock.edgeLocked
      obtain ⟨⟨a1, a2, a3, a4, a5, a6, a7, a8⟩, b, d⟩ := hk
      (repeat' split) <;>
        simp_all [Clock.sound, Clock.countsInRange, Clock.holdoverHasNoEdge, Clock.lengthInClamp, Clock.measure] <;> omega
    · exact Clock.startEdge_sound t hk

theorem Clock.nextPeriod_sound {h : Thresholds} {c : Clock} (k : c.sound h) : c.nextPeriod.1.sound h := by
  obtain ⟨⟨a1, a2, a3, a4, a5, a6, a7, a8⟩, b, d⟩ := k
  refine ⟨⟨Nat.zero_le _, ?_, a3, a4, a5, a6, a7, a8⟩, b, d⟩
  have := Nat.mod_lt (c.pif + 1) (show 0 < 4 by omega)
  show (c.pif + 1) % 4 ≤ 3
  omega

theorem Clock.placeAfterEdge_sound {h : Thresholds} {c : Clock} (k : c.sound h) : c.placeAfterEdge.1.sound h := by
  unfold Clock.placeAfterEdge
  split
  · exact Clock.nextPeriod_sound k
  · obtain ⟨⟨a1, a2, a3, a4, a5, a6, a7, a8⟩, b, d⟩ := k
    exact ⟨⟨Nat.zero_le _, a2, a3, a4, a5, a6, a7, a8⟩, b, d⟩

theorem Clock.periodEnd_sound (f : RefFreq) {c : Clock} (k : c.sound (thresholdsOf f)) :
    (c.periodEnd (thresholdsOf f)).1.sound (thresholdsOf f) := by
  have ho := thresholdsOf_ordered f
  unfold Clock.periodEnd
  obtain ⟨⟨a1, a2, a3, a4, a5, a6, a7, a8⟩, b, d⟩ := k
  (repeat' split) <;>
    simp_all [Clock.sound, Clock.countsInRange, Clock.holdoverHasNoEdge, Clock.lengthInClamp] <;> omega

theorem Clock.loseEdge_sound {h : Thresholds} {c : Clock} (k : c.sound h) : c.loseEdge.sound h := by
  obtain ⟨⟨a1, a2, a3, a4, a5, a6, a7, a8⟩, b, d⟩ := k
  refine ⟨?_, ?_, ?_⟩
  · simp only [Clock.countsInRange, Clock.loseEdge]
    refine ⟨a1, a2, by omega, by omega, ?_, by simp, by simp, ?_⟩ <;> split <;> simp_all
  · simp [Clock.holdoverHasNoEdge, Clock.loseEdge]
  · simp only [Clock.lengthInClamp, Clock.loseEdge] at *
    intro e
    have d := d e
    refine ⟨d.1, d.2.1, ?_⟩
    split <;> simp_all

theorem Clock.tick_sound {h : Thresholds} {c : Clock} (k : c.sound h) (hs : c.sip < 15) :
    ({ c with sip := c.sip + 1 } : Clock).sound h := by
  obtain ⟨⟨a1, a2, a3, a4, a5, a6, a7, a8⟩, b, d⟩ := k
  exact ⟨⟨by show c.sip + 1 ≤ 15; omega, a2, a3, a4, a5, a6, a7, a8⟩, b, d⟩

theorem Clock.renumbered_sound {h : Thresholds} (q : Nat) {c : Clock} (k : c.sound h) : (c.renumbered q).sound h := by
  obtain ⟨⟨a1, a2, a3, a4, a5, a6, a7, a8⟩, b, d⟩ := k
  refine ⟨⟨a1, ?_, a3, a4, a5, a6, a7, a8⟩, b, d⟩
  have := Nat.mod_lt (c.pif + 4 - q / 16) (show 0 < 4 by omega)
  show (c.pif + 4 - q / 16) % 4 ≤ 3
  omega

theorem Clock.started_sound (t : Instant) (f : RefFreq) : (Clock.started t f).sound (thresholdsOf f) := by
  cases f <;>
    simp [Clock.sound, Clock.countsInRange, Clock.holdoverHasNoEdge, Clock.lengthInClamp, Clock.started, Clock.reset, thresholdsOf]

/-! ### The disagreement tracker -/

theorem trackerInRange_nil : trackerInRange [] := by simp [trackerInRange]

/-- The rounded offset of a DISAGREE verdict is 16, 32 or 48 (R10). -/
theorem verdictOf_disagree {d q : Nat} (hd : d < 64) (h : verdictOf d = .disagree q) : q = 16 ∨ q = 32 ∨ q = 48 := by
  unfold verdictOf at h
  (repeat' split at h) <;> simp at h <;> omega

theorem stampOffset_lt (own stamp : Nat) : stampOffset own stamp < 64 := Nat.mod_lt _ (by omega)

/-- A disagreeing peer that completes no third record leaves the tracker in range (R13). -/
theorem Clock.disagreed_inRange {c : Clock} {address q : Nat} (hc : trackerInRange c.tracker) (hq : q = 16 ∨ q = 32 ∨ q = 48)
    (hs : (c.disagreed address q).slips q = false) : trackerInRange (c.disagreed address q).tracker := by
  obtain ⟨h1, h2, h3⟩ := hc
  refine ⟨?_, ?_, ?_⟩
  · simp only [Clock.disagreed, List.map_append, List.map_cons, List.map_nil]
    rw [List.nodup_append]
    refine ⟨?_, by simp, ?_⟩
    · exact List.Nodup.sublist (List.Sublist.map _ (List.filter_sublist (l := c.tracker))) h1
    · intro a ha b hb
      simp only [List.mem_map, List.mem_filter] at ha
      obtain ⟨x, ⟨_, hx⟩, rfl⟩ := ha
      simp only [List.mem_singleton] at hb
      subst hb
      simpa using hx
  · intro x hx
    simp only [Clock.disagreed, List.mem_append, List.mem_filter, List.mem_singleton] at hx
    rcases hx with ⟨hx, _⟩ | rfl
    · exact h2 x hx
    · exact hq
  · intro r
    by_cases e : r = q
    · subst e
      simp only [Clock.slips, decide_eq_false_iff_not] at hs
      omega
    · simp only [Clock.disagreed, List.filter_append, List.filter_filter]
      have hl : (c.tracker.filter fun x => (x.offset == r) && (x.address != address)).length ≤ 2 := by
        refine Nat.le_trans ?_ (h3 r)
        have e : (c.tracker.filter fun x => (x.offset == r) && (x.address != address))
            = ((c.tracker.filter fun x => x.offset == r).filter fun x => x.address != address) := by
          rw [List.filter_filter]; congr 1; funext x; exact Bool.and_comm _ _
        rw [e]
        exact List.length_filter_le _ _
      have hn : ([({ address := address, offset := q } : Disagreement)].filter fun x => x.offset == r) = [] := by
        simp; exact fun h => e h.symm
      rw [hn]
      simpa using hl

/-! ### The takings leave what the boundary event carried -/

/-- What a slot boundary event carries (R9). -/
def Boundary.event (b : Boundary) : Nat × Nat × Nat × Bool := (b.ended, b.duration, b.begun, b.frame)

theorem State.trackerBoundary_event (s : State) : s.trackerBoundary.boundary.event = s.boundary.event := by
  unfold State.trackerBoundary State.trackerFrame
  dsimp only
  split <;> simp [Boundary.event]

theorem runTask_event (t : Task) (s : State) : (runTask t s).boundary.event = s.boundary.event := by
  cases t
  case tracker => exact s.trackerBoundary_event
  all_goals simp [runTask]

@[simp] theorem State.runOwed_event (t : Task) (s : State) : (s.runOwed t).boundary.event = s.boundary.event := by
  unfold State.runOwed
  split
  · have h := runTask_event t (s.setBoundary (s.boundary.paid t))
    simpa [Boundary.event, Boundary.paid] using h
  · rfl

@[simp] theorem State.takeTask_event (t : Task) (s : State) : (s.takeTask t).boundary.event = s.boundary.event :=
  (State.runOwed_event _ _).trans (foldl_keeps (fun s : State => s.boundary.event) (fun (s : State) t => s.runOwed_event t) _ _)

@[simp] theorem State.takeTasks_event (ts : List Task) (s : State) : (s.takeTasks ts).boundary.event = s.boundary.event :=
  foldl_keeps (fun s : State => s.boundary.event) (fun (s : State) t => s.takeTask_event t) _ _

end Sys2Proof.Machine
end

