-- ==== Sys2Proof/Laws/Boundary.lean ====
section
/-! SUPPORT. What the end of a slot does: the clock it leaves, what the boundary carries, and what it still owes. -/

namespace Sys2Proof.Machine

open Sys2Proof

/-- Two clocks of one core differ in the aligned flag and the tracker alone. -/
theorem Clock.eq_of_core {c d : Clock} (h : c.core = d.core) : ∃ a tr, c = { d with aligned := a, tracker := tr } := by
  rw [Clock.core_eq_iff] at h
  obtain ⟨e1, e2, e3, e4, e5, e6, e7, e8, e9, e10, e11⟩ := h
  exact ⟨c.aligned, c.tracker, by cases c; cases d; simp_all⟩

theorem Clock.slot_of_core {c d : Clock} (h : c.core = d.core) : c.slot = d.slot ∧ c.slotStart = d.slotStart := by
  rw [Clock.core_eq_iff] at h
  simp [Clock.slot, h]

theorem State.limits_drain (s : State) : s.drain.limits = s.limits := by
  have h := s.drain_clockKept.2.1
  simp [State.limits, State.cfg, h]

/-- Everything the end of a slot says of the clock, the queue, the time and the boundary, whatever the blocks take of it. -/
theorem State.endSlot_spec (next : Clock × Bool) (notices ord : List Task) (df : Bool) (s : State) :
    (s.endSlot next notices ord df).pending = s.pending ∧ (s.endSlot next notices ord df).now = s.now
      ∧ (s.endSlot next notices ord df).clock.core = Clock.core { next.1 with slotStart := s.now }
      ∧ (s.endSlot next notices ord df).boundary.event
        = (s.clock.slot, (s.now - s.clock.slotStart) / 10, next.1.slot, next.2)
      ∧ (ord = [] → (s.endSlot next notices ord df).boundary.owed = notices ++ boundaryTasks next.2) := by
  unfold State.endSlot
  have hk := (s.closeSlot next notices df).takeTasks_clockKept ord
  refine ⟨?_, ?_, ?_, ?_, ?_⟩
  · exact ((State.takeTasks_pending_now _ _).1).trans (by simp [State.closeSlot])
  · exact ((State.takeTasks_pending_now _ _).2).trans (by simp [State.closeSlot])
  · rw [hk.1]; simp [State.closeSlot]
  · exact (State.takeTasks_event _ _).trans (by simp [State.closeSlot, Boundary.event])
  · rintro rfl; simp [State.takeTasks, State.closeSlot]

/-- The end of a slot after what the boundary before still owed: the clock `c'` it is to leave need agree up to its core. -/
theorem State.drained_endSlot (s : State) (next : Clock × Bool) (notices ord : List Task) (df : Bool) (c' : Clock)
    (hc : Clock.core { next.1 with slotStart := s.now } = c'.core) :
    (s.drain.endSlot next notices ord df).pending = s.pending ∧ (s.drain.endSlot next notices ord df).now = s.now
      ∧ (s.drain.endSlot next notices ord df).clock.core = c'.core ∧ SlotEnded s (s.drain.endSlot next notices ord df) next.2
      ∧ (ord = [] → (s.drain.endSlot next notices ord df).boundary.owed = notices ++ boundaryTasks next.2) := by
  obtain ⟨h1, h2, h3, h4, h5⟩ := State.endSlot_spec next notices ord df s.drain
  have hs := Clock.slot_of_core s.drain_clockKept.1
  simp only [State.drain_pending_now] at h1 h2 h3 h4
  rw [hc] at h3
  refine ⟨h1, h2, h3, ?_, h5⟩
  have hb := Clock.slot_of_core h3
  have hb2 := Clock.slot_of_core hc
  simp [Boundary.event] at h4
  rw [hs.1, hs.2] at h4
  obtain ⟨g1, g2, g3, g4⟩ := h4
  refine ⟨g1, ?_, ?_, g4, ?_⟩
  · rw [g2, h2]
  · rw [g3, hb.1, ← hb2.1]; rfl
  · rw [hb.2, h2, ← hb2.2]

/-- A boundary that owes nothing is not taken again. -/
theorem State.drain_of_owed_nil {s : State} (h : s.boundary.owed = []) : s.drain = s := by
  have one : ∀ y, s.runOwed y = s := fun y => by simp [State.runOwed, h]
  have many : ∀ l : List Task, l.foldl (fun s t => s.runOwed t) s = s := by
    intro l
    induction l with
    | nil => rfl
    | cons a l ih => simp [one, ih]
  have take : ∀ x, s.takeTask x = s := fun x => by unfold State.takeTask; rw [many, one]
  have all : ∀ l : List Task, s.takeTasks l = s := by
    intro l
    unfold State.takeTasks
    induction l with
    | nil => rfl
    | cons a l ih => simp [take, ih]
  exact all _

end Sys2Proof.Machine
end

