-- ==== Sys2Proof/Laws/BridgeState.lean ====
section
/-! SUPPORT. The operations that leave the bridge state, and how far leaving OFF has come, as they were. -/

namespace Sys2Proof.Machine

open Sys2Proof

@[simp] theorem Bridge.placeSetpoint_state (sp : Setpoint) (b : Bridge) :
    (b.placeSetpoint sp).state = b.state ∧ (b.placeSetpoint sp).leaving = b.leaving := by
  unfold Bridge.placeSetpoint; (repeat' split) <;> simp

@[simp] theorem Bridge.placeOff_state (b : Bridge) : b.placeOff.state = b.state ∧ b.placeOff.leaving = b.leaving := by
  unfold Bridge.placeOff; (repeat' split) <;> simp

@[simp] theorem Bridge.logSlot_state (f : SlotLog → SlotLog) (b : Bridge) :
    (b.logSlot f).state = b.state ∧ (b.logSlot f).leaving = b.leaving := by simp [Bridge.logSlot]

@[simp] theorem Bridge.takeSetpoint_state (sp : Setpoint) (b : Bridge) :
    (b.takeSetpoint sp).state = b.state ∧ (b.takeSetpoint sp).leaving = b.leaving := by
  unfold Bridge.takeSetpoint Bridge.driveSetpoint Bridge.holdSetpoint; (repeat' split) <;> simp

@[simp] theorem Bridge.recordAccepted_state (n : Nat) (o : Bool) (sp : Setpoint) (b : Bridge) :
    (b.recordAccepted n o sp).state = b.state ∧ (b.recordAccepted n o sp).leaving = b.leaving := by
  unfold Bridge.recordAccepted; split <;> simp

@[simp] theorem State.handSlotSetpoint_bridgeState (sp : Setpoint) (s : State) : (s.handSlotSetpoint sp).bridge.state =
    s.bridge.state ∧ (s.handSlotSetpoint sp).bridge.leaving = s.bridge.leaving := by
  and_intros <;> (unfold State.handSlotSetpoint; (try dsimp only); (repeat' split) <;> simp)

@[simp] theorem State.handSetpointNow_bridgeState (sp : Setpoint) (s : State) : (s.handSetpointNow sp).bridge.state =
    s.bridge.state ∧ (s.handSetpointNow sp).bridge.leaving = s.bridge.leaving := by
  and_intros <;> (unfold State.handSetpointNow; (try dsimp only); (repeat' split) <;> simp)

@[simp] theorem State.engineSlot_bridgeState (s : State) : (s.engineSlot).bridge.state = s.bridge.state ∧
    (s.engineSlot).bridge.leaving = s.bridge.leaving := by
  and_intros <;> (unfold State.engineSlot; (try dsimp only); (repeat' split) <;> simp)

@[simp] theorem State.rehand_bridgeState (s : State) : (s.rehand).bridge.state = s.bridge.state ∧ (s.rehand).bridge.leaving =
    s.bridge.leaving := by
  and_intros <;> (unfold State.rehand; (try dsimp only); (repeat' split) <;> simp)

@[simp] theorem State.commitNotice_bridgeState (s : State) : (s.commitNotice).bridge.state = s.bridge.state ∧
    (s.commitNotice).bridge.leaving = s.bridge.leaving := by
  and_intros <;> (unfold State.commitNotice; (try dsimp only); (repeat' split) <;> simp)

@[simp] theorem State.stopReverse_bridgeState (s : State) : (s.stopReverse).bridge.state = s.bridge.state ∧
    (s.stopReverse).bridge.leaving = s.bridge.leaving := by
  and_intros <;> (unfold State.stopReverse; (try dsimp only); (repeat' split) <;> simp)

@[simp] theorem State.withdrawNotice_bridgeState (s : State) : (s.withdrawNotice).bridge.state = s.bridge.state ∧
    (s.withdrawNotice).bridge.leaving = s.bridge.leaving := by
  and_intros <;> (unfold State.withdrawNotice; (try dsimp only); (repeat' split) <;> simp)

@[simp] theorem State.withdraw_bridgeState (lockout : Bool) (s : State) : (s.withdraw lockout).bridge.state = s.bridge.state ∧
    (s.withdraw lockout).bridge.leaving = s.bridge.leaving := by
  and_intros <;> (unfold State.withdraw; (try dsimp only); (repeat' split) <;> simp)

@[simp] theorem State.mapSlip_bridgeState (s : State) : (s.mapSlip).bridge.state = s.bridge.state ∧ (s.mapSlip).bridge.leaving =
    s.bridge.leaving := by
  and_intros <;> (unfold State.mapSlip; (try dsimp only); (repeat' split) <;> simp)

@[simp] theorem State.testConflict_bridgeState (sender : Peer) (s : State) : (s.testConflict sender).bridge.state =
    s.bridge.state ∧ (s.testConflict sender).bridge.leaving = s.bridge.leaving := by
  and_intros <;> (unfold State.testConflict; (try dsimp only); (repeat' split) <;> simp)

@[simp] theorem State.applyClaim_bridgeState (p : Peer) (s : State) : (s.applyClaim p).bridge.state = s.bridge.state ∧
    (s.applyClaim p).bridge.leaving = s.bridge.leaving := by
  and_intros <;> (unfold State.applyClaim; (try dsimp only); (repeat' split) <;> simp)

@[simp] theorem State.tellEngine_bridgeState (n : MapNotices) (s : State) : (s.tellEngine n).bridge.state = s.bridge.state ∧
    (s.tellEngine n).bridge.leaving = s.bridge.leaving := by
  and_intros <;> (unfold State.tellEngine; (try dsimp only); (repeat' split) <;> simp)

@[simp] theorem State.expireUnneeded_bridgeState (s : State) : (s.expireUnneeded).bridge.state = s.bridge.state ∧
    (s.expireUnneeded).bridge.leaving = s.bridge.leaving := by
  and_intros <;> (unfold State.expireUnneeded; (try dsimp only); (repeat' split) <;> simp)

@[simp] theorem State.mapFrame_bridgeState (s : State) : (s.mapFrame).bridge.state = s.bridge.state ∧
    (s.mapFrame).bridge.leaving = s.bridge.leaving := by
  and_intros <;> (unfold State.mapFrame; (try dsimp only); (repeat' split) <;> simp)

@[simp] theorem State.mapBoundary_bridgeState (s : State) : (s.mapBoundary).bridge.state = s.bridge.state ∧
    (s.mapBoundary).bridge.leaving = s.bridge.leaving := by
  and_intros <;> (unfold State.mapBoundary; (try dsimp only); (repeat' split) <;> simp)

@[simp] theorem State.slip_bridgeState (q : Nat) (s : State) : (s.slip q).bridge.state = s.bridge.state ∧ (s.slip
    q).bridge.leaving = s.bridge.leaving := by
  and_intros <;> (unfold State.slip; (try dsimp only); (repeat' split) <;> simp)

@[simp] theorem State.trackVerdict_bridgeState (address : Nat) (v : Verdict) (s : State) : (s.trackVerdict address
    v).bridge.state = s.bridge.state ∧ (s.trackVerdict address v).bridge.leaving = s.bridge.leaving := by
  and_intros <;> (unfold State.trackVerdict; (try dsimp only); (repeat' split) <;> simp)

@[simp] theorem State.judgeStamp_bridgeState (address stamp : Nat) (s : State) : (s.judgeStamp address stamp).1.bridge.state =
    s.bridge.state ∧ (s.judgeStamp address stamp).1.bridge.leaving = s.bridge.leaving := by
  and_intros <;> (unfold State.judgeStamp; (try dsimp only); (repeat' split) <;> simp)

@[simp] theorem State.dropClaims_bridgeState (s : State) : (s.dropClaims).bridge.state = s.bridge.state ∧
    (s.dropClaims).bridge.leaving = s.bridge.leaving := by
  and_intros <;> (unfold State.dropClaims; (try dsimp only); (repeat' split) <;> simp)

@[simp] theorem State.loseJoined_bridgeState (s : State) : (s.loseJoined).bridge.state = s.bridge.state ∧
    (s.loseJoined).bridge.leaving = s.bridge.leaving := by
  and_intros <;> (unfold State.loseJoined; (try dsimp only); (repeat' split) <;> simp)

@[simp] theorem State.isolateBlocks_bridgeState (s : State) : (s.isolateBlocks).bridge.state = s.bridge.state ∧
    (s.isolateBlocks).bridge.leaving = s.bridge.leaving := by
  and_intros <;> (unfold State.isolateBlocks; (try dsimp only); (repeat' split) <;> simp)

@[simp] theorem State.enterIsolated_bridgeState (s : State) : (s.enterIsolated).bridge.state = s.bridge.state ∧
    (s.enterIsolated).bridge.leaving = s.bridge.leaving := by
  and_intros <;> (unfold State.enterIsolated; (try dsimp only); (repeat' split) <;> simp)

@[simp] theorem State.failSelfTest_bridgeState (s : State) : (s.failSelfTest).bridge.state = s.bridge.state ∧
    (s.failSelfTest).bridge.leaving = s.bridge.leaving := by
  and_intros <;> (unfold State.failSelfTest; (try dsimp only); (repeat' split) <;> simp)

@[simp] theorem State.askIsolated_bridgeState (s : State) : (s.askIsolated).bridge.state = s.bridge.state ∧
    (s.askIsolated).bridge.leaving = s.bridge.leaving := by
  and_intros <;> (unfold State.askIsolated; (try dsimp only); (repeat' split) <;> simp)

@[simp] theorem State.clash_bridgeState (kind : Kind) (declareFirst : Bool) (s : State) : (s.clash kind
    declareFirst).bridge.state = s.bridge.state ∧ (s.clash kind declareFirst).bridge.leaving = s.bridge.leaving := by
  and_intros <;> (unfold State.clash; (try dsimp only); (repeat' split) <;> simp)

@[simp] theorem State.enterLockout_bridgeState (df : Bool) (s : State) : (s.enterLockout df).bridge.state = s.bridge.state ∧
    (s.enterLockout df).bridge.leaving = s.bridge.leaving := by
  and_intros <;> (unfold State.enterLockout; (try dsimp only); (repeat' split) <;> simp)

@[simp] theorem State.refLost_bridgeState (s : State) : (s.refLost).bridge.state = s.bridge.state ∧ (s.refLost).bridge.leaving =
    s.bridge.leaving := by
  and_intros <;> (unfold State.refLost; (try dsimp only); (repeat' split) <;> simp)

@[simp] theorem State.takeClaim_bridgeState (f : RxFrame) (declareFirst : Bool) (s : State) : (s.takeClaim f
    declareFirst).bridge.state = s.bridge.state ∧ (s.takeClaim f declareFirst).bridge.leaving = s.bridge.leaving := by
  and_intros <;> (unfold State.takeClaim; (try dsimp only); (repeat' split) <;> simp)

@[simp] theorem State.filterFrame_bridgeState (f : RxFrame) (own declareFirst : Bool) (s : State) : (s.filterFrame f own
    declareFirst).bridge.state = s.bridge.state ∧ (s.filterFrame f own declareFirst).bridge.leaving = s.bridge.leaving := by
  and_intros <;> (unfold State.filterFrame; (try dsimp only); (repeat' split) <;> simp)

@[simp] theorem State.deliver_bridgeState (f : RxFrame) (own declareFirst : Bool) (s : State) : (s.deliver f own
    declareFirst).bridge.state = s.bridge.state ∧ (s.deliver f own declareFirst).bridge.leaving = s.bridge.leaving := by
  and_intros <;> (unfold State.deliver; (try dsimp only); (repeat' split) <;> simp)

@[simp] theorem State.receiveEnd_bridgeState (declareFirst : Bool) (s : State) : (s.receiveEnd declareFirst).bridge.state =
    s.bridge.state ∧ (s.receiveEnd declareFirst).bridge.leaving = s.bridge.leaving := by
  and_intros <;> (unfold State.receiveEnd; (try dsimp only); (repeat' split) <;> simp)

@[simp] theorem State.refLostMap_bridgeState (s : State) : (s.refLostMap).bridge.state = s.bridge.state ∧
    (s.refLostMap).bridge.leaving = s.bridge.leaving := by
  and_intros <;> (unfold State.refLostMap; (try dsimp only); (repeat' split) <;> simp)

end Sys2Proof.Machine
end

