-- ==== Sys2Proof/Laws/Dose.lean ====
section
/-! SUPPORT. Which slot record and which snapshot a report finds (R127, R130), the entry that stands for a carrier (R88), and a taking of a
boundary whose needs are met (R9). -/

namespace Sys2Proof.Machine

open Sys2Proof

/-- The last element that satisfies a test, by its place. -/
theorem findLast_of_split {α : Type} {p : α → Bool} {pre post : List α} {x : α} (hx : p x = true) (h : ∀ y ∈ post, p y = false) :
    findLast p (pre ++ x :: post) = some x := by
  have hn : post.reverse.find? p = none := by
    rw [List.find?_eq_none]
    intro y hy
    simp [h y (List.mem_reverse.mp hy)]
  simp [findLast, List.find?_append, hn, hx]

/-- No element satisfies a test. -/
theorem findLast_eq_none {α : Type} {p : α → Bool} {xs : List α} (h : ∀ y ∈ xs, p y = false) : findLast p xs = none := by
  rw [findLast, List.find?_eq_none]
  intro y hy
  simp [h y (List.mem_reverse.mp hy)]

/-- A search of a store finds the element of the slot (log 35). -/
theorem findSlot_eq_some {α : Type} {slotOf serialOf : α → Nat} {slot serial : Nat} {xs : List α} {x : α}
    (h : IsOfSlot slotOf serialOf slot serial xs x) : findSlot slotOf serialOf slot serial xs = some x := by
  obtain ⟨pre, post, rfl, hs, h | ⟨hnone, hpost⟩⟩ := h
  · have own : findLast (fun x => slotOf x == slot && serialOf x == serial) (pre ++ x :: post) = some x := by
      refine findLast_of_split (by simp [hs, h.1]) fun y hy => ?_
      by_cases hsy : slotOf y = slot
      · simp [hsy, h.2 y hy hsy]
      · simp [hsy]
    simp [findSlot, own]
  · have none : findLast (fun x => slotOf x == slot && serialOf x == serial) (pre ++ x :: post) = none := by
      refine findLast_eq_none fun y hy => ?_
      by_cases hsy : slotOf y = slot
      · simp [hsy, hnone y hy hsy]
      · simp [hsy]
    simp only [findSlot, none]
    exact findLast_of_split (by simp [hs]) fun y hy => by simp [hpost y hy]

/-- A search of a store that holds no element of the number finds none. -/
theorem findSlot_eq_none {α : Type} {slotOf serialOf : α → Nat} {slot serial : Nat} {xs : List α} (h : ∀ x ∈ xs, slotOf x ≠ slot) :
    findSlot slotOf serialOf slot serial xs = none := by
  have own : findLast (fun x => slotOf x == slot && serialOf x == serial) xs = none :=
    findLast_eq_none fun y hy => by simp [h y hy]
  simp only [findSlot, own]
  exact findLast_eq_none fun y hy => by simp [h y hy]

/-- The slot record that a report finds. -/
theorem Dose.recordFor_of_isOfSlot {d : Dose} {slot serial : Nat} {x : SlotRecord}
    (h : IsOfSlot SlotRecord.slot SlotRecord.serial slot serial d.slotRecords x) : d.recordFor slot serial = x := by
  simp [Dose.recordFor, findSlot_eq_some h]

/-- The snapshot that a report finds. -/
theorem Dose.snapshotFor_of_isOfSlot {d : Dose} {slot serial : Nat} {x : Snapshot}
    (h : IsOfSlot Snapshot.slot Snapshot.serial slot serial d.snapshots x) : d.snapshotFor slot serial = some x := by
  simp [Dose.snapshotFor, findSlot_eq_some h]

/-- A carrier in the table stands by its entry. -/
theorem State.carrier?_of_entry {s : State} {tag : Nat} {e : Entry} (h : s.entry? tag = some e) : s.carrier? tag = some e := by
  simp [State.carrier?, h]

/-- A carrier that has departed stands as it left (log 21). -/
theorem State.carrier?_of_departed {s : State} {tag : Nat} (h : s.entry? tag = none) :
    s.carrier? tag = s.tracker.departed.find? fun e => e.tag == tag := by
  simp [State.carrier?, h]

/-- An owed taking that needs nothing more is that block's operation, and the CLAIM it calls for follows (log 23). -/
theorem State.takeTask_of_met {s : State} {t : Sys2Proof.Task} (ht : t ∈ s.boundary.owed)
    (hn : ∀ x ∈ taskNeeds t, x ∉ s.boundary.owed) :
    s.takeTask t = (runTask t (s.setBoundary (s.boundary.paid t))).flushClaim := by
  have skip : ∀ ts : List Sys2Proof.Task, (∀ x ∈ ts, x ∉ s.boundary.owed) → ts.foldl (fun s t => s.runOwed t) s = s := by
    intro ts
    induction ts with
    | nil => intro _; rfl
    | cons a rest ih =>
      intro h
      have ha : s.runOwed a = s := by simp [State.runOwed, h a List.mem_cons_self]
      simp only [List.foldl_cons, ha]
      exact ih fun x hx => h x (List.mem_cons_of_mem a hx)
  unfold State.takeTask
  rw [skip _ hn]
  simp [State.runOwed, ht]

end Sys2Proof.Machine
end

