-- ==== Sys2Proof/Laws/Reverse.lean ====
section
/-! SUPPORT. What the operations of the engine, the map and the bus do to the setpoint in force and to the own claim pair. -/

namespace Sys2Proof.Machine

open Sys2Proof

/-! ### The setpoint in force -/

@[simp] theorem State.putActive_setpoint (c : Context) (s : State) : (s.putActive c).engine.setpoint = s.engine.setpoint := by
  unfold State.putActive; (try dsimp only); (repeat' split) <;> simp

@[simp] theorem State.buildActive_setpoint (carrier : Option Nat) (s : State) : (s.buildActive carrier).engine.setpoint =
    s.engine.setpoint := by
  unfold State.buildActive; (try dsimp only); (repeat' split) <;> simp

@[simp] theorem State.discardPrepared_setpoint (s : State) : (s.discardPrepared).engine.setpoint = s.engine.setpoint := by
  unfold State.discardPrepared; (try dsimp only); (repeat' split) <;> simp

@[simp] theorem State.buildPrepared_setpoint (carrier : Nat) (s : State) : (s.buildPrepared carrier).engine.setpoint =
    s.engine.setpoint := by
  unfold State.buildPrepared; (try dsimp only); (repeat' split) <;> simp

@[simp] theorem State.rebuildPrepared_setpoint (s : State) : (s.rebuildPrepared).engine.setpoint = s.engine.setpoint := by
  unfold State.rebuildPrepared; (try dsimp only); (repeat' split) <;> simp

@[simp] theorem State.swapPrepared_setpoint (s : State) : (s.swapPrepared).engine.setpoint = s.engine.setpoint := by
  unfold State.swapPrepared; (try dsimp only); (repeat' split) <;> simp

@[simp] theorem State.giveRequest_setpoint (owner : Owner) (p : Option Pattern) (s : State) : (s.giveRequest owner
    p).engine.setpoint = s.engine.setpoint := by
  unfold State.giveRequest; (try dsimp only); (repeat' split) <;> simp

@[simp] theorem State.settle_setpoint (s : State) : (s.settle).engine.setpoint = s.engine.setpoint := by
  unfold State.settle; (try dsimp only); (repeat' split) <;> simp

@[simp] theorem State.cancelRequest_setpoint (s : State) : (s.cancelRequest).engine.setpoint = s.engine.setpoint := by
  unfold State.cancelRequest; (try dsimp only); (repeat' split) <;> simp

@[simp] theorem State.dropStale_setpoint (forecast : Option Nat) (s : State) : (s.dropStale forecast).engine.setpoint =
    s.engine.setpoint := by
  unfold State.dropStale; (try dsimp only); (repeat' split) <;> simp

@[simp] theorem State.dropPreparedFor_setpoint (dominant : Option Nat) (s : State) : (s.dropPreparedFor
    dominant).engine.setpoint = s.engine.setpoint := by
  unfold State.dropPreparedFor; (try dsimp only); (repeat' split) <;> simp

@[simp] theorem State.followDominant_setpoint (dominant : Option Nat) (s : State) : (s.followDominant dominant).engine.setpoint
    = s.engine.setpoint := by
  unfold State.followDominant; (try dsimp only); (repeat' split) <;> simp

@[simp] theorem State.restIfNone_setpoint (dominant : Option Nat) (s : State) : (s.restIfNone dominant).engine.setpoint =
    s.engine.setpoint := by
  unfold State.restIfNone; (try dsimp only); (repeat' split) <;> simp

@[simp] theorem State.prepareFor_setpoint (forecast : Option Nat) (s : State) : (s.prepareFor forecast).engine.setpoint =
    s.engine.setpoint := by
  unfold State.prepareFor; (try dsimp only); (repeat' split) <;> simp

@[simp] theorem State.settleAfter_setpoint (stale : Bool) (s : State) : (s.settleAfter stale).engine.setpoint =
    s.engine.setpoint := by
  unfold State.settleAfter; (try dsimp only); (repeat' split) <;> simp

@[simp] theorem State.handOver_setpoint (dominant forecast : Option Nat) (s : State) : (s.handOver dominant
    forecast).engine.setpoint = s.engine.setpoint := by
  unfold State.handOver; (try dsimp only); (repeat' split) <;> simp

@[simp] theorem State.planFailed_setpoint (s : State) : (s.planFailed).engine.setpoint = s.engine.setpoint := by
  unfold State.planFailed; (try dsimp only); (repeat' split) <;> simp

@[simp] theorem State.redecideActive_setpoint (s : State) : (s.redecideActive).engine.setpoint = s.engine.setpoint := by
  unfold State.redecideActive; (try dsimp only); (repeat' split) <;> simp

@[simp] theorem State.renewPrepared_setpoint (s : State) : (s.renewPrepared).engine.setpoint = s.engine.setpoint := by
  unfold State.renewPrepared; (try dsimp only); (repeat' split) <;> simp

@[simp] theorem State.forgetRequest_setpoint (s : State) : (s.forgetRequest).engine.setpoint = s.engine.setpoint := by
  unfold State.forgetRequest; (try dsimp only); (repeat' split) <;> simp

@[simp] theorem State.engineSlip_setpoint (s : State) : (s.engineSlip).engine.setpoint = s.engine.setpoint := by
  unfold State.engineSlip; (try dsimp only); (repeat' split) <;> simp

@[simp] theorem State.recipeAvailable_setpoint (k : Key) (s : State) : (s.recipeAvailable k).engine.setpoint = s.engine.setpoint
    := by
  unfold State.recipeAvailable; (try dsimp only); (repeat' split) <;> simp

@[simp] theorem State.engineRestEnd_setpoint (s : State) : (s.engineRestEnd).engine.setpoint = s.engine.setpoint := by
  unfold State.engineRestEnd; (try dsimp only); (repeat' split) <;> simp

@[simp] theorem State.engineRebuild_setpoint (s : State) : (s.engineRebuild).engine.setpoint = s.engine.setpoint := by
  unfold State.engineRebuild; (try dsimp only); (repeat' split) <;> simp

@[simp] theorem State.engineListen_setpoint (s : State) : (s.engineListen).engine.setpoint = s.engine.setpoint := by
  unfold State.engineListen; (try dsimp only); (repeat' split) <;> simp

@[simp] theorem State.engineLockout_setpoint (s : State) : (s.engineLockout).engine.setpoint = s.engine.setpoint := by
  unfold State.engineLockout; (try dsimp only); (repeat' split) <;> simp

@[simp] theorem State.recipeNotice_setpoint (k : Key) (s : State) : (s.recipeNotice k).engine.setpoint = s.engine.setpoint := by
  unfold State.recipeNotice; (try dsimp only); (repeat' split) <;> simp

@[simp] theorem State.storeRecipe_setpoint (flushed : Option Key) (r : Recipe) (s : State) : (s.storeRecipe flushed
    r).engine.setpoint = s.engine.setpoint := by
  unfold State.storeRecipe; (try dsimp only); (repeat' split) <;> simp

@[simp] theorem State.placeRecipe_setpoint (r : Recipe) (s : State) : (s.placeRecipe r).engine.setpoint = s.engine.setpoint :=
    by
  unfold State.placeRecipe; (try dsimp only); (repeat' split) <;> simp

@[simp] theorem State.takeRecipeFrame_setpoint (f : RxFrame) (s : State) : (s.takeRecipeFrame f).engine.setpoint =
    s.engine.setpoint := by
  unfold State.takeRecipeFrame; (try dsimp only); (repeat' split) <;> simp

@[simp] theorem State.tickRest_setpoint (s : State) : (s.tickRest).engine.setpoint = s.engine.setpoint := by
  unfold State.tickRest; (try dsimp only); (repeat' split) <;> simp

@[simp] theorem State.trackerBoundary_setpoint (s : State) : (s.trackerBoundary).engine.setpoint = s.engine.setpoint := by
  unfold State.trackerBoundary; (try dsimp only); (repeat' split) <;> simp

/-! ### The own active part -/

@[simp] theorem SlotMap.answered_parts (a : Bool) (m : SlotMap) :
    (m.answered a).active = m.active ∧ (m.answered a).pending = m.pending := by
  cases a <;> simp [SlotMap.answered]

@[simp] theorem SlotMap.abandon_active (m : SlotMap) : m.abandon.active = m.active := by
  unfold SlotMap.abandon; split <;> rfl

@[simp] theorem SlotMap.abandon_pending (m : SlotMap) : m.abandon.pending = none := by
  unfold SlotMap.abandon; split <;> simp_all

@[simp] theorem SlotMap.ask_active (p : Pattern) (m : SlotMap) : (m.ask p).active = m.active := by
  unfold SlotMap.ask; split <;> simp

theorem SlotMap.ask_pending {p : Pattern} {m : SlotMap} (h : m.pending = none) : (m.ask p).pending = none := by
  unfold SlotMap.ask; split <;> simp_all

@[simp] theorem SlotMap.claimSent_parts (c : ClaimBody) (m : SlotMap) :
    (m.claimSent c).active = m.active ∧ (m.claimSent c).pending = m.pending := by
  unfold SlotMap.claimSent; split <;> simp

@[simp] theorem SlotMap.claimDropped_active (c : ClaimBody) (m : SlotMap) : (m.claimDropped c).active = m.active := by
  unfold SlotMap.claimDropped; split <;> simp

theorem SlotMap.claimDropped_pending {c : ClaimBody} {m : SlotMap} (h : m.pending = none) : (m.claimDropped c).pending = none := by
  unfold SlotMap.claimDropped; split <;> simp_all

@[simp] theorem State.sendClaim_active (s : State) : (s.sendClaim).map.active = s.map.active := by
  unfold State.sendClaim; (repeat' split) <;> (try (rename_i h; have h := congrArg Prod.fst h; dsimp only at h; subst h)) <;> simp

@[simp] theorem State.submitClaim_active (s : State) : (s.submitClaim).map.active = s.map.active := by
  unfold State.submitClaim; (try dsimp only); (repeat' split) <;> simp

@[simp] theorem State.flushClaim_active (s : State) : (s.flushClaim).map.active = s.map.active := by
  unfold State.flushClaim; (try dsimp only); (repeat' split) <;> simp

@[simp] theorem State.cancelPlan_active (s : State) : (s.cancelPlan).map.active = s.map.active := by
  unfold State.cancelPlan; (try dsimp only); (repeat' split) <;> simp

@[simp] theorem State.askPlan_active (p : Pattern) (s : State) : (s.askPlan p).map.active = s.map.active := by
  unfold State.askPlan; (try dsimp only); (repeat' split) <;> simp

@[simp] theorem State.giveRequest_active (owner : Owner) (p : Option Pattern) (s : State) : (s.giveRequest owner p).map.active =
    s.map.active := by
  unfold State.giveRequest; (try dsimp only); (repeat' split) <;> simp

@[simp] theorem State.settle_active (s : State) : (s.settle).map.active = s.map.active := by
  unfold State.settle; (try dsimp only); (repeat' split) <;> simp

@[simp] theorem State.cancelRequest_active (s : State) : (s.cancelRequest).map.active = s.map.active := by
  unfold State.cancelRequest; (try dsimp only); (repeat' split) <;> simp

@[simp] theorem State.settleAfter_active (stale : Bool) (s : State) : (s.settleAfter stale).map.active = s.map.active := by
  unfold State.settleAfter; (try dsimp only); (repeat' split) <;> simp

@[simp] theorem State.handOver_active (dominant forecast : Option Nat) (s : State) : (s.handOver dominant forecast).map.active =
    s.map.active := by
  unfold State.handOver; (try dsimp only); (repeat' split) <;> simp

@[simp] theorem State.planFailed_active (s : State) : (s.planFailed).map.active = s.map.active := by
  unfold State.planFailed; (try dsimp only); (repeat' split) <;> simp

@[simp] theorem State.commitNotice_active (s : State) : (s.commitNotice).map.active = s.map.active := by
  unfold State.commitNotice; (try dsimp only); (repeat' split) <;> simp

@[simp] theorem State.withdrawNotice_active (s : State) : (s.withdrawNotice).map.active = s.map.active := by
  unfold State.withdrawNotice; (try dsimp only); (repeat' split) <;> simp

@[simp] theorem State.engineSlip_active (s : State) : (s.engineSlip).map.active = s.map.active := by
  unfold State.engineSlip; (try dsimp only); (repeat' split) <;> simp

@[simp] theorem State.recipeAvailable_active (k : Key) (s : State) : (s.recipeAvailable k).map.active = s.map.active := by
  unfold State.recipeAvailable; (try dsimp only); (repeat' split) <;> simp

@[simp] theorem State.engineTrip_active (s : State) : (s.engineTrip).map.active = s.map.active := by
  unfold State.engineTrip; (try dsimp only); (repeat' split) <;> simp

@[simp] theorem State.engineRestEnd_active (s : State) : (s.engineRestEnd).map.active = s.map.active := by
  unfold State.engineRestEnd; (try dsimp only); (repeat' split) <;> simp

@[simp] theorem State.engineRebuild_active (s : State) : (s.engineRebuild).map.active = s.map.active := by
  unfold State.engineRebuild; (try dsimp only); (repeat' split) <;> simp

@[simp] theorem State.engineListen_active (s : State) : (s.engineListen).map.active = s.map.active := by
  unfold State.engineListen; (try dsimp only); (repeat' split) <;> simp

@[simp] theorem State.engineLockout_active (s : State) : (s.engineLockout).map.active = s.map.active := by
  unfold State.engineLockout; (try dsimp only); (repeat' split) <;> simp

@[simp] theorem State.withdrawalClaim_active (lockout : Bool) (s : State) : (s.withdrawalClaim lockout).map.active =
    s.map.active := by
  unfold State.withdrawalClaim; (try dsimp only); (repeat' split) <;> simp

@[simp] theorem State.testObjection_active (sender : Peer) (s : State) : (s.testObjection sender).map.active = s.map.active :=
    by
  unfold State.testObjection; (repeat' split) <;> simp [SlotMap.yield]

@[simp] theorem State.tellEngine_active (n : MapNotices) (s : State) : (s.tellEngine n).map.active = s.map.active := by
  unfold State.tellEngine; (try dsimp only); (repeat' split) <;> simp

@[simp] theorem State.retryClaim_active (s : State) : (s.retryClaim).map.active = s.map.active := by
  unfold State.retryClaim; (try dsimp only); (repeat' split) <;> simp

@[simp] theorem State.enliven_active (s : State) : (s.enliven).map.active = s.map.active := by
  unfold State.enliven; (try dsimp only); (repeat' split) <;> simp

@[simp] theorem State.recipeNotice_active (k : Key) (s : State) : (s.recipeNotice k).map.active = s.map.active := by
  unfold State.recipeNotice; (try dsimp only); (repeat' split) <;> simp

@[simp] theorem State.storeRecipe_active (flushed : Option Key) (r : Recipe) (s : State) : (s.storeRecipe flushed r).map.active
    = s.map.active := by
  unfold State.storeRecipe; (try dsimp only); (repeat' split) <;> simp

@[simp] theorem State.placeRecipe_active (r : Recipe) (s : State) : (s.placeRecipe r).map.active = s.map.active := by
  unfold State.placeRecipe; (try dsimp only); (repeat' split) <;> simp

@[simp] theorem State.takeRecipeFrame_active (f : RxFrame) (s : State) : (s.takeRecipeFrame f).map.active = s.map.active := by
  unfold State.takeRecipeFrame; (try dsimp only); (repeat' split) <;> simp

@[simp] theorem State.tickRest_active (s : State) : (s.tickRest).map.active = s.map.active := by
  unfold State.tickRest; (try dsimp only); (repeat' split) <;> simp

@[simp] theorem State.reportClaim_active (f : TxFrame) (sent : Bool) (s : State) : (s.reportClaim f sent).map.active =
    s.map.active := by
  unfold State.reportClaim; (try dsimp only); (repeat' split) <;> simp

@[simp] theorem State.frameSent_active (s : State) : (s.frameSent).map.active = s.map.active := by
  unfold State.frameSent; (try dsimp only); (repeat' split) <;> simp

@[simp] theorem State.collide_active (s : State) : (s.collide).map.active = s.map.active := by
  unfold State.collide; (try dsimp only); (repeat' split) <;> simp

/-! ### An absent own pending part stays absent -/

@[simp] theorem State.sendClaim_pending {s : State} (h : s.map.pending = none) : (s.sendClaim).map.pending = none := by
  unfold State.sendClaim; (repeat' split) <;> (try (rename_i e; have e := congrArg Prod.fst e; dsimp only at e; subst e)) <;> simp [h]

@[simp] theorem State.submitClaim_pending {s : State} (h : s.map.pending = none) : (s.submitClaim).map.pending = none := by
  unfold State.submitClaim; (try dsimp only); (repeat' split) <;> simp [h]

@[simp] theorem State.flushClaim_pending {s : State} (h : s.map.pending = none) : (s.flushClaim).map.pending = none := by
  unfold State.flushClaim; (try dsimp only); (repeat' split) <;> simp [h]

@[simp] theorem State.cancelPlan_pending {s : State} (h : s.map.pending = none) : (s.cancelPlan).map.pending = none := by
  unfold State.cancelPlan; (try dsimp only); (repeat' split) <;> simp [h]

@[simp] theorem State.askPlan_pending (p : Pattern) {s : State} (h : s.map.pending = none) : (s.askPlan p).map.pending = none :=
    by
  unfold State.askPlan; split <;> simp [SlotMap.ask_pending, h]

@[simp] theorem State.giveRequest_pending (owner : Owner) (p : Option Pattern) {s : State} (h : s.map.pending = none) :
    (s.giveRequest owner p).map.pending = none := by
  unfold State.giveRequest; (try dsimp only); (repeat' split) <;> simp [h]

@[simp] theorem State.settle_pending {s : State} (h : s.map.pending = none) : (s.settle).map.pending = none := by
  unfold State.settle; (try dsimp only); (repeat' split) <;> simp [h]

@[simp] theorem State.cancelRequest_pending {s : State} (h : s.map.pending = none) : (s.cancelRequest).map.pending = none := by
  unfold State.cancelRequest; (try dsimp only); (repeat' split) <;> simp [h]

@[simp] theorem State.settleAfter_pending (stale : Bool) {s : State} (h : s.map.pending = none) : (s.settleAfter
    stale).map.pending = none := by
  unfold State.settleAfter; (try dsimp only); (repeat' split) <;> simp [h]

@[simp] theorem State.handOver_pending (dominant forecast : Option Nat) {s : State} (h : s.map.pending = none) : (s.handOver
    dominant forecast).map.pending = none := by
  unfold State.handOver; (try dsimp only); (repeat' split) <;> simp [h]

@[simp] theorem State.planFailed_pending {s : State} (h : s.map.pending = none) : (s.planFailed).map.pending = none := by
  unfold State.planFailed; (try dsimp only); (repeat' split) <;> simp [h]

@[simp] theorem State.commitNotice_pending {s : State} (h : s.map.pending = none) : (s.commitNotice).map.pending = none := by
  unfold State.commitNotice; (try dsimp only); (repeat' split) <;> simp [h]

@[simp] theorem State.withdrawNotice_pending {s : State} (h : s.map.pending = none) : (s.withdrawNotice).map.pending = none :=
    by
  unfold State.withdrawNotice; (try dsimp only); (repeat' split) <;> simp [h]

@[simp] theorem State.engineSlip_pending {s : State} (h : s.map.pending = none) : (s.engineSlip).map.pending = none := by
  unfold State.engineSlip; (try dsimp only); (repeat' split) <;> simp [h]

@[simp] theorem State.recipeAvailable_pending (k : Key) {s : State} (h : s.map.pending = none) : (s.recipeAvailable
    k).map.pending = none := by
  unfold State.recipeAvailable; (try dsimp only); (repeat' split) <;> simp [h]

@[simp] theorem State.engineTrip_pending {s : State} (h : s.map.pending = none) : (s.engineTrip).map.pending = none := by
  unfold State.engineTrip; (try dsimp only); (repeat' split) <;> simp [h]

@[simp] theorem State.engineRestEnd_pending {s : State} (h : s.map.pending = none) : (s.engineRestEnd).map.pending = none := by
  unfold State.engineRestEnd; (try dsimp only); (repeat' split) <;> simp [h]

@[simp] theorem State.engineRebuild_pending {s : State} (h : s.map.pending = none) : (s.engineRebuild).map.pending = none := by
  unfold State.engineRebuild; (try dsimp only); (repeat' split) <;> simp [h]

@[simp] theorem State.engineListen_pending {s : State} (h : s.map.pending = none) : (s.engineListen).map.pending = none := by
  unfold State.engineListen; (try dsimp only); (repeat' split) <;> simp [h]

@[simp] theorem State.engineLockout_pending {s : State} (h : s.map.pending = none) : (s.engineLockout).map.pending = none := by
  unfold State.engineLockout; (try dsimp only); (repeat' split) <;> simp [h]

@[simp] theorem State.withdrawalClaim_pending (lockout : Bool) {s : State} (h : s.map.pending = none) : (s.withdrawalClaim
    lockout).map.pending = none := by
  unfold State.withdrawalClaim; (try dsimp only); (repeat' split) <;> simp [h]

@[simp] theorem State.testObjection_pending (sender : Peer) {s : State} (h : s.map.pending = none) : (s.testObjection
    sender).map.pending = none := by
  unfold State.testObjection; (repeat' split) <;> simp [SlotMap.yield, h]

@[simp] theorem State.expireUnneeded_pending {s : State} (h : s.map.pending = none) : (s.expireUnneeded).map.pending = none := by
  unfold State.expireUnneeded
  have hm : (s.map.readNeed s.engine.active.needsClaim).1.pending = none := by
    unfold SlotMap.readNeed SlotMap.dropActive; (repeat' split) <;> simp_all
  dsimp only
  split
  · exact State.withdrawNotice_pending (by simpa using hm)
  · simpa using hm

@[simp] theorem State.tellEngine_pending (n : MapNotices) {s : State} (h : s.map.pending = none) : (s.tellEngine n).map.pending
    = none := by
  rcases n with ⟨_ | _, _ | _⟩ <;> simp (maxDischargeDepth := 5) [State.tellEngine, h]

@[simp] theorem State.retryClaim_pending {s : State} (h : s.map.pending = none) : (s.retryClaim).map.pending = none := by
  unfold State.retryClaim; (try dsimp only); (repeat' split) <;> simp [h]

@[simp] theorem State.enliven_pending {s : State} (h : s.map.pending = none) : (s.enliven).map.pending = none := by
  unfold State.enliven; (try dsimp only); (repeat' split) <;> simp [h]

@[simp] theorem State.recipeNotice_pending (k : Key) {s : State} (h : s.map.pending = none) : (s.recipeNotice k).map.pending =
    none := by
  unfold State.recipeNotice; (try dsimp only); (repeat' split) <;> simp [h]

@[simp] theorem State.storeRecipe_pending (flushed : Option Key) (r : Recipe) {s : State} (h : s.map.pending = none) :
    (s.storeRecipe flushed r).map.pending = none := by
  unfold State.storeRecipe; (try dsimp only); (repeat' split) <;> simp [h]

@[simp] theorem State.placeRecipe_pending (r : Recipe) {s : State} (h : s.map.pending = none) : (s.placeRecipe r).map.pending =
    none := by
  unfold State.placeRecipe; (try dsimp only); (repeat' split) <;> simp [h]

@[simp] theorem State.takeRecipeFrame_pending (f : RxFrame) {s : State} (h : s.map.pending = none) : (s.takeRecipeFrame
    f).map.pending = none := by
  unfold State.takeRecipeFrame; (try dsimp only); (repeat' split) <;> simp [h]

@[simp] theorem State.tickRest_pending {s : State} (h : s.map.pending = none) : (s.tickRest).map.pending = none := by
  unfold State.tickRest; (try dsimp only); (repeat' split) <;> simp [h]

@[simp] theorem State.reportClaim_pending (f : TxFrame) (sent : Bool) {s : State} (h : s.map.pending = none) : (s.reportClaim f
    sent).map.pending = none := by
  unfold State.reportClaim; (repeat' split) <;> simp [SlotMap.claimDropped_pending, h]

@[simp] theorem State.frameSent_pending {s : State} (h : s.map.pending = none) : (s.frameSent).map.pending = none := by
  unfold State.frameSent; (try dsimp only); (repeat' split) <;> simp [h]

@[simp] theorem State.collide_pending {s : State} (h : s.map.pending = none) : (s.collide).map.pending = none := by
  unfold State.collide; (try dsimp only); (repeat' split) <;> simp [h]

end Sys2Proof.Machine
end

