-- ==== Sys2Proof/Laws/SlotMapState.lean ====
section
/-! SUPPORT. What claims, plan requests and the engine's notices leave of the slot map: the peer table, the yield count, the hold and the
unneeded count. -/

namespace Sys2Proof.Machine

open Sys2Proof

/-- What only the slot map's own boundary, applied frames, slips and yields move. -/
def SlotMap.kept (m : SlotMap) : List Peer × Nat × Nat × Nat × Bool := (m.peers, m.yieldCount, m.hold, m.unneeded, m.live)

@[simp] theorem SlotMap.kept_eq (m n : SlotMap) : m.kept = n.kept ↔
    m.peers = n.peers ∧ m.yieldCount = n.yieldCount ∧ m.hold = n.hold ∧ m.unneeded = n.unneeded ∧ m.live = n.live := by
  simp [SlotMap.kept]

theorem SlotMap.answered_kept (a : Bool) (m : SlotMap) : (m.answered a).kept = m.kept := by cases a <;> simp [SlotMap.answered]

theorem SlotMap.abandon_kept (m : SlotMap) : m.abandon.kept = m.kept := by unfold SlotMap.abandon; split <;> simp

theorem SlotMap.ask_kept (p : Pattern) (m : SlotMap) : (m.ask p).kept = m.kept := by
  have h := m.abandon_kept
  unfold SlotMap.ask; split <;> simp_all

@[simp] theorem State.sendClaim_kept (s : State) : (s.sendClaim).map.peers = s.map.peers ∧ (s.sendClaim).map.yieldCount =
    s.map.yieldCount ∧ (s.sendClaim).map.hold = s.map.hold ∧ (s.sendClaim).map.unneeded = s.map.unneeded ∧
    (s.sendClaim).map.live = s.map.live := by
  have h := SlotMap.answered_kept (s.submit (.claim s.ownPair) .all).2 (s.submit (.claim s.ownPair) .all).1.map
  simpa [State.sendClaim] using h

@[simp] theorem State.submitClaim_kept (s : State) : (s.submitClaim).map.peers = s.map.peers ∧ (s.submitClaim).map.yieldCount =
    s.map.yieldCount ∧ (s.submitClaim).map.hold = s.map.hold ∧ (s.submitClaim).map.unneeded = s.map.unneeded ∧
    (s.submitClaim).map.live = s.map.live := by
  unfold State.submitClaim; (try dsimp only); (repeat' split) <;> simp

@[simp] theorem State.flushClaim_kept (s : State) : (s.flushClaim).map.peers = s.map.peers ∧ (s.flushClaim).map.yieldCount =
    s.map.yieldCount ∧ (s.flushClaim).map.hold = s.map.hold ∧ (s.flushClaim).map.unneeded = s.map.unneeded ∧
    (s.flushClaim).map.live = s.map.live := by
  unfold State.flushClaim; (try dsimp only); (repeat' split) <;> simp

@[simp] theorem State.cancelPlan_kept (s : State) : (s.cancelPlan).map.peers = s.map.peers ∧ (s.cancelPlan).map.yieldCount =
    s.map.yieldCount ∧ (s.cancelPlan).map.hold = s.map.hold ∧ (s.cancelPlan).map.unneeded = s.map.unneeded ∧
    (s.cancelPlan).map.live = s.map.live := by
  have h := s.map.abandon_kept
  simpa [State.cancelPlan] using h

@[simp] theorem State.askPlan_kept (p : Pattern) (s : State) : (s.askPlan p).map.peers = s.map.peers ∧ (s.askPlan
    p).map.yieldCount = s.map.yieldCount ∧ (s.askPlan p).map.hold = s.map.hold ∧ (s.askPlan p).map.unneeded = s.map.unneeded ∧
    (s.askPlan p).map.live = s.map.live := by
  have h := s.map.ask_kept p
  unfold State.askPlan
  split
  · simpa using h
  · simp

@[simp] theorem State.giveRequest_kept (owner : Owner) (p : Option Pattern) (s : State) : (s.giveRequest owner p).map.peers =
    s.map.peers ∧ (s.giveRequest owner p).map.yieldCount = s.map.yieldCount ∧ (s.giveRequest owner p).map.hold = s.map.hold ∧
    (s.giveRequest owner p).map.unneeded = s.map.unneeded ∧ (s.giveRequest owner p).map.live = s.map.live := by
  unfold State.giveRequest; (try dsimp only); (repeat' split) <;> simp

@[simp] theorem State.settle_kept (s : State) : (s.settle).map.peers = s.map.peers ∧ (s.settle).map.yieldCount =
    s.map.yieldCount ∧ (s.settle).map.hold = s.map.hold ∧ (s.settle).map.unneeded = s.map.unneeded ∧ (s.settle).map.live =
    s.map.live := by
  unfold State.settle; (try dsimp only); (repeat' split) <;> simp

@[simp] theorem State.cancelRequest_kept (s : State) : (s.cancelRequest).map.peers = s.map.peers ∧
    (s.cancelRequest).map.yieldCount = s.map.yieldCount ∧ (s.cancelRequest).map.hold = s.map.hold ∧
    (s.cancelRequest).map.unneeded = s.map.unneeded ∧ (s.cancelRequest).map.live = s.map.live := by
  unfold State.cancelRequest; (try dsimp only); (repeat' split) <;> simp

@[simp] theorem State.settleAfter_kept (stale : Bool) (s : State) : (s.settleAfter stale).map.peers = s.map.peers ∧
    (s.settleAfter stale).map.yieldCount = s.map.yieldCount ∧ (s.settleAfter stale).map.hold = s.map.hold ∧ (s.settleAfter
    stale).map.unneeded = s.map.unneeded ∧ (s.settleAfter stale).map.live = s.map.live := by
  unfold State.settleAfter; (try dsimp only); (repeat' split) <;> simp

@[simp] theorem State.handOver_kept (dominant forecast : Option Nat) (s : State) : (s.handOver dominant forecast).map.peers =
    s.map.peers ∧ (s.handOver dominant forecast).map.yieldCount = s.map.yieldCount ∧ (s.handOver dominant forecast).map.hold =
    s.map.hold ∧ (s.handOver dominant forecast).map.unneeded = s.map.unneeded ∧ (s.handOver dominant forecast).map.live =
    s.map.live := by
  unfold State.handOver; (try dsimp only); (repeat' split) <;> simp

@[simp] theorem State.planFailed_kept (s : State) : (s.planFailed).map.peers = s.map.peers ∧ (s.planFailed).map.yieldCount =
    s.map.yieldCount ∧ (s.planFailed).map.hold = s.map.hold ∧ (s.planFailed).map.unneeded = s.map.unneeded ∧
    (s.planFailed).map.live = s.map.live := by
  unfold State.planFailed; (try dsimp only); (repeat' split) <;> simp

@[simp] theorem State.commitNotice_kept (s : State) : (s.commitNotice).map.peers = s.map.peers ∧ (s.commitNotice).map.yieldCount
    = s.map.yieldCount ∧ (s.commitNotice).map.hold = s.map.hold ∧ (s.commitNotice).map.unneeded = s.map.unneeded ∧
    (s.commitNotice).map.live = s.map.live := by
  unfold State.commitNotice; (try dsimp only); (repeat' split) <;> simp

@[simp] theorem State.withdrawNotice_kept (s : State) : (s.withdrawNotice).map.peers = s.map.peers ∧
    (s.withdrawNotice).map.yieldCount = s.map.yieldCount ∧ (s.withdrawNotice).map.hold = s.map.hold ∧
    (s.withdrawNotice).map.unneeded = s.map.unneeded ∧ (s.withdrawNotice).map.live = s.map.live := by
  unfold State.withdrawNotice; (try dsimp only); (repeat' split) <;> simp

@[simp] theorem State.engineSlip_kept (s : State) : (s.engineSlip).map.peers = s.map.peers ∧ (s.engineSlip).map.yieldCount =
    s.map.yieldCount ∧ (s.engineSlip).map.hold = s.map.hold ∧ (s.engineSlip).map.unneeded = s.map.unneeded ∧
    (s.engineSlip).map.live = s.map.live := by
  unfold State.engineSlip; (try dsimp only); (repeat' split) <;> simp

@[simp] theorem State.recipeAvailable_kept (k : Key) (s : State) : (s.recipeAvailable k).map.peers = s.map.peers ∧
    (s.recipeAvailable k).map.yieldCount = s.map.yieldCount ∧ (s.recipeAvailable k).map.hold = s.map.hold ∧ (s.recipeAvailable
    k).map.unneeded = s.map.unneeded ∧ (s.recipeAvailable k).map.live = s.map.live := by
  unfold State.recipeAvailable; (try dsimp only); (repeat' split) <;> simp

@[simp] theorem State.engineTrip_kept (s : State) : (s.engineTrip).map.peers = s.map.peers ∧ (s.engineTrip).map.yieldCount =
    s.map.yieldCount ∧ (s.engineTrip).map.hold = s.map.hold ∧ (s.engineTrip).map.unneeded = s.map.unneeded ∧
    (s.engineTrip).map.live = s.map.live := by
  unfold State.engineTrip; (try dsimp only); (repeat' split) <;> simp

@[simp] theorem State.engineRestEnd_kept (s : State) : (s.engineRestEnd).map.peers = s.map.peers ∧
    (s.engineRestEnd).map.yieldCount = s.map.yieldCount ∧ (s.engineRestEnd).map.hold = s.map.hold ∧
    (s.engineRestEnd).map.unneeded = s.map.unneeded ∧ (s.engineRestEnd).map.live = s.map.live := by
  unfold State.engineRestEnd; (try dsimp only); (repeat' split) <;> simp

@[simp] theorem State.engineRebuild_kept (s : State) : (s.engineRebuild).map.peers = s.map.peers ∧
    (s.engineRebuild).map.yieldCount = s.map.yieldCount ∧ (s.engineRebuild).map.hold = s.map.hold ∧
    (s.engineRebuild).map.unneeded = s.map.unneeded ∧ (s.engineRebuild).map.live = s.map.live := by
  unfold State.engineRebuild; (try dsimp only); (repeat' split) <;> simp

@[simp] theorem State.engineListen_kept (s : State) : (s.engineListen).map.peers = s.map.peers ∧ (s.engineListen).map.yieldCount
    = s.map.yieldCount ∧ (s.engineListen).map.hold = s.map.hold ∧ (s.engineListen).map.unneeded = s.map.unneeded ∧
    (s.engineListen).map.live = s.map.live := by
  unfold State.engineListen; (try dsimp only); (repeat' split) <;> simp

@[simp] theorem State.engineLockout_kept (s : State) : (s.engineLockout).map.peers = s.map.peers ∧
    (s.engineLockout).map.yieldCount = s.map.yieldCount ∧ (s.engineLockout).map.hold = s.map.hold ∧
    (s.engineLockout).map.unneeded = s.map.unneeded ∧ (s.engineLockout).map.live = s.map.live := by
  unfold State.engineLockout; (try dsimp only); (repeat' split) <;> simp

@[simp] theorem State.withdrawalClaim_kept (lockout : Bool) (s : State) : (s.withdrawalClaim lockout).map.peers = s.map.peers ∧
    (s.withdrawalClaim lockout).map.yieldCount = s.map.yieldCount ∧ (s.withdrawalClaim lockout).map.hold = s.map.hold ∧
    (s.withdrawalClaim lockout).map.unneeded = s.map.unneeded ∧ (s.withdrawalClaim lockout).map.live = s.map.live := by
  unfold State.withdrawalClaim; (try dsimp only); (repeat' split) <;> simp

@[simp] theorem State.recipeNotice_kept (k : Key) (s : State) : (s.recipeNotice k).map.peers = s.map.peers ∧ (s.recipeNotice
    k).map.yieldCount = s.map.yieldCount ∧ (s.recipeNotice k).map.hold = s.map.hold ∧ (s.recipeNotice k).map.unneeded =
    s.map.unneeded ∧ (s.recipeNotice k).map.live = s.map.live := by
  unfold State.recipeNotice; (try dsimp only); (repeat' split) <;> simp

@[simp] theorem State.tellEngine_kept (n : MapNotices) (s : State) : (s.tellEngine n).map.peers = s.map.peers ∧
    (s.tellEngine n).map.yieldCount = s.map.yieldCount ∧ (s.tellEngine n).map.hold = s.map.hold ∧
    (s.tellEngine n).map.unneeded = s.map.unneeded ∧ (s.tellEngine n).map.live = s.map.live := by
  rcases n with ⟨_ | _, _ | _⟩ <;> simp [State.tellEngine]

/-- The slot map's boundary row that is at hand and still owed, at a frame boundary: the five steps, and the one CLAIM submission. -/
theorem State.ownTaking_slotMap_frame {due : State → Bool} {s : State} (hr : s.station.held = false)
    (ho : Task.slotMap ∈ s.boundary.owed) (hd : due s = true) (hl : s.map.live = true) (hf : s.boundary.frame = true) :
    s.ownTaking .slotMap due
      = (((s.setBoundary (s.boundary.paid .slotMap)).setMap s.map.tickWindow).mapFrame).flushClaim := by
  have h : s.boundary.owed.contains .slotMap = true := by simpa using ho
  simp only [State.ownTaking, State.unlessHeld, hr, h, hd, State.takeTask, taskNeeds, List.foldl, State.runOwed, runTask]
  simp [State.mapBoundary, hl, hf, Boundary.paid]

/-- A row that is not at hand changes nothing. -/
theorem State.ownTaking_not_due (t : Task) {due : State → Bool} {s : State} (hd : due s = false) : s.ownTaking t due = s := by
  unfold State.ownTaking State.unlessHeld; split <;> simp [hd]

/-- Step 2 of a frame boundary leaves the peer table, the yield count and the hold, whether or not the part has expired (R80). -/
@[simp] theorem State.expireUnneeded_kept (s : State) : s.expireUnneeded.map.peers = s.map.peers
    ∧ s.expireUnneeded.map.yieldCount = s.map.yieldCount ∧ s.expireUnneeded.map.hold = s.map.hold
    ∧ s.expireUnneeded.map.live = s.map.live := by
  unfold State.expireUnneeded SlotMap.readNeed SlotMap.dropActive
  dsimp only
  and_intros <;> ((repeat' split) <;> simp_all)

/-- Step 2 where the own active part is absent, needed, or not yet 16 frames without need: the unneeded count alone moves (R80). -/
theorem State.expireUnneeded_stays {s : State}
    (h : s.map.active = none ∨ s.engine.active.needsClaim = true ∨ s.map.unneeded ≠ 15) :
    s.expireUnneeded = s.setMap
      { s.map with
        unneeded :=
          if s.map.active.isNone then s.map.unneeded
          else if s.engine.active.needsClaim then 0 else s.map.unneeded + 1 } := by
  unfold State.expireUnneeded SlotMap.readNeed
  by_cases ha : s.map.active.isNone = true
  · simp only [ha, if_true]; rfl
  · by_cases hn : s.engine.active.needsClaim = true
    · simp [ha, hn]
    · have hu : s.map.unneeded + 1 ≠ 16 := by
        rcases h with h | h | h
        · simp [h] at ha
        · exact absurd h hn
        · omega
      simp only [ha, hn, hu, if_false]; rfl

/-- Step 2 at the sixteenth frame boundary without need: the own active part goes, and the engine is told (R80, R100). -/
theorem State.expireUnneeded_expires {s : State} (ha : s.map.active.isSome = true) (hn : s.engine.active.needsClaim = false)
    (hu : s.map.unneeded = 15) : s.expireUnneeded = (s.setMap s.map.dropActive).withdrawNotice := by
  unfold State.expireUnneeded SlotMap.readNeed
  cases hx : s.map.active <;> simp_all

/-- The five steps of a frame boundary with the results of the first four named (R85). -/
theorem State.mapFrame_of {s : State} {committed failed : Bool} {u c p : State} (hu : (s.setMap s.map.agePeers).expireUnneeded = u)
    (hc : u.closeWindow = (c, committed)) (hp : c.countAndPlan (u.map.windowClosed && u.map.pending.isSome) = (p, failed)) :
    s.mapFrame = ((p.setMap p.map.refreshed).tellEngine ⟨committed, failed⟩).flushClaim := by
  unfold State.mapFrame
  rw [hu]; dsimp only
  rw [hc]; dsimp only
  rw [hp]

theorem State.mapFrame_peers (s : State) : s.mapFrame.map.peers = s.map.agePeers.peers := by
  unfold State.mapFrame State.countAndPlan State.plan State.closeWindow
  dsimp only
  (repeat' split) <;> simp [SlotMap.refreshed, SlotMap.commit, SlotMap.yield]

end Sys2Proof.Machine
end

