-- ==== Sys2Proof/Tests/Slice0.lean ====
section
/-! SUPPORT. Tests: the checks of WellFormed, the worked values of the spec, and for each statement a state and operands that meet its
hypotheses. -/

namespace Sys2Proof.Tests

open Sys2Proof Sys2Proof.Machine

/-! ### WellFormed: one ill-formed term for each check -/

theorem test_illformed_image : (Instr.configurationReadDone 0 [0]).wellFormed = false := by decide
theorem test_illformed_refinEdge : (Instr.refinEdge 0 [.tracker, .tracker] false).wellFormed = false := by decide
theorem test_illformed_slotTimer : (Instr.slotTimerExpiry 0 [.station, .station] false).wellFormed = false := by decide
theorem test_illformed_lossLimit : (Instr.lossLimitExpiry 0 [.monitor, .monitor] false).wellFormed = false := by decide
theorem test_illformed_holdover : (Instr.holdoverExpiry 0 [.doseFrame, .doseFrame] false).wellFormed = false := by decide
theorem test_illformed_reading : (Instr.readingReceived 0#32 false).wellFormed = false := by decide
theorem test_illformed_ack : (Instr.ackReceived 0x40000000#32 false).wellFormed = false := by decide
theorem test_illformed_fault : (Instr.faultReceived 0x80000000#32 false).wellFormed = false := by decide
theorem test_wellformed_timer : (Instr.slotTimerExpiry 0 [.tracker, .engineSlot] false).wellFormed = true := by decide

/-! ### A small installation -/

/-- The configuration values of the tests: address 5, zone 6, 50 Hz, 500 kbit/s. -/
def cfg : Cfg :=
  { Cfg.unset with
    stationAddress := 5, zoneIndex := 6, zoneLength := 1000, zoneWindowArea := 1000, defaultArea := 500, defaultLength := 800
    forwardRating := 100, reverseRating := 80, lineReverseBudget := 200, onsetLimit := 2, confirmLimit := 200
    overcurrentMargin := 10, anodeVoltageLimit := 1000, deviationThreshold := 3, bridgeSlow := ⟨2, 2⟩, reverseDeficit := ⟨2, 2⟩
    anodeVoltage := ⟨2, 2⟩, busErrors := ⟨2, 2⟩ }

/-- The 64 bytes of that image before its check word. -/
def imageBody : List Byte :=
  [5, 6, 0, 50, 1] ++ toBE16 1000 ++ toBE16 1000 ++ toBE16 500 ++ toBE16 800 ++ toBE16 100 ++ toBE16 80 ++ toBE16 200 ++ [2]
    ++ toBE16 0 ++ toBE16 200 ++ [10] ++ toBE16 1000 ++ [3] ++ List.replicate 8 2 ++ List.replicate 28 0

/-- A station in JOINED with nothing under way. -/
def joined : State :=
  { State.reset with
    station := { Station.reset with state := .joined, cfg := some cfg, held := false }
    clock := { Clock.reset with held := false, slotLength := 12500, aligned := true }
    bus := { Bus.reset with rx := .hunting, lastActivity := some 0 }
    map := { SlotMap.reset with live := true } }

/-- A boundary that still owes one taking. -/
def owing (t : Task) (frame : Bool) (s : State) : State := { s with boundary := { s.boundary with owed := [t], frame := frame } }

/-- One frame waits in the receive queue. -/
def queued (f : RxFrame) : State := { joined with bus := { joined.bus with rxQueue := [f] } }

/-- A frame is in reception. -/
def hearing (bytes : List Byte) (own : Bool) : State := { joined with bus := { joined.bus with rx := .receiving ⟨bytes, 0, own⟩ } }

/-- A frame with its check word. -/
def checked (covered : List Byte) : List Byte := covered ++ checkBytes covered

/-- A bridge in a state, with one message going out. -/
def bridged (state : BridgeState) (sending : Option LaneMsg) : State :=
  { joined with bridge := { Bridge.reset with state := state, buffer := [], sending := sending } }

/-- A present entry at a position. -/
def present (tag leading : Nat) : Entry :=
  { tag := tag, present := true, recipePending := false, length := 800, leading := leading, entryTravel := leading
    trailingSeen := false, atExit := false, unannounced := false, querySends := 0, framesToNext := 0, queryDue := false
    record := ⟨7, none, 500, 800, false, false, false, []⟩ }

/-- A carrier table. -/
def tabled (table : List Entry) : State := { joined with tracker := { Tracker.reset with table := table, nextTag := 9 } }

/-- A record just opened. -/
def openRecord (tag : Nat) : OpenRecord := ⟨tag, 0, 0, 0, false, none, 8, 0, [], 0, 0⟩

/-- A recipe of 8 slots: 6 forward, 2 reverse. -/
def recipe : Recipe := ⟨⟨3, 1⟩, 8, [⟨.forward, 6, 100⟩, ⟨.reverse, 2, 50⟩], 10, []⟩

/-- A claim part of 8 slots. -/
def part : ClaimPart := ⟨8, 0, 8, [⟨6, 2, 10⟩]⟩

/-! ### Worked values of the spec -/

set_option maxRecDepth 100000 in
theorem test_imageIsGood : judgeImage (checked imageBody) = some cfg := by decide +kernel
set_option maxRecDepth 100000 in
theorem test_badCheckWord : judgeImage (imageBody ++ [0, 0]) = none := by decide +kernel
theorem test_recipeReadsBack : checkedRecipe recipe.bytes = some recipe := by decide +kernel
theorem test_claimPartReadsBack : readClaimParts (ClaimBody.bytes ⟨6, some part, none⟩ 17) = some (some part, none) := by decide +kernel
theorem test_startSymbol : startSymbol = 0b1111100000#10 := by decide
theorem test_slotLengthOfMeasuredPeriod : slotLengthOf (thresholdsOf .hz50) 20007 = 12500 := by decide
theorem test_stampOnePeriodBehind : verdictOf (stampOffset 20 4) = .disagree 16 := by decide

/-- Station 21 of chapter 4's planning example. -/
def cfg21 : Cfg :=
  { cfg with
    stationAddress := 21, zoneWindowArea := 4000, lineReverseBudget := 3500, onsetLimit := 1, reverseRating := 3000
    forwardRating := 2500 }

/-- The pattern of recipe (2207, 4). -/
def pattern21 : Pattern := ⟨16, [⟨7, 1, 4000⟩, ⟨14, 4, 6000⟩]⟩

theorem test_planningExample :
    planOver cfg21 [⟨16, 9, 8, [⟨0, 3, 2000⟩]⟩, ⟨8, 3, 8, [⟨0, 2, 1500⟩]⟩, ⟨16, 0, 8, [⟨14, 2, 1200⟩]⟩] pattern21 candidateScales
      = some ⟨16, 15, 7, [⟨7, 1, 1400⟩, ⟨14, 4, 2100⟩]⟩ := by decide +kernel
theorem test_backoffStation21 : backoffWait .kbit500 21 1 = 224 * 20 := by decide
theorem test_backoffStation9 : backoffWait .kbit500 9 1 = 352 * 20 := by decide
theorem test_chargeShares :
    let d : Dose := { Dose.reset with records := [openRecord 1, openRecord 2] }
    ((d.divide ⟨40, 1, [⟨1, 7, 4870⟩, ⟨2, 8, 4880⟩], 9750⟩ true 24300000).records.map OpenRecord.forward) = [12137539, 12162461] := by
  decide +kernel
theorem test_cycleVerdictOut : (Span.mk 0 none 16 8 16 96250000 88000000 false).out = true := by decide
theorem test_cycleVerdictIn : (Span.mk 0 none 16 8 16 96250000 89000000 false).out = false := by decide

/-! ### Every hypothesis is met: the machine, reset and configuration -/

theorem witness_StepRunsTheFrontCommand :
    State.pending { joined with pending := [.laneSend, .blroomRise] } = [.laneSend, .blroomRise]
      ∧ joined.pending = [] ∧ joined.boundary.owed = [] ∧ (owing .tracker true joined).boundary.owed = [.tracker]
      ∧ ∀ t ∈ [Task.tracker, .handOver, .engineSlot, .bridgeSlot, .doseFrame, .busFrame, .monitor],
        t ∈ (owing t true joined).boundary.owed ∧ ∀ x ∈ [Task.tracker, .handOver], x ≠ t → x ∉ (owing t true joined).boundary.owed :=
  ⟨rfl, rfl, rfl, rfl, by decide⟩

theorem witness_HeldPartTakesNothing :
    State.reset.station.held = true ∧ joined.station.held = false
      ∧ Instr.laneSend ≠ .hardwareReset ∧ Instr.laneSend ≠ .rstnRelease ∧ Instr.laneSend ≠ .blroomRise := by
  and_intros <;> first | rfl | decide

/-- A station that reads its configuration. -/
def loading : State := { State.reset with station := { Station.reset with held := false, reading := true } }

set_option maxRecDepth 100000 in
theorem witness_ConfigurationReadIsJudged :
    loading.running ∧ loading.station.reading = true ∧ (imageBody ++ [0, 0]).length = 66 ∧ judgeImage (imageBody ++ [0, 0]) = none
      ∧ (checked imageBody).length = 66 ∧ judgeImage (checked imageBody) = some cfg
      ∧ loading.bus.tx = .idle ∧ loading.bus.inFlight = none ∧ loading.bus.urgent = [] ∧ loading.bus.normal = [] :=
  ⟨rfl, rfl, rfl, by decide +kernel, rfl, by decide +kernel, rfl, rfl, rfl, rfl⟩

/-! ### The slot clock -/

/-- A clock with a last accepted edge at 0, in a lock state and a slot of its period. -/
def clocked (lock : Lock) (edge : Option Instant) (sip holdover : Nat) : State :=
  { joined with clock := { joined.clock with lock := lock, lastEdge := edge, sip := sip, holdoverCount := holdover } }

theorem witness_RefinGlitchAndStartEdge :
    (clocked .locked (some 0) 3 0).clockRuns ∧ (clocked .locked (some 0) 3 0).at 149999 - 0 < (clocked .locked (some 0) 3 0).limits.glitch
      ∧ (clocked .holdover none 8 2).clockRuns ∧ (clocked .holdover none 8 2).clock.lastEdge = none
      ∧ (clocked .locked (some 0) 7 0).limits.loss < (clocked .locked (some 0) 7 0).at 250001 - 0 := by
  and_intros <;> first | rfl | decide

theorem witness_RefinMeasuredEdge :
    (clocked .unlocked (some 0) 15 0).clockRuns ∧ (clocked .locked (some 0) 15 0).clockRuns
      ∧ (clocked .locked (some 0) 15 0).limits.glitch ≤ (clocked .locked (some 0) 15 0).at 150000 - 0
      ∧ (clocked .locked (some 0) 15 0).at 250000 - 0 ≤ (clocked .locked (some 0) 15 0).limits.loss
      ∧ (clocked .unlocked (some 0) 15 0).limits.bandLow ≤ (clocked .unlocked (some 0) 15 0).at 194000 - 0
      ∧ (clocked .unlocked (some 0) 15 0).at 206000 - 0 ≤ (clocked .unlocked (some 0) 15 0).limits.bandHigh
      ∧ ({ (clocked .unlocked (some 0) 15 0).clock with goodRun := 7 } : Clock).goodRun = 7
      ∧ ({ (clocked .locked (some 0) 15 0).clock with badRun := 3 } : Clock).badRun = 3
      ∧ (clocked .locked (some 0) 15 0).limits.bandHigh < (clocked .locked (some 0) 15 0).at 206001 - 0
      ∧ (clocked .locked (some 0) 15 0).boundary.owed = [] := by
  and_intros <;> first | rfl | decide

theorem witness_SlotTimerEndsSlots :
    (clocked .locked (some 0) 15 0).clockRuns
      ∧ ¬(clocked .locked (some 0) 14 0).clock.slotStart + (clocked .locked (some 0) 14 0).clock.slotLength
          ≤ (clocked .locked (some 0) 14 0).at 12499
      ∧ (clocked .locked (some 0) 15 0).clock.lastEdge ≠ none
      ∧ (clocked .locked (some 0) 14 0).clock.slotStart + (clocked .locked (some 0) 14 0).clock.slotLength
          ≤ (clocked .locked (some 0) 14 0).at 12500
      ∧ (clocked .holdover none 15 6).clock.lastEdge = none ∧ (clocked .holdover none 15 6).clock.holdoverCount ≠ 7 := by
  and_intros <;> first | rfl | decide

theorem witness_LossOfTheReference :
    (clocked .locked (some 0) 15 0).clockRuns
      ∧ (clocked .locked (some 0) 15 0).at 249999 < 0 + (clocked .locked (some 0) 15 0).limits.loss
      ∧ 0 + (clocked .locked (some 0) 15 0).limits.loss ≤ (clocked .locked (some 0) 15 0).at 250000
      ∧ (clocked .holdover none 15 7).clockRuns
      ∧ (clocked .holdover none 15 7).clock.slotStart + (clocked .holdover none 15 7).clock.slotLength
          ≤ (clocked .holdover none 15 7).at 12500
      ∧ (clocked .holdover none 15 7).boundary.owed = [] ∧ (clocked .holdover none 15 7).station.state = .joined
      ∧ (clocked .holdover none 15 7).map.live = true := by
  and_intros <;> first | rfl | decide

theorem witness_StampVerdicts : (63 : Nat) < 64 ∧ (0 : Nat) < 64 := by decide

/-- Two peers stand in the disagreement tracker with the offset of one period. -/
def disagreeing : State :=
  { joined with clock := { joined.clock with tracker := [⟨7, 16⟩, ⟨12, 16⟩] } }

theorem witness_PeerStampsAreJudged :
    joined.clock.aligned = true ∧ verdictOf (stampOffset joined.clock.slot 0) = .agree
      ∧ verdictOf (stampOffset joined.clock.slot 1) = .early ∧ verdictOf (stampOffset joined.clock.slot 5) = .reject
      ∧ verdictOf (stampOffset joined.clock.slot 48) = .disagree 16
      ∧ ((joined.clock.tracker.filter fun (x : Disagreement) => x.offset == 16) ++ [Disagreement.mk 7 16]).length < 3
      ∧ 3 ≤ ((disagreeing.clock.tracker.filter fun (x : Disagreement) => x.offset == 16) ++ [Disagreement.mk 21 16]).length
      ∧ disagreeing.clock.tracker.filter (fun (x : Disagreement) => x.address != 21) = disagreeing.clock.tracker
      ∧ State.reset.clock.aligned = false := by
  and_intros <;> first | rfl | decide

/-! ### The zone bus -/

theorem witness_ReceptionIsAbandoned :
    (hearing [8, 9] false).running ∧ (hearing [8, 9] false).bus.rx = .receiving ⟨[8, 9], 0, false⟩
      ∧ readSymbol 0b1111111110#10 = .abort ∧ readSymbol 0b1111111111#10 = .invalid
      ∧ 0 + 1300 * (10 * bitTime (hearing [8, 9] false).cfg.busRate) ≤ (hearing [8, 9] false).at 260000
      ∧ (hearing [8, 9] false).at 259999 < 0 + 1300 * (10 * bitTime (hearing [8, 9] false).cfg.busRate) := by
  and_intros <;> first | rfl | decide

theorem test_symbolInsideAFrameCountsAtItsLastBit : (hearing [8, 9] false |>.setNow 500).lineActive.bus.lastActivity = some 500 := rfl

theorem test_loneSymbolKeepsTheLineBusy :
    execDataSymbolReceived 1000 7 joined = .next { joined with now := 1000, bus := { joined.bus with lastActivity := some 1200 } } := rfl

theorem witness_StartAndDataSymbolsBuildTheFrame :
    joined.running ∧ joined.bus.rx = .hunting ∧ expectsData [8, 9, 0, 0, 0] = true
      ∧ ¬1200 < statedLength ([8, 9, 0, 0, 4] ++ [176]) ∧ 1200 < statedLength ([8, 9, 0, 0, 4] ++ [177])
      ∧ expectsData (checked [8, 9, 0, 0, 0, 0]) = false := by
  and_intros <;> first | decide +kernel | rfl

/-- The internal loop is on and the own transmitter is in a state. -/
def looped (tx : TxState) : State := { joined with bus := { joined.bus with loop := true, tx := tx } }

theorem witness_theLoopHearsTheOwnTransmitter :
    (looped .idle).running ∧ (looped .idle).bus.rx = .hunting ∧ (looped .idle).bus.loop = true ∧ (looped .idle).bus.tx ≠ .sending
      ∧ (looped .sending).bus.rx ≠ .off ∧ (looped .sending).bus.tx = .sending ∧ joined.bus.loop = false := by
  and_intros <;> first | rfl | decide

theorem witness_CompleteFrameChecks :
    checkFrame false (checked [8, 9, 0, 0, 0, 0]) = some ⟨.release, 9, .all, []⟩ := by decide +kernel

theorem witness_FrameEndIsFiltered :
    (hearing [8] false).running ∧ expectsData [8] = true ∧ checkFrame false [8, 9, 0, 0, 0, 0, 0, 0] = none
      ∧ checkFrame false (checked [8, 5, 0, 0, 0, 0]) = some ⟨.release, 5, .all, []⟩
      ∧ checkFrame false (checked [8, 9, 0, 0, 0, 0]) = some ⟨.release, 9, .all, []⟩
      ∧ checkFrame false (checked [8, 9, 2, 7, 0, 0]) = some ⟨.release, 9, .zone 7, []⟩
      ∧ expectsData (checked [8, 9, 2, 7, 0, 0]) = false ∧ joined.bus.loop = false ∧ joined.cfg.stationAddress = 5
      ∧ joined.cfg.zoneIndex = 6 := by
  and_intros <;> first | decide +kernel | rfl

/-- The first TEST frame as station 5 sends it to itself. -/
def testBytes : List Byte := checked (coveredBytes .test 5 (.station 5) (testPayload 1))

theorem witness_TestFrameReturns :
    expectsData testBytes = false ∧ checkFrame true testBytes = some ⟨.test, 5, .station 5, testPayload 1⟩
      ∧ State.running { hearing testBytes true with bus := { (hearing testBytes true).bus with loop := true } } :=
  ⟨by decide +kernel, by decide +kernel, rfl⟩

/-- A CLAIM of a peer with one active part, for a zone. -/
def claimBytes (zone : Nat) : List Byte := checked (coveredBytes .claim 9 .all (ClaimBody.bytes ⟨zone, some part, none⟩ 0))

theorem witness_ClashIsolatesTheStation :
    (hearing (claimBytes 6) false).running ∧ expectsData (claimBytes 6) = false
      ∧ checkFrame false (claimBytes 6) = some ⟨.claim, 9, .all, ClaimBody.bytes ⟨6, some part, none⟩ 0⟩
      ∧ byteAt (ClaimBody.bytes ⟨6, some part, none⟩ 0) 1 = joined.cfg.zoneIndex ∧ joined.addressed .all = true
      ∧ checkFrame false (checked [8, 5, 0, 0, 0, 0]) = some ⟨.release, joined.cfg.stationAddress, .all, []⟩
      ∧ joined.station.state = .joined ∧ joined.bus.tx ≠ .sending := by
  and_intros <;> first | decide +kernel | rfl

theorem witness_fieldTestAndCoverage :
    3 ≤ (ClaimBody.bytes ⟨7, some part, none⟩ 0).length ∧ part.offset < part.cycle ∧ (∀ r ∈ part.runs, r.start < part.cycle)
      ∧ part.runs = [] ++ ⟨6, 2, 10⟩ :: [] ∧ part.covers 7 = true ∧ part.current 7 = 10 ∧ part.onsets 6 = 1 ∧ part.onsets 7 = 0
      ∧ part.current 5 = 0 := by
  decide +kernel

/-- A table of 47 peer records. -/
def fullTable : State := { joined with map := { joined.map with peers := (List.range 47).map fun n => ⟨n + 10, 7, some part, none, 0⟩ } }

theorem witness_ClaimIsAppliedToThePeerTable :
    (hearing (claimBytes 7) false).running ∧ expectsData (claimBytes 7) = false
      ∧ checkFrame false (claimBytes 7) = some ⟨.claim, 9, .all, ClaimBody.bytes ⟨7, some part, none⟩ 0⟩
      ∧ joined.clock.aligned = true ∧ verdictOf (stampOffset joined.clock.slot 0) = .agree
      ∧ fieldTest 7 (ClaimBody.bytes ⟨7, some part, none⟩ 0) = some (some part, none)
      ∧ fieldTest 49 (ClaimBody.bytes ⟨49, some part, none⟩ 0) = none
      ∧ fieldTest 7 (ClaimBody.bytes ⟨7, none, none⟩ 0) = some (none, none)
      ∧ (fullTable.map.peers.find? fun p => p.address == 9) = none ∧ 47 ≤ fullTable.map.peers.length := by
  and_intros <;> first | decide +kernel | rfl

/-- A peer of lower address whose active part draws a current in slots 6 and 7 stands in the table beside the own pair. -/
def crowding (current : Nat) : Peer := ⟨4, 7, some ⟨8, 0, 8, [⟨6, 2, current⟩]⟩, some part, 0⟩

def crowded (current : Nat) : State :=
  { joined with map := { joined.map with active := some part, pending := some part, peers := [crowding current] } }

theorem witness_ownTestsAfterAClaim :
    ((crowded 191).map.applyFrame (crowding 191)).2 = true ∧ (crowding 191).address < (crowded 191).cfg.stationAddress
      ∧ (crowded 191).map.active = some part ∧ (crowded 191).map.pending = some part ∧ part.covers 6 = true
      ∧ (crowded 191).cfg.lineReverseBudget < ([part].map (ClaimPart.current 6)).sum + 191
      ∧ ¬(crowded 190).cfg.lineReverseBudget < ([part].map (ClaimPart.current 6)).sum + 190
      ∧ (∃ c, (crowding 191).active = some c ∧ c.covers 6 = true ∧ c.current 6 = 191)
      ∧ (∃ c, (crowding 191).pending = some c ∧ c.covers 7 = true) ∧ joined.map.active = none ∧ joined.map.pending = none := by
  and_intros <;> first | decide +kernel | exact ⟨_, rfl, by decide +kernel⟩ | exact ⟨_, rfl, by decide +kernel, by decide +kernel⟩

/-- The transmitter with a frame in flight. -/
def flying (tx : TxState) (attempts : Nat) (f : TxFrame) : State :=
  { joined with bus := { joined.bus with tx := tx, inFlight := some f, attempts := attempts } }

/-- A started CLAIM of the own zone with a pending part. -/
def ownClaim : TxFrame := ⟨.claim ⟨6, none, some part⟩, .all, true, 0, false⟩

theorem witness_TransmitterStartsAndWaits :
    (flying .waiting 0 ownClaim).running ∧ (flying .waiting 0 ownClaim).bus.lastActivity = some 0
      ∧ 0 + 16 * bitTime (flying .waiting 0 ownClaim).cfg.busRate ≤ (flying .waiting 0 ownClaim).at 320
      ∧ ¬0 + 16 * bitTime (flying .waiting 0 ownClaim).cfg.busRate ≤ (flying .waiting 0 ownClaim).at 319
      ∧ (flying .backoff 1 ownClaim).bus.backoffEnd ≤ (flying .backoff 1 ownClaim).at 0 := by
  and_intros <;> first | rfl | decide

theorem test_symbolUnderWayHoldsTheStart :
    execTxStart ⟨320, true⟩ (flying .waiting 0 ownClaim) = .next { flying .waiting 0 ownClaim with now := 320 } := rfl

/-- A JOINED station that waits with an unstarted CLAIM of its pending part, behind which five normal frames and a report wait. -/
def claiming : State :=
  { flying .waiting 0 { ownClaim with started := false } with
    bus :=
      { (flying .waiting 0 { ownClaim with started := false }).bus with
        normal := List.replicate 5 ⟨.recipeQuery ⟨3, 1⟩ 6, .all, false, 0, false⟩ }
    map := { joined.map with pending := some part }
    mon := { joined.mon with told := .joined, reports := [⟨.bridgeSlow, .declared, .history, 0⟩] } }

theorem test_discardedClaimLetsAReportFollow :
    claiming.loseJoined.mon.reports = [] ∧ claiming.loseJoined.bus.urgent = [] ∧ claiming.loseJoined.map.pending = none := by
  decide +kernel

theorem witness_SentFrameLeavesTheQueue :
    (flying .sending 0 ownClaim).running ∧ (flying .sending 0 ownClaim).bus.tx = .sending
      ∧ (flying .sending 0 ownClaim).bus.inFlight = some ownClaim ∧ Bus.reset.inFlight = none ∧ Bus.reset.urgent = []
      ∧ Bus.reset.normal = [] := ⟨rfl, rfl, rfl, rfl, rfl, rfl⟩

theorem witness_CollisionBacksOff :
    (flying .sending 6 ownClaim).running ∧ ownClaim.lastRun = false ∧ (flying .sending 6 ownClaim).bus.loop = false
      ∧ (flying .sending 6 ownClaim).bus.attempts + 1 < 8 ∧ (flying .sending 7 ownClaim).bus.attempts + 1 = 8 := by
  and_intros <;> first | rfl | decide

theorem witness_SubmissionsByClass :
    StationState.isolated.takes (.test 1) = false ∧ StationState.joined.takes (.claim ⟨6, none, none⟩) = true
      ∧ Body.urgent (.recipe recipe) = false ∧ (flying .sending 0 ownClaim).bus.startedClaim = true
      ∧ (flying .waiting 0 { ownClaim with started := false }).bus.startedClaim = false := by decide +kernel

/-! ### Frames taken by their owners -/

/-- The record of a carrier announced by ADMIT, and of one handed over with a zone record. -/
def admitted : DoseRecord := ⟨7, none, 500, 800, false, false, false, []⟩

def handed (zone : Nat) (resent : Bool) : DoseRecord :=
  ⟨8, none, 500, 800, resent, false, false, [⟨zone, 4, 0, 0, 8, 0, 0, 0, 0, 0, 0, 0, 0⟩]⟩

/-- A frame for the own zone. -/
def toZone (kind : FrameKind) (payload : List Byte) : RxFrame := ⟨kind, 9, .zone 6, payload⟩

/-- A carrier table with nothing taken wrongly. -/
theorem bounds_of_empty : Tracker.inBounds Tracker.reset := by
  and_intros <;> first | decide | exact List.Pairwise.nil | nofun

theorem witness_AdmitMakesAnExpectedEntry :
    (queued (toZone .admission admitted.bytes)).running ∧ (queued (toZone .admission admitted.bytes)).claimsFlushed
      ∧ (queued (toZone .admission admitted.bytes)).bus.rxQueue = toZone .admission admitted.bytes :: []
      ∧ checkedDoseRecord .admission admitted.bytes = some admitted ∧ checkedDoseRecord .admission (handed 4 false).bytes = none
      ∧ Dest.zone 7 ≠ .zone joined.cfg.zoneIndex ∧ (toZone .admission []).dest = .zone joined.cfg.zoneIndex
      ∧ joined.tracker.inBounds ∧ joined.tracker.table.length < 6 :=
  ⟨rfl, rfl, rfl, by decide +kernel, by decide +kernel, by decide, rfl, bounds_of_empty, by decide⟩

/-- A table of six expected entries. -/
def fullCarriers : List Entry := [3, 4, 5, 6, 7, 8].map fun n => { present n 0 with present := false }

theorem test_fullTableMeetsTheBounds : (tabled fullCarriers).tracker.inBounds ∧ (tabled fullCarriers).tracker.table.length = 6 := by
  and_intros <;> decide

/-- One unannounced entry. -/
def unknownCarrier : Entry := { present 4 300 with unannounced := true, framesToNext := 1 }

theorem witness_admitIdentifiesTheUnannounced :
    let s := tabled [unknownCarrier]
    let far := { unknownCarrier with trailingSeen := true, entryTravel := 774 }
    s.tracker.table.find? Entry.unannounced = some unknownCarrier ∧ s.tracker.inBounds ∧ far.entryTravel + 25 < admitted.length
      ∧ (∀ x ∈ s.tracker.table, x.leading ≤ s.cfg.zoneLength)
      ∧ ¬∃ e ∈ (tabled [{ unknownCarrier with record := handed 4 false }]).tracker.table, e.record.carrierId = admitted.carrierId := by
  intro s far; and_intros <;> first | decide +kernel | rfl

theorem witness_HandoverIsMatchedOrAppended :
    (queued (toZone .handover (handed 5 false).bytes)).running ∧ checkedDoseRecord .handover (handed 5 false).bytes = some (handed 5 false)
      ∧ checkedDoseRecord .handover (handed 6 true).bytes = some (handed 6 true)
      ∧ joined.tracker.table.find? Entry.unannounced = none
      ∧ (tabled [unknownCarrier]).tracker.table.find? Entry.unannounced = some unknownCarrier
      ∧ (tabled [unknownCarrier]).tracker.inBounds
      ∧ (∀ x ∈ (tabled [unknownCarrier]).tracker.table, x.leading ≤ (tabled [unknownCarrier]).cfg.zoneLength)
      ∧ ¬joined.cfg.zoneIndex ≤ 5 ∧ joined.cfg.zoneIndex ≤ 6 := by
  and_intros <;> first | decide +kernel | rfl

/-- The list of a query names carrier 7. -/
def queryBytes : List Byte := Body.payload 0 (.carrierQuery 7 [7])

theorem witness_CarrierQueryIsAnswered :
    (queued (toZone .carrierQuery queryBytes)).running ∧ readCarrierQuery joined.cfg.zoneIndex queryBytes = some (7, [7])
      ∧ readCarrierQuery joined.cfg.zoneIndex [7] = none
      ∧ [admitted, handed 5 false] = [admitted] ++ handed 5 false :: [] ∧ (handed 5 false).carrierId ∉ [7]
      ∧ ∀ d ∈ [admitted], d.carrierId ∈ [7] := by
  and_intros <;> first | decide +kernel | rfl

/-- A cache that wants one key and holds revisions of another id. -/
def caching (entries : List CacheEntry) (wanted : List Key) : Cache := ⟨entries, wanted.map fun k => ⟨k, 1, 1, false, 2, false⟩, []⟩

/-- The recipe in another revision. -/
def revised (rev : Nat) : Recipe := { recipe with key := ⟨3, rev⟩ }

theorem witness_RecipeIsPlaced :
    (queued (toZone .recipe (1 :: recipe.bytes))).running ∧ checkedRecipe ((0 :: recipe.bytes).drop 1) = some recipe
      ∧ checkedRecipe ([1, 2].drop 1) = none ∧ byteAt (1 :: recipe.bytes) 0 ≠ 0 ∧ byteAt (0 :: recipe.bytes) 0 = 0
      ∧ (caching [⟨recipe, 0⟩] []).placement recipe = .held recipe
      ∧ (caching [⟨revised 2, 1⟩, ⟨revised 3, 1⟩] []).placement (revised 4) = .limit
      ∧ (caching [⟨revised 2, 1⟩] []).placement recipe = .ignored
      ∧ (caching [⟨revised 2, 0⟩] []).placement (revised 4) = .new (some ⟨3, 2⟩)
      ∧ (caching [] [⟨3, 1⟩]).wants ⟨3, 1⟩ = true ∧ (caching [] []).wants ⟨3, 1⟩ = false := by
  and_intros <;> first | decide +kernel | rfl

/-- A recipe whose last and first segments form one run. -/
def wrapping : Recipe := ⟨⟨4, 1⟩, 16, [⟨.reverse, 2, 400⟩, ⟨.forward, 12, 100⟩, ⟨.reverse, 2, 500⟩], 10, []⟩

theorem witness_reverseRuns :
    (∀ g ∈ wrapping.segments, 1 ≤ g.len) ∧ (wrapping.segments.map Segment.len).sum = wrapping.cycle
      ∧ (∃ g ∈ wrapping.segments, g.kind = .reverse) ∧ wrapping.pattern = some ⟨16, [⟨14, 4, 500⟩]⟩
      ∧ ∀ g ∈ [Segment.mk .forward 16 100], g.kind ≠ .reverse := by
  decide +kernel

/-- Fifteen pinned entries and one that is not. -/
def fullCache : List CacheEntry := (List.range 15).map fun n => ⟨{ recipe with key := ⟨n + 10, 1⟩ }, 1⟩

theorem witness_roomIsMade :
    (caching [⟨recipe, 0⟩] []).entries.length < 16 ∧ 16 ≤ (caching (fullCache ++ [⟨recipe, 0⟩]) []).entries.length
      ∧ fullCache ++ [⟨recipe, 0⟩] = fullCache ++ ⟨recipe, 0⟩ :: [] ∧ (∀ e ∈ fullCache ++ [⟨recipe, 1⟩], e.pins ≠ 0)
      ∧ (∀ x ∈ fullCache ++ [], x.recipe.key ≠ recipe.key) := by
  and_intros <;> first | decide +kernel | rfl

theorem witness_PinRequestIsAnswered :
    (caching [⟨recipe, 0⟩] []).entries = [] ++ ⟨recipe, 0⟩ :: [] ∧ (caching [] []).holds ⟨3, 1⟩ = false
      ∧ (caching [] [⟨3, 1⟩]).wanted = [] ++ ⟨⟨3, 1⟩, 1, 1, false, 2, false⟩ :: [] ∧ (caching [] []).wants ⟨3, 1⟩ = false := by
  and_intros <;> first | decide +kernel | rfl

theorem witness_RevisionsDecideThePlacement :
    ((caching [⟨revised 2, 0⟩, ⟨revised 3, 1⟩] []).entries.filter fun e => e.recipe.key.id == recipe.key.id)
        = [⟨revised 2, 0⟩, ⟨revised 3, 1⟩]
      ∧ (∀ e ∈ (caching [⟨revised 2, 0⟩, ⟨revised 3, 1⟩] []).entries, e.recipe.key ≠ recipe.key)
      ∧ (revised 2).key.rev < (revised 3).key.rev ∧ (revised 3).key.rev < (revised 4).key.rev ∧ recipe.key.rev < (revised 3).key.rev
      ∧ (caching [⟨revised 2, 0⟩, ⟨recipe, 1⟩] []).entries = [⟨revised 2, 0⟩] ++ ⟨recipe, 1⟩ :: []
      ∧ ∀ x ∈ [CacheEntry.mk (revised 2) 0], x.recipe.key ≠ recipe.key := by
  and_intros <;> first | decide +kernel | rfl

/-- A query for the recipe from a zone. -/
def recipeQuery (zone : Nat) : RxFrame := ⟨.recipeQuery, 9, .all, Body.payload 0 (.recipeQuery ⟨3, 1⟩ zone)⟩

theorem witness_RecipeQueryIsScheduled :
    (queued (recipeQuery 48)).running ∧ (queued (recipeQuery 48)).claimsFlushed
      ∧ (Key.mk (fieldAt16 (recipeQuery 48).payload 0) (byteAt (recipeQuery 48).payload 2)) = ⟨3, 1⟩
      ∧ byteAt (recipeQuery 48).payload 3 = 48 ∧ ¬byteAt (recipeQuery 49).payload 3 ≤ 48
      ∧ (caching [⟨recipe, 0⟩] []).holds ⟨3, 1⟩ = true ∧ joined.station.state.onBus = true := by
  and_intros <;> first | decide +kernel | rfl

/-- A station in LOCKOUT. -/
def lockedOut (s : State) : State := { s with station := { s.station with state := .lockout } }

theorem witness_ReleaseEndsALockout :
    (lockedOut (queued ⟨.release, 9, .all, []⟩)).running ∧ (lockedOut (queued ⟨.release, 9, .all, []⟩)).claimsFlushed
      ∧ (lockedOut (queued ⟨.release, 9, .all, []⟩)).bus.rxQueue = ⟨.release, 9, .all, []⟩ :: []
      ∧ (lockedOut joined).station.state = .lockout ∧ joined.station.state ≠ .lockout ∧ (bridged .off none).bridge.state = .off
      ∧ (∀ m ∈ (bridged .off none).bridge.buffer, m ≠ .off)
      ∧ State.reset.clock.aligned = false ∧ ({ joined.station with refLocked := true } : Station).refLocked = true := by
  and_intros <;> first | decide | rfl

/-! ### Recipes that fall due -/

theorem witness_AnswersGoOut :
    let s : State := { owing .cacheSlot false joined with cache := ⟨[⟨recipe, 0⟩], [], [⟨⟨3, 1⟩, 1⟩]⟩ }
    s.running ∧ s.claimsFlushed ∧ .cacheSlot ∈ s.boundary.owed ∧ ∃ a ∈ s.cache.answers, a.remaining = 1 := by
  intro s; exact ⟨rfl, rfl, by decide, by decide⟩

theorem witness_WantedRecordsAskTheLine :
    let w : Wanted := ⟨⟨3, 1⟩, 1, 3, false, 1, false⟩
    let s : State := { owing .cacheFrame true joined with cache := ⟨[], [w, ⟨⟨4, 1⟩, 1, 3, true, 1, false⟩], []⟩ }
    s.cache.wanted.filter (fun x => x.key == w.key) = [w] ∧ w.framesToNext ≤ 1 ∧ w.unavailable = false ∧ w.sends = 3
      ∧ s.running ∧ s.claimsFlushed ∧ .cacheFrame ∈ s.boundary.owed
      ∧ (∃ w ∈ s.cache.wanted, w.unavailable = false ∧ (w.sendDue = true ∨ w.framesToNext ≤ 1))
      ∧ ∃ w ∈ s.cache.wanted, w.unavailable = true ∧ (w.sendDue = true ∨ w.framesToNext ≤ 1) := by
  intro w s; and_intros <;> first | decide | rfl

/-! ### Gates, encoder and departures -/

theorem witness_EntryEdgeMakesACarrierPresent :
    (tabled [present 3 400, { present 4 0 with present := false }]).running
      ∧ joined.station.state.tracks = true ∧ (tabled [present 3 400, { present 4 0 with present := false }]).tracker.inBounds
      ∧ (∀ r ∈ joined.dose.records, r.tag < joined.tracker.nextTag)
      ∧ (∃ n, ({ joined.tracker with entryTravel := some 24 } : Tracker).entryTravel = some n ∧ n < 25)
      ∧ (∀ x ∈ [present 3 400], x.present = true) ∧ (∀ e ∈ (tabled [present 3 400]).tracker.table, e.present = true)
      ∧ (tabled [present 3 400]).tracker.table.length < 6 := by
  and_intros <;> first | decide | rfl

theorem witness_EntryFallMeasuresTheLength :
    (tabled [present 3 800]).running ∧ (tabled [present 3 800]).tracker.inBounds
      ∧ ((tabled [present 3 800]).tracker.table.filter Entry.present).getLast? = some (present 3 800)
      ∧ (present 3 800).trailingSeen = false ∧ 25 ≤ (present 3 25).entryTravel ∧ (present 3 24).entryTravel < 25
      ∧ (∀ x ∈ (tabled [present 3 800]).tracker.table, x.leading ≤ (tabled [present 3 800]).cfg.zoneLength)
      ∧ (present 3 774).entryTravel + 25 < (present 3 774).record.length
      ∧ ¬(present 3 775).entryTravel + 25 < (present 3 775).record.length
      ∧ joined.tracker.table.filter Entry.present = [] := by
  and_intros <;> first | decide | rfl

theorem witness_ExitRiseFindsTheLeadingEdge :
    (tabled [present 3 975]).running ∧ (tabled [present 3 975]).tracker.inBounds
      ∧ (∀ x ∈ (tabled [present 3 975]).tracker.table, x.present = true → x.atExit = false)
      ∧ (∀ x ∈ (tabled [present 3 1025]).tracker.table, x.leading ≤ (tabled [present 3 1025]).cfg.zoneLength + 25)
      ∧ (tabled [present 3 975]).cfg.zoneLength ≤ (present 3 975).leading + 25
      ∧ (present 3 974).leading + 25 < (tabled [present 3 974]).cfg.zoneLength
      ∧ ∀ x ∈ (tabled fullCarriers).tracker.table, x.present = false := by
  and_intros <;> first | decide | rfl

theorem witness_exitEdgeFindsOneOutOfPlace :
    let missed := { present 3 1500 with atExit := true }
    (tabled [missed, present 4 200]).tracker.inBounds
      ∧ (tabled [missed, present 4 200]).tracker.table.filter (fun x => x.present && x.atExit) = [missed]
      ∧ (tabled [present 3 1026, present 4 1000]).tracker.inBounds
      ∧ (tabled [present 3 1026]).cfg.zoneLength + 25 < (present 3 1026).leading
      ∧ (present 3 1025).leading ≤ (tabled [present 3 1025]).cfg.zoneLength + 25
      ∧ (tabled [present 3 1026, present 4 1000]).tracker.table = present 3 1026 :: [present 4 1000]
      ∧ (tabled [present 3 1026]).cfg.zoneLength ≤ (present 4 1000).leading := by
  intro missed; and_intros <;> first | decide | rfl

theorem witness_ExitFallDeparts :
    (tabled [present 3 1500]).running ∧ joined.station.state.tracks = true
      ∧ (tabled [{ present 3 1500 with atExit := true }, present 4 200]).tracker.inBounds
      ∧ (tabled [{ present 3 1500 with atExit := true }, present 4 200]).tracker.table
        = [] ++ { present 3 1500 with atExit := true } :: [present 4 200]
      ∧ ∀ x ∈ (tabled [present 3 1500]).tracker.table, x.present = true → x.atExit = false := by
  and_intros <;> first | decide | rfl

theorem witness_releaseTakesThePin :
    (caching [⟨revised 2, 1⟩, ⟨recipe, 1⟩] []).entries = [⟨revised 2, 1⟩] ++ ⟨recipe, 1⟩ :: []
      ∧ (∃ x ∈ [CacheEntry.mk (revised 2) 1], x.recipe.key.id = recipe.key.id ∧ recipe.key.rev < x.recipe.key.rev)
      ∧ (CacheEntry.mk recipe 1).pins ≤ 1 ∧ ¬(CacheEntry.mk recipe 2).pins ≤ 1
      ∧ (caching [] [⟨3, 1⟩]).wanted = [] ++ ⟨⟨3, 1⟩, 1, 1, false, 2, false⟩ :: [] ∧ (caching [] [⟨3, 1⟩]).holds ⟨3, 1⟩ = false
      ∧ (Wanted.mk ⟨3, 1⟩ 1 1 false 2 false).waiting ≤ 1 ∧ 1 < (Wanted.mk ⟨3, 1⟩ 2 1 false 2 false).waiting := by
  and_intros <;> first | decide +kernel | rfl

theorem witness_ForwardCountMovesTheCarriers :
    (tabled [present 3 1825]).running ∧ joined.station.state.tracks = true
      ∧ (tabled [present 3 1825]).cfg.zoneLength + 25 < (1825 + 1) - (present 3 1825).length
      ∧ (1824 + 1) - (present 3 1824).length ≤ (tabled [present 3 1824]).cfg.zoneLength + 25 := by
  and_intros <;> first | decide | rfl

theorem witness_BackwardCountIsMarkedOnce :
    joined.running ∧ joined.station.state.tracks = true ∧ joined.tracker.backwardSeen = false
      ∧ (owing .tracker true joined).boundary.frame = true := ⟨rfl, rfl, rfl, rfl⟩

theorem witness_CarrierQueryFallsDue :
    let s := owing .tracker true (tabled [unknownCarrier])
    s.running ∧ s.claimsFlushed ∧ .tracker ∈ s.boundary.owed ∧ s.boundary.frame = true ∧ s.tracker.inBounds
      ∧ s.tracker.table = [] ++ unknownCarrier :: [] ∧ unknownCarrier.unannounced = true ∧ unknownCarrier.querySends < 3
      ∧ unknownCarrier.framesToNext ≤ 1 := by
  intro s; and_intros <;> first | decide | rfl

/-- On a tie of areas the older entry is dominant, and with none PRESENT there is none; the forecast is read two frames ahead, where the
older one has left a zone of 400 mm. -/
theorem witness_dominance :
    [present 3 300, present 4 300].filter Entry.present = [] ++ present 3 300 :: [present 4 300]
      ∧ dominantOf 400 [present 3 300, present 4 300] = some 3 ∧ dominantOf 400 [{ present 3 300 with present := false }] = none
      ∧ forecastOf 400 100 [present 3 1100, present 4 300] = some 4
      ∧ (tabled [present 3 300]).cfg.zoneLength = joined.cfg.zoneLength := by
  decide +kernel

/-! ### The slot map -/

/-- A frame boundary that the slot map still has to take. -/
def mapping (f : SlotMap → SlotMap) : State := owing .slotMap true { joined with map := f joined.map }

theorem witness_PeersAgeAndUnneededPartsGo :
    let s := mapping fun m => { m with peers := [⟨9, 7, some part, none, 23⟩], active := some part, unneeded := 15 }
    s.running ∧ s.claimsFlushed ∧ .slotMap ∈ s.boundary.owed ∧ s.boundary.frame = true ∧ s.map.live = true
      ∧ (∃ p ∈ s.map.peers, 23 ≤ p.age) ∧ s.map.active.isSome = true ∧ s.engine.active.needsClaim = false ∧ s.map.unneeded = 15
      ∧ s.map.pending = none ∧ ∀ p ∈ joined.map.peers, p.age < 23 := by
  intro s; and_intros <;> first | decide | rfl

theorem witness_WindowClosesInCommitOrYield :
    let s := mapping fun m => { m with pending := some part, window := some 63 }
    s.running ∧ s.claimsFlushed ∧ .slotMap ∈ s.boundary.owed ∧ s.boundary.frame = true ∧ s.map.live = true
      ∧ s.map.pending = some part ∧ s.map.window = some 63 ∧ s.map.active = none
      ∧ (∀ x, x < 64 → part.covers x = true → part.current x ≤ s.cfg.lineReverseBudget ∧ part.onsets x ≤ s.cfg.onsetLimit)
      ∧ ¬∀ x, x < 64 → part.covers x = true →
          ([ClaimPart.mk 8 0 8 [⟨6, 2, 191⟩]].map (ClaimPart.current x)).sum + part.current x ≤ s.cfg.lineReverseBudget := by
  intro s; and_intros <;> first | decide +kernel | rfl

theorem witness_PlanningTakesTheFirstPlaceThatFits :
    let p : Pattern := ⟨8, [⟨6, 2, 50⟩]⟩
    let s := mapping fun m => { m with hold := 1, request := some p }
    s.running ∧ s.claimsFlushed ∧ .slotMap ∈ s.boundary.owed ∧ s.boundary.frame = true ∧ s.map.live = true
      ∧ s.station.state = .joined ∧ s.mon.isDeclared .busErrors = false ∧ s.map.hold = 1 ∧ joined.map.hold = 0 ∧ s.map.pending = none
      ∧ s.map.request = some p ∧ s.map.active = none
      ∧ planOver s.cfg [] p candidateScales = some ⟨8, 6, 8, [⟨6, 2, 5⟩]⟩ := by
  intro p s; and_intros <;> first | decide +kernel | rfl

/-- The engine has asked for a pattern that never fits, and the owner of the request is settled. -/
theorem witness_planningFails :
    let p : Pattern := ⟨8, [⟨6, 2, 50⟩]⟩
    let full : ClaimPart := ⟨4, 0, 8, [⟨0, 4, 200⟩]⟩
    let base := mapping fun m => { m with hold := 1, request := some p, peers := [⟨9, 7, some full, none, 0⟩] }
    let s : State :=
      { base with
        engine :=
          { base.engine with
            owner := .active, requested := some p
            active := { base.engine.active with mode := .forwardOnly, pattern := some p } } }
    s.settled = (s.engine.owner, some p) ∧ s.engine.requested = some p ∧ planOver s.cfg [full] p candidateScales = none := by
  intro p full base s; and_intros <;> first | decide +kernel | rfl

theorem witness_RefreshAndRetrySubmitTheOwnPair :
    let s := mapping fun m => { m with active := some part, refresh := 7, sendDue := true }
    s.running ∧ s.claimsFlushed ∧ .slotMap ∈ s.boundary.owed ∧ s.map.live = true ∧ s.boundary.frame = true
      ∧ s.station.state = .joined ∧ (mapping fun m => { m with refresh := 7, pending := some part }).map.active = none
      ∧ s.map.pending = none ∧ s.map.request = none ∧ s.map.active.isSome ∧ 7 ≤ s.map.refresh ∧ s.map.sendDue = true
      ∧ (owing .slotMap false s).boundary.frame = false ∧ (owing .slotMap false s).map.dueAtFrame = false := by
  intro s; and_intros <;> first | decide | rfl

/-! ### The bridge link -/

/-- The log of slot 21. -/
def log21 : SlotLog := ⟨false, 0, 21, 1250, some ⟨.fwd, 500⟩, 500, .fwd, false⟩

theorem witness_LaneMessagesGoOutAndEnd :
    (bridged .rest (some .off)).running ∧ (bridged .rest (some .off)).bridge.leaving ≠ .afterOff
      ∧ (bridged .rest (some .off)).bridge.sending = some .off
      ∧ (bridged .forward (some (.setpoint ⟨.rev, 80⟩))).bridge.sending = some (.setpoint ⟨.rev, 80⟩)
      ∧ (bridged .forward none).bridge.state = .forward ∧ (bridged .changing none).bridge.state = .changing
      ∧ (bridged .off none).bridge.state = .off ∧ (bridged .tripped none).bridge.state = .tripped
      ∧ joined.bridge.buffer = .off :: [] ∧ joined.bridge.sending = none ∧ joined.bridge.take = none
      ∧ joined.bridge.blroom = false := by
  and_intros <;> first | decide | rfl

theorem witness_MissesAreCounted :
    let s := bridged .forward (some (.mark log21))
    let waits : State := { s with bridge := { s.bridge with take := some ⟨500, true⟩, expect := some ⟨log21, some 2000, none⟩ } }
    s.running ∧ s.claimsFlushed ∧ s.bridge.sending = some (.mark log21) ∧ waits.bridge.take = some ⟨500, true⟩
      ∧ waits.at 499 < 500 ∧ 500 ≤ waits.at 500 ∧ waits.bridge.expect = some ⟨log21, some 2000, none⟩ ∧ waits.at 1999 < 2000
      ∧ 2000 ≤ waits.at 2000 ∧ s.bridge.state ≠ .off ∧ s.bridge.missCount ≠ 1 := by
  intro s waits; and_intros <;> first | decide | rfl

theorem witness_slotLogEndsInAMark :
    let s := bridged .forward none
    let waiting : State := { s with bridge := { s.bridge with buffer := [.mark log21, .setpoint ⟨.fwd, 500⟩] } }
    log21.fromOff = false ∧ { log21 with fromOff := true }.fromOff = true ∧ s.bridge.state ≠ .off
      ∧ (∀ m ∈ s.bridge.buffer, m.isMark = false) ∧ waiting.bridge.buffer = [] ++ .mark log21 :: [.setpoint ⟨.fwd, 500⟩]
      ∧ (∀ m ∈ [] ++ [LaneMsg.setpoint ⟨.fwd, 500⟩], m.isMark = false) ∧ waiting.bridge.missCount ≠ 1
      ∧ (bridged .off none).bridge.state = .off := by
  intro s waiting; and_intros <;> first | decide | rfl

theorem witness_setpointsAreHanded :
    (bridged .off none).bridge.state = .off ∧ (bridged .tripped none).bridge.state = .tripped
      ∧ (bridged .changing none).bridge.state = .changing ∧ (bridged .forward none).bridge.state = .forward
      ∧ (bridged .forward none).bridge.lastSent ≠ .setpoint ⟨.fwd, 500⟩
      ∧ (∀ x, .setpoint x ∉ (bridged .forward none).bridge.buffer) ∧ .off ∈ joined.bridge.buffer
      ∧ .bridgeSlot ∈ (owing .bridgeSlot false (bridged .forward none)).boundary.owed
      ∧ .bridgeSlot ∉ (bridged .forward none).boundary.owed
      ∧ ∃ b : Bridge, b.buffer = [.mark log21] ++ .setpoint ⟨.rev, 80⟩ :: [] ∧ .off ∉ b.buffer
        ∧ (∀ m ∈ [.mark log21] ++ ([] : List LaneMsg), m.isSetpoint = false) ∧ b.lastSent = .setpoint ⟨.fwd, 500⟩ := by
  and_intros <;> first
    | decide
    | rfl
    | exact fun _ => List.not_mem_nil
    | exact ⟨{ Bridge.reset with buffer := [.mark log21, .setpoint ⟨.rev, 80⟩], lastSent := .setpoint ⟨.fwd, 500⟩ }, rfl, by decide,
        by decide, rfl⟩

theorem witness_AcknowledgementsCompleteAChange :
    readReturn (withMessageCheck 0#32) = some (.ack .rest) ∧ readReturn (withMessageCheck 0x10000000#32) = some (.ack .fwd)
      ∧ readReturn (withMessageCheck 0x20000000#32) = some (.ack .rev) ∧ readReturn (withMessageCheck 0x30000000#32) = some (.ack .off)
      ∧ (bridged .changing none).running ∧ (bridged .changing none).claimsFlushed ∧ (bridged .changing none).bridge.held = none
      ∧ (bridged .tripped none).bridge.state = .tripped := by
  and_intros <;> first | decide +kernel | rfl

theorem witness_ReadingsAreJudgedAndHandedOn :
    let s := bridged .forward none
    let waits : State := { s with bridge := { s.bridge with expect := some ⟨log21, some 2000, none⟩ } }
    readReturn (withMessageCheck 0x807D0010#32) = some (.reading 500 0 1) ∧ waits.running ∧ waits.claimsFlushed
      ∧ waits.bridge.state ≠ .off ∧ waits.bridge.expect = some ⟨log21, some 2000, none⟩ ∧ log21.slot % 4 = 1
      ∧ 10 * waits.cfg.forwardRating < (1001 : Int).natAbs ∧ 10 * waits.cfg.reverseRating * 2 / 100 < (-17 : Int).natAbs
      ∧ log21.cls = .fwd ∧ Expectation.window ⟨log21, none, some 0⟩ = none := by
  intro s waits; and_intros <;> first | decide +kernel | rfl

theorem witness_FaultMessageIsATrip :
    (bridged .forward none).running ∧ readReturn (withMessageCheck 0x50000000#32) = some (.fault .overtemp)
      ∧ readReturn (withMessageCheck 0x60000000#32) = some (.fault .drive)
      ∧ readReturn (withMessageCheck 0x70000000#32) = some (.fault .supply)
      ∧ (bridged .forward none).bridge.state ≠ .off ∧ (bridged .off none).bridge.state = .off ∧ (bridged .off none).claimsFlushed := by
  and_intros <;> first | decide +kernel | rfl

theorem witness_TripRestsTheBridgeAndTheSecondLocksOut :
    (bridged .forward none).bridge.state ≠ .off ∧ (bridged .forward none).bridge.state ≠ .tripped
      ∧ (bridged .forward none).bridge.tripCount = 0 ∧ (bridged .forward none).engine.tripRest = false
      ∧ 1 ≤ (bridged .tripped none).bridge.countTrip.tripCount ∧ joined.station.state = .joined := by
  and_intros <;> first | decide | rfl

theorem witness_DeadlineRestEndAndTripWindow :
    let s := owing .bridgeSlot false (bridged .changing none)
    let late : State := { s with bridge := { s.bridge with awaited := some .runOut } }
    let rest := owing .bridgeSlot false (bridged .tripped none)
    let ends : State := { rest with bridge := { rest.bridge with restCount := 63 }, engine := { rest.engine with tripRest := true } }
    let framed := owing .bridgeFrame true (bridged .rest none)
    let window : State := { framed with bridge := { framed.bridge with tripCount := 1, tripWindow := 15 } }
    late.running ∧ late.claimsFlushed ∧ .bridgeSlot ∈ late.boundary.owed ∧ .tracker ∉ late.boundary.owed
      ∧ (∀ m ∈ late.bridge.buffer, m.isSetpoint = true) ∧ late.bridge.state = .changing ∧ late.bridge.awaited = some .runOut
      ∧ late.bridge.tripCount = 0 ∧ late.engine.tripRest = false ∧ ends.bridge.state = .tripped ∧ ends.bridge.restCount = 63
      ∧ ends.bridge.awaited ≠ some .runOut ∧ ends.engine.tripRest = true ∧ .bridgeFrame ∈ window.boundary.owed
      ∧ window.bridge.tripCount = 1 ∧ window.bridge.tripWindow = 15 := by
  intro s late rest ends framed window; and_intros <;> first | decide | rfl

/-! ### The station, setpoints and dose -/

theorem witness_SelfTestVerdictAndJoinCount :
    let testing (next : Nat) (fault : Bool) : State :=
      { owing .station true joined with
        station := { joined.station with state := .selfTest, selfFrames := 1, selfNext := next, selfFault := fault }
        bridge := { Bridge.reset with buffer := [] } }
    let listening : State :=
      { owing .station true joined with station := { joined.station with state := .listening, joinCount := some 8 } }
    (testing 4 false).running ∧ (testing 4 false).claimsFlushed ∧ .station ∈ (testing 4 false).boundary.owed
      ∧ (testing 4 false).station.state = .selfTest ∧ (testing 4 false).station.selfFrames = 1
      ∧ (testing 4 false).bridge.state = .off ∧ (testing 4 false).bridge.buffer = [] ∧ (testing 3 false).station.selfNext ≠ 4
      ∧ (testing 4 true).station.selfFault = true ∧ listening.station.state = .listening
      ∧ listening.station.joinCount = some 8 := by
  intro testing listening; and_intros <;> first | decide | rfl

/-- The engine of a context with a forward and a reverse segment. -/
def plating : State :=
  { joined with
    map := { joined.map with active := some part }
    boundary := { joined.boundary with begun := 6 }
    engine :=
      { joined.engine with
        area := 400
        active :=
          { joined.engine.active with
            mode := .normal, cycle := 8, segments := recipe.segments, pattern := recipe.pattern, scale := 8, ceilings := [10] } } }

theorem witness_EngineFollowsTheCarrierAndFormsSetpoints :
    plating.station.state.setpoints = true ∧ plating.engine.restThisSlot = false
      ∧ segmentAt 0 plating.engine.active.segments 6 = some ⟨.reverse, 2, 50⟩
      ∧ segmentAt 0 plating.engine.active.segments 0 = some ⟨.forward, 6, 100⟩
      ∧ segmentAt 0 plating.engine.active.segments 8 = none ∧ plating.engine.active.mode = .normal
      ∧ part.covers 6 = true ∧ plating.engine.active.pattern = some ⟨8, [⟨6, 2, 50⟩]⟩
      ∧ plating.engine.active.ceilings[0]? = some 10 ∧ (Run.mk 6 2 50).covers 8 6 = true := by
  and_intros <;> first | decide +kernel | rfl

/-- Carrier 3 governs, and carriers 3 and 4 stand in the table. -/
def following (prepared : Option Context) (last : Option Nat) (key : Option Key) : State :=
  { plating with
    cache := ⟨[⟨recipe, 2⟩], [], []⟩
    tracker :=
      { plating.tracker with
        table := [3, 4].map fun n => { present n 400 with record := { (present n 400).record with recipe := some ⟨3, 1⟩ } } }
    engine :=
      { plating.engine with
        prepared := prepared, lastDominant := last
        active := { plating.engine.active with carrier := some 3, key := key } } }

/-- Carrier 4 has left the table while the engine names it. -/
def leftBehind : State :=
  let s := following none (some 3) (some ⟨3, 1⟩)
  { s with tracker := { s.tracker with table := s.tracker.table.take 1, departed := s.tracker.table.drop 1 } }

theorem test_departedCarrierIsPlatedUnderItsKey : (leftBehind.handOver (some 4) none).engine.active.key = some ⟨3, 1⟩ := by
  decide +kernel

theorem witness_departedCarrierStands :
    leftBehind.entry? 4 = none ∧ ∃ e, leftBehind.tracker.departed.find? (fun x => x.tag == 4) = some e ∧ e.record.recipe = some ⟨3, 1⟩
      ∧ e.recipePending = false := by
  refine ⟨?_, _, rfl, ?_, ?_⟩ <;> decide +kernel

/-- A context of carrier 4. -/
def waitingContext (ready : Bool) : Context :=
  { plating.engine.active with carrier := some 4, key := some ⟨3, 1⟩, ready := ready }

theorem witness_handOver :
    let s := following none (some 3) (some ⟨3, 1⟩)
    let e := { present 4 400 with record := { (present 4 400).record with recipe := some ⟨3, 1⟩ } }
    State.reset.engine.active.mode = .off ∧ s.engine.active.mode ≠ .off ∧ s.station.state.setpoints = true
      ∧ s.engine.tripRest = false ∧ (waitingContext true).carrier ≠ none
      ∧ (∃ x, (following (waitingContext true) (some 3) none).engine.prepared = some x ∧ x.carrier = some 4 ∧ x.ready = true)
      ∧ (∀ x, (following (waitingContext false) (some 3) none).engine.prepared = some x → x.ready = false)
      ∧ some 4 ≠ s.engine.active.carrier ∧ some 4 ≠ s.engine.lastDominant ∧ s.engine.prepared = none
      ∧ s.entry? 4 = some e ∧ e.recipePending = false ∧ e.record.recipe = some ⟨3, 1⟩ ∧ s.cache.recipe? ⟨3, 1⟩ = some recipe
      ∧ s.engine.active.carrier = some 3 ∧ (∃ e, s.entry? 3 = some e ∧ e.record.recipe = s.engine.active.key)
      ∧ (∃ e, s.entry? 3 = some e ∧ e.record.recipe ≠ (following none (some 3) none).engine.active.key)
      ∧ (following none (some 4) none).engine.lastDominant = some 4 ∧ s.entry? 3 ≠ none ∧ s.engine.active.mode ≠ .rest := by
  intro s e; and_intros <;> first | decide +kernel | rfl | exact ⟨_, rfl, by decide +kernel⟩ | exact ⟨_, rfl, rfl, rfl⟩

theorem witness_theEngineTakesTheSlip :
    let s : State := following none (some 3) (some ⟨3, 1⟩)
    let e := { present 3 400 with record := { (present 3 400).record with recipe := some ⟨3, 1⟩ } }
    State.reset.engine.active.pattern = none ∧ s.engine.active.pattern ≠ none
      ∧ ({ s.map with active := none } : SlotMap).active = none ∧ s.station.state.setpoints = true ∧ s.engine.tripRest = false
      ∧ s.engine.active.carrier = some 3 ∧ s.entry? 3 = some e ∧ e.recipePending = false ∧ e.record.recipe = some ⟨3, 1⟩
      ∧ s.cache.recipe? ⟨3, 1⟩ = some recipe ∧ recipe.pattern ≠ none := by
  intro s e; and_intros <;> first | decide +kernel | rfl

theorem witness_committedContexts :
    let owner (o : Owner) (rest : Bool) : State :=
      let s := following (some (waitingContext false)) (some 3) (some ⟨3, 1⟩)
      { s with engine := { s.engine with owner := o, tripRest := rest } }
    let p : Pattern := ⟨8, [⟨6, 2, 100⟩]⟩
    (owner .prepared false).station.state = .joined ∧ (owner .prepared false).map.active = some part
      ∧ (owner .prepared false).engine.owner = .prepared ∧ (owner .prepared false).engine.tripRest = false
      ∧ (owner .prepared true).engine.tripRest = true ∧ (owner .active false).engine.owner ≠ .prepared
      ∧ (owner .active false).engine.prepared = some (waitingContext false) ∧ (waitingContext false).carrier ≠ some 3
      ∧ part.cycle = p.cycle ∧ part.runs = p.runs.map fun r =>
        ⟨r.start, r.len, min ((r.density * cfg.zoneWindowArea * part.scale + 79999) / 80000) cfg.reverseRating⟩ := by
  intro owner p; and_intros <;> first | decide +kernel | rfl

theorem witness_ChargesAreCountedAndDivided :
    let snap : Snapshot := ⟨40, 1, [⟨1, 7, 4870⟩, ⟨2, 8, 4880⟩], 9750⟩
    let d : Dose := { Dose.reset with records := [openRecord 1, openRecord 2], snapshots := [snap, ⟨40, 2, [], 0⟩] }
    IsOfSlot Snapshot.slot Snapshot.serial 40 1 d.snapshots snap
      ∧ IsOfSlot Snapshot.slot Snapshot.serial 40 7 d.snapshots ⟨40, 2, [], 0⟩ ∧ snap.shares = ⟨1, 7, 4870⟩ :: [⟨2, 8, 4880⟩]
      ∧ (snap.shares.map Share.tag).Nodup ∧ snap.total = (snap.shares.map Share.area).sum
      ∧ (∀ r ∈ d.records, r.forward ≤ 281474976710655 ∧ r.reverse ≤ 281474976710655) ∧ ∀ x ∈ d.snapshots, x.slot ≠ 41 := by
  intro snap d
  refine ⟨⟨[], _, rfl, ?_⟩, ⟨[snap], [], rfl, ?_⟩, ?_⟩ <;> decide

/-- A slot record of slot 40, and a report of that slot. -/
def slotRecord (start : Bool) : SlotRecord :=
  ⟨40, 1, .normal, some ⟨3, 1⟩, 16, 8, some .forward, false, 8, start, false, ⟨.fwd, 500⟩⟩

def slotReport (slot : Nat) (cls : DirClass) : SlotReport := ⟨slot, 1, 12500, some ⟨498, 1001⟩, ⟨.fwd, 500⟩, cls, false⟩

theorem witness_reportsFindTheirSlot :
    let d : Dose := { Dose.reset with slotRecords := [slotRecord true], span := some ⟨0, some ⟨3, 1⟩, 16, 8, 3, 0, 0, false⟩ }
    IsOfSlot SlotRecord.slot SlotRecord.serial 40 1 d.slotRecords (slotRecord true) ∧ (slotRecord true).slot = (slotReport 40 .fwd).slot
      ∧ (slotRecord false).cycleStart = false ∧ (slotRecord true).mode = .normal
      ∧ (∀ x ∈ d.slotRecords, x.slot ≠ (slotReport 41 .fwd).slot) ∧ (slotReport 40 .off).cls = .off
      ∧ (slotReport 40 .fwd).reading = some ⟨498, 1001⟩ ∧ cfg.anodeVoltageLimit < 1001 ∧ d.span.map Span.serial = some 0 := by
  intro d
  refine ⟨⟨[], [], rfl, ?_⟩, ?_⟩ <;> decide

theorem witness_VerdictsAndCloses :
    let p : Span := ⟨0, none, 16, 8, 16, 96250000, 88000000, false⟩
    let d : Dose := { Dose.reset with span := some p }
    d.span = some p ∧ p.spoiled = false ∧ p.count = p.cycle ∧ (Span.mk 0 none 16 8 15 0 0 false).count ≠ 16
      ∧ 96250000 * 8 < (((88000000 : Int) - 96250000).natAbs) * 100 := by
  intro p d; and_intros <;> first | decide | rfl

theorem witness_framesAreJudged :
    let r := { openRecord 3 with history := [true, false, true, true] }
    let d : Dose := { Dose.reset with records := [openRecord 2, r] }
    let s : State := { tabled [present 3 400] with dose := d, tracker := { (tabled [present 3 400]).tracker with dominant := some 3 } }
    s.tracker.dominant = some 3 ∧ s.dose.records = [openRecord 2] ++ r :: [] ∧ r.tag = 3 ∧ (∀ x ∈ [openRecord 2], x.tag ≠ 3)
      ∧ s.cfg.deviationThreshold ≤ r.history.count true ∧ joined.tracker.dominant = none ∧ s.dose.records[1]? = some r
      ∧ (s.takeSlotRecord (slotRecord true)).dose.records[1]? ≠ none := by
  intro r d s; and_intros <;> first | decide +kernel | rfl

theorem witness_reportsGoOut :
    let told : State := { joined with mon := { joined.mon with told := .joined, reports := [⟨.trip, .event, .silent, 15⟩] } }
    told.mon.told = .joined ∧ told.mon.reports = ⟨.trip, .event, .silent, 15⟩ :: [] ∧ joined.mon.reports = []
      ∧ (told.bus.submit told.station.state (.condition ⟨⟨.trip, .event, .silent, 15⟩, 0, .joined, .idle, 0⟩) .all).2 = true
      ∧ ({ told.bus with normal := List.replicate 6 ownClaim }.submit told.station.state
          (.condition ⟨⟨.trip, .event, .silent, 15⟩, 0, .joined, .idle, 0⟩) .all).2 = false := by
  intro told; and_intros <;> first | decide +kernel | rfl

theorem witness_VerdictsDeclareAndReportsAreKept :
    reportsInOrder [⟨.trip, .event, .silent, 15⟩, ⟨.tracking, .event, .position, 0⟩]
      ∧ joined.mon.isDeclared .doseDeviation = false := by
  and_intros <;> first | decide | rfl

/-! ### The invariants -/

/-- A running station with a command waiting. -/
def busy : State := { joined with pending := [.forwardCount] }

theorem witness_SlotClockStaysInRange : ClockInv busy ∧ ∃ t, step busy = .next t := by
  refine ⟨⟨⟨?_, ?_, ?_, ?_, ?_, ?_, ?_, ?_⟩, fun h => absurd h (by decide), fun _ => ?_, ?_, ?_, fun _ => Nat.zero_le 2⟩, _, rfl⟩ <;> decide

theorem witness_ReverseCurrentOnlyUnderAClaim : ReverseInv busy ∧ ∃ t, step busy = .next t :=
  ⟨⟨fun h => absurd h (by decide), fun _ => ⟨rfl, rfl⟩, fun h => absurd h (by decide)⟩, _, rfl⟩

theorem witness_BridgeIsOffAndWithinItsRatings : BridgeInv busy ∧ ∃ t, step busy = .next t := by
  refine ⟨⟨fun h => absurd h (by decide), fun _ => ⟨rfl, rfl⟩, fun _ => rfl, ?_, nofun, nofun, nofun, nofun⟩, _, rfl⟩
  intro sp h
  simp [busy, joined, State.reset, Bridge.reset] at h

theorem witness_QueuesAndTablesStayInBounds : BoundsInv busy ∧ ∃ t, step busy = .next t := by
  refine ⟨⟨⟨by decide, by decide, by decide, by decide, by decide⟩, ⟨by decide, by decide⟩, bounds_of_empty, rfl, ?_⟩, _, rfl⟩
  intro r h
  exact absurd h List.not_mem_nil

end Sys2Proof.Tests
end

section
/-! PROOFS. Recipes and the recipe cache: taking a RECIPE QUERY from the receive queue (R31). -/

namespace Sys2Proof.Machine

open Sys2Proof

/-! ### Taking the head frame of the receive queue -/

/-- The state whose receive queue holds what stands behind the frame just taken. -/
def State.withRxRest (rest : List RxFrame) (s : State) : State := { s with bus := { s.bus with rxQueue := rest } }

theorem State.flushClaim_of_claimsFlushed {s : State} (h : s.claimsFlushed) : s.flushClaim = s :=
  if_neg (Bool.eq_false_iff.mp h)

theorem State.takeFrame_of_head {kind : FrameKind} {s : State} {f : RxFrame} {rest : List RxFrame}
    (act : RxFrame → State → State) (hrun : s.running) (hq : s.bus.rxQueue = f :: rest) (hk : f.kind = kind) :
    s.takeFrame kind act = (act f (s.withRxRest rest)).flushClaim := by
  have hheld : ¬s.station.held = true := Bool.eq_false_iff.mp hrun
  simp only [State.takeFrame, State.unlessHeld, if_neg hheld, hq, if_pos hk]
  rfl

/-! ### The scheduled answers -/

theorem updateWhere_of_none {α : Type} {p : α → Bool} (f : α → α) {xs : List α} (h : ∀ x ∈ xs, p x = false) :
    updateWhere p f xs = xs := by
  have hid : ∀ x ∈ xs, (if p x then f x else x) = x := fun x hx => by simp [h x hx]
  exact (List.map_congr_left hid).trans (List.map_id' xs)

/-- An update of the one element that meets the test leaves the others and the order. -/
theorem updateWhere_of_one {α : Type} (p : α → Bool) (f : α → α) {pre post : List α} {a : α} (ha : p a = true)
    (hothers : ∀ x ∈ pre ++ post, p x = false) : updateWhere p f (pre ++ a :: post) = pre ++ f a :: post := by
  have hpre := updateWhere_of_none f fun x hx => hothers x (List.mem_append_left post hx)
  have hpost := updateWhere_of_none f fun x hx => hothers x (List.mem_append_right pre hx)
  unfold updateWhere at hpre hpost ⊢
  rw [List.map_append, List.map_cons, hpre, hpost, if_pos ha]

theorem Cache.schedule_of_unscheduled {c : Cache} (k : Key) (delay : Nat) (h : ∀ a ∈ c.answers, a.key ≠ k) :
    c.schedule k delay = { c with answers := c.answers ++ [⟨k, delay⟩] } := by
  have hnone : ¬(c.answers.any fun a => a.key == k) = true := by simpa using h
  exact if_neg hnone

theorem Cache.schedule_of_scheduled {c : Cache} (k : Key) (delay : Nat) {pre post : List Answer} {a : Answer}
    (hc : c.answers = pre ++ a :: post) (ha : a.key = k) (hothers : ∀ x ∈ pre ++ post, x.key ≠ k) :
    c.schedule k delay = { c with answers := pre ++ { a with remaining := min a.remaining delay } :: post } := by
  have hany : (c.answers.any fun a => a.key == k) = true := by simp [hc, ha]
  have hone := updateWhere_of_one (fun a : Answer => a.key == k)
    (fun a => { a with remaining := min a.remaining delay }) (beq_iff_eq.mpr ha)
    (fun x hx => beq_false_of_ne (hothers x hx))
  unfold Cache.schedule
  rw [if_pos hany, hc, hone]

theorem answerDelay_eq_natAbs (own querier : Nat) :
    answerDelay own querier = (1 + ((own : Int) - (querier : Int)).natAbs) * 4 := by
  unfold answerDelay
  omega

/-! ### A RECIPE QUERY (R31) -/

/-- The key that a RECIPE QUERY's payload asks for. -/
def queriedKey (payload : List Byte) : Key := ⟨fieldAt16 payload 0, byteAt payload 2⟩

/-- The station answers the query: no field of it is out of range, the key is held, and the station state allows RECIPE. -/
def State.heedsRecipeQuery (payload : List Byte) (s : State) : Prop :=
  (queriedKey payload).id ≠ 0 ∧ (queriedKey payload).rev ≠ 0 ∧ byteAt payload 3 ≤ 48
    ∧ s.cache.holds (queriedKey payload) = true ∧ s.station.state.onBus = true

theorem readRecipeQuery_eq (payload : List Byte) :
    readRecipeQuery payload =
      if (queriedKey payload).id ≠ 0 ∧ (queriedKey payload).rev ≠ 0 ∧ byteAt payload 3 ≤ 48
      then some (queriedKey payload, byteAt payload 3) else none := rfl

theorem State.takeRecipeQueryFrame_of_heeded {f : RxFrame} {s : State} (h : s.heedsRecipeQuery f.payload) :
    s.takeRecipeQueryFrame f
      = s.setCache (s.cache.schedule (queriedKey f.payload) (answerDelay s.cfg.zoneIndex (byteAt f.payload 3))) := by
  obtain ⟨hid, hrev, hzone, hheld, hbus⟩ := h
  unfold State.takeRecipeQueryFrame
  rw [readRecipeQuery_eq, if_pos ⟨hid, hrev, hzone⟩]
  exact if_pos ⟨hheld, hbus⟩

theorem State.takeRecipeQueryFrame_of_unheeded {f : RxFrame} {s : State} (h : ¬s.heedsRecipeQuery f.payload) :
    s.takeRecipeQueryFrame f = s := by
  unfold State.takeRecipeQueryFrame
  rw [readRecipeQuery_eq]
  by_cases hfields : (queriedKey f.payload).id ≠ 0 ∧ (queriedKey f.payload).rev ≠ 0 ∧ byteAt f.payload 3 ≤ 48
  · obtain ⟨hid, hrev, hzone⟩ := hfields
    rw [if_pos ⟨hid, hrev, hzone⟩]
    exact if_neg fun ⟨hheld, hbus⟩ => h ⟨hid, hrev, hzone, hheld, hbus⟩
  · rw [if_neg hfields]

/-- With a RECIPE QUERY at the head, TAKE_RECIPE_QUERY is the cache's taking of it: the map is left alone, so that no CLAIM
follows (log 23). -/
theorem exec_takeRecipeQuery_of_head {s : State} {f : RxFrame} {rest : List RxFrame} (hrun : s.running)
    (hflushed : s.claimsFlushed) (hq : s.bus.rxQueue = f :: rest) (hk : f.kind = .recipeQuery) :
    exec .takeRecipeQuery s = .next ((s.withRxRest rest).takeRecipeQueryFrame f) := by
  have hcalls : ((s.withRxRest rest).takeRecipeQueryFrame f).claimsFlushed :=
    by simpa [State.claimsFlushed, State.withRxRest] using hflushed
  calc exec .takeRecipeQuery s
      = .next (s.takeFrame .recipeQuery State.takeRecipeQueryFrame) := rfl
    _ = .next ((s.withRxRest rest).takeRecipeQueryFrame f).flushClaim := by
        rw [State.takeFrame_of_head State.takeRecipeQueryFrame hrun hq hk]
    _ = .next ((s.withRxRest rest).takeRecipeQueryFrame f) := by rw [State.flushClaim_of_claimsFlushed hcalls]

/-- A query that the station heeds changes the receive queue and the schedule of answers, and nothing else. -/
theorem exec_takeRecipeQuery_of_heeded {s : State} {f : RxFrame} {rest : List RxFrame} (hrun : s.running)
    (hflushed : s.claimsFlushed) (hq : s.bus.rxQueue = f :: rest) (hk : f.kind = .recipeQuery)
    (h : s.heedsRecipeQuery f.payload) :
    exec .takeRecipeQuery s = .next ((s.withRxRest rest).setCache (s.cache.schedule (queriedKey f.payload)
      ((1 + ((s.cfg.zoneIndex : Int) - (byteAt f.payload 3 : Int)).natAbs) * 4))) := by
  have hleft : (s.withRxRest rest).heedsRecipeQuery f.payload := h
  rw [exec_takeRecipeQuery_of_head hrun hflushed hq hk, State.takeRecipeQueryFrame_of_heeded hleft, answerDelay_eq_natAbs]
  rfl

/-- Settles O28: what the query does turns on whether it is heeded, and then on whether an answer for its key already stands. -/
theorem recipeQueryIsScheduled : Obligations.RecipeQueryIsScheduled := by
  intro s f rest hrun hflushed hq hk left k zone heeded delay
  refine ⟨fun hnot => ?unheeded, fun hheeded => ⟨fun hnew => ?unscheduled, fun pre a post hc ha hothers => ?scheduled⟩⟩
  case unheeded =>
    have hleft : ¬(s.withRxRest rest).heedsRecipeQuery f.payload := hnot
    rw [exec_takeRecipeQuery_of_head hrun hflushed hq hk, State.takeRecipeQueryFrame_of_unheeded hleft]
    rfl
  case unscheduled =>
    rw [exec_takeRecipeQuery_of_heeded hrun hflushed hq hk hheeded,
      Cache.schedule_of_unscheduled (queriedKey f.payload) _ hnew]
    rfl
  case scheduled =>
    rw [exec_takeRecipeQuery_of_heeded hrun hflushed hq hk hheeded,
      Cache.schedule_of_scheduled (queriedKey f.payload) _ hc ha hothers]
    rfl

end Sys2Proof.Machine
end

section
/-! PROOFS. Carrier tracking: backward counts, and what clears backward seen (R44, R51). -/

namespace Sys2Proof.Machine

open Sys2Proof

/-! ### Events of the gates and the encoder -/

/-- In the states in which the tracker takes gate edges and counts, nothing stands between the event and its meaning (R34, R59). -/
theorem State.sense_of_tracks {s : State} (act : State → State) (hrun : s.running) (htracks : s.station.state.tracks = true) :
    s.sense act = act s := by
  have hheld : ¬s.station.held = true := Bool.eq_false_iff.mp hrun
  simp only [State.sense, State.unlessHeld, if_neg hheld, if_pos htracks]

theorem exec_backwardCount_of_tracks {s : State} (hrun : s.running) (htracks : s.station.state.tracks = true) :
    exec .backwardCount s = .next s.countBackward :=
  congrArg Host.Outcome.next (State.sense_of_tracks State.countBackward hrun htracks)

/-! ### A backward count (R44) -/

theorem State.countBackward_of_seen {s : State} (hseen : s.tracker.backwardSeen = true) : s.countBackward = s :=
  if_pos hseen

theorem State.countBackward_of_unseen {s : State} (hunseen : s.tracker.backwardSeen = false) :
    s.countBackward = ((s.setTracker { s.tracker with backwardSeen := true }).flagAll .trackError).raise .tracking .backward :=
  if_neg (Bool.eq_false_iff.mp hunseen)

/-- TRACK ERROR is bit 6 of a zone record's flags (chapter 11). -/
theorem ZoneFlag.mask_trackError : ZoneFlag.trackError.mask = 0x40#16 := by decide

theorem OpenRecord.set_trackError : OpenRecord.set .trackError = fun r => { r with flags := r.flags ||| 0x40#16 } := by
  funext r
  rw [OpenRecord.set, ZoneFlag.mask_trackError]

theorem State.flagAll_trackError (s : State) :
    s.flagAll .trackError
      = s.setDose { s.dose with records := s.dose.records.map fun r => { r with flags := r.flags ||| 0x40#16 } } := by
  rw [State.flagAll, OpenRecord.set_trackError]
  rfl

/-! ### Carrier queries leave backward seen as it was -/

@[simp] theorem State.updateEntry_backwardSeen (tag : Nat) (f : Entry → Entry) (s : State) :
    (s.updateEntry tag f).tracker.backwardSeen = s.tracker.backwardSeen := rfl

/-- A CARRIER QUERY is a submission and an update of the one entry, which the bus's answer chooses (R56). -/
theorem State.queryCarrier_eq (tag : Nat) (s : State) :
    s.queryCarrier tag =
      let asked := s.submit (.carrierQuery s.cfg.zoneIndex s.tracker.ids) (.zone (s.cfg.zoneIndex - 1))
      asked.1.updateEntry tag (if asked.2 then Entry.queryAccepted else fun e => { e with queryDue := true }) := by
  unfold State.queryCarrier
  split
  next hasked => simp [hasked]
  next hasked => simp [hasked]

@[simp] theorem State.queryCarrier_backwardSeen (tag : Nat) (s : State) :
    (s.queryCarrier tag).tracker.backwardSeen = s.tracker.backwardSeen := by
  simp only [State.queryCarrier_eq, State.updateEntry_backwardSeen, State.submit_leaves]

@[simp] theorem State.tickQuery_backwardSeen (e : Entry) (s : State) :
    (s.tickQuery e).tracker.backwardSeen = s.tracker.backwardSeen := by
  have hwaited (f : Entry → Entry) :
      ((s.updateEntry e.tag f).queryCarrier e.tag).tracker.backwardSeen = s.tracker.backwardSeen := by
    rw [State.queryCarrier_backwardSeen, State.updateEntry_backwardSeen]
  unfold State.tickQuery
  split
  next =>
    split
    next => exact State.queryCarrier_backwardSeen e.tag s
    next =>
      split
      next =>
        dsimp only
        split
        next => exact hwaited _
        next => exact State.updateEntry_backwardSeen e.tag _ s
      next => rfl
  next => rfl

@[simp] theorem State.tickQueries_backwardSeen (s : State) : s.tickQueries.tracker.backwardSeen = s.tracker.backwardSeen :=
  foldl_keeps (fun u : State => u.tracker.backwardSeen) (fun u e => State.tickQuery_backwardSeen e u) _ _

/-! ### The tracker's frame boundary clears backward seen (R51) -/

/-- Step 3 of R51 clears it, and the queries of step 5 do not set it again. -/
theorem State.trackerFrame_backwardSeen (s : State) : s.trackerFrame.tracker.backwardSeen = false := by
  unfold State.trackerFrame
  rw [State.tickQueries_backwardSeen]
  rfl

theorem State.trackerBoundary_of_frame {s : State} (hframe : s.boundary.frame = true) :
    s.trackerBoundary
      = State.trackerFrame ((s.setDose (s.dose.takeSnapshot (s.snapshot s.boundary.ended s.boundary.endedSerial))).setEngine
          { s.engine with area := (s.snapshot s.boundary.ended s.boundary.endedSerial).total }) :=
  if_pos hframe

/-- Settles O37: a count's effect turns on backward seen, which the tracker's frame boundary clears. -/
theorem backwardCountIsMarkedOnce : Obligations.BackwardCountIsMarkedOnce := by
  intro s hrun htracks
  rw [exec_backwardCount_of_tracks hrun htracks]
  refine ⟨fun hseen => ?further, fun hunseen => ?marked, fun hframe => ?cleared⟩
  case further => rw [State.countBackward_of_seen hseen]
  case marked =>
    rw [State.countBackward_of_unseen hunseen, State.flagAll_trackError]
    rfl
  case cleared => rw [State.trackerBoundary_of_frame hframe, State.trackerFrame_backwardSeen]

end Sys2Proof.Machine
end

section
/-! PROOFS. How a command reaches its meaning: the guards that stand between an event and what a block does with it. -/

namespace Sys2Proof.Machine

open Sys2Proof

/-! ### The guards of the commands -/

/-- A held part takes no event; so what holds of the state and of the event's effect holds afterwards (R164). -/
theorem State.unlessHeld_induct {p : State → Prop} {s : State} {f : State → State} (hs : p s) (hf : s.running → p (f s)) :
    p (s.unlessHeld f) := by
  unfold State.unlessHeld
  split
  next => exact hs
  next hheld => exact hf (Bool.eq_false_iff.mpr hheld)

/-- A row of a block at a boundary: the taking, or nothing (log 3). -/
theorem State.ownTaking_induct {p : State → Prop} {s : State} (t : Task) (due : State → Bool) (hs : p s)
    (ht : s.running → p (s.takeTask t)) : p (s.ownTaking t due) :=
  State.unlessHeld_induct hs fun hrun => by
    split
    next => exact ht hrun
    next => exact hs

/-- A frame taken by its owner: the head of the receive queue is of the owner's kind, or nothing happens (R161). -/
theorem State.takeFrame_induct {p : State → Prop} {s : State} (kind : FrameKind) (act : RxFrame → State → State) (hs : p s)
    (hact : s.running → ∀ f rest, s.bus.rxQueue = f :: rest → f.kind = kind → p (act f (s.withRxRest rest)).flushClaim) :
    p (s.takeFrame kind act) :=
  State.unlessHeld_induct hs fun hrun => by
    split
    next f rest hq =>
      split
      next hk => exact hact hrun f rest hq hk
      next => exact hs
    next => exact hs

/-- A gate edge or an encoder count: the tracker's operation, or nothing (R34, R59). -/
theorem State.sense_induct {p : State → Prop} {s : State} (act : State → State) (hs : p s)
    (hact : s.running → p (act s)) : p (s.sense act) :=
  State.unlessHeld_induct hs fun hrun => by
    split
    next => exact hact hrun
    next => exact hs

/-- A symbol that the receiver does not hear changes nothing (R163). -/
theorem State.ifHeard_induct {p : State → Prop} {s : State} (f : State → State) (hs : p s) (hf : p (f s)) : p (s.ifHeard f) := by
  unfold State.ifHeard
  split
  next => exact hf
  next => exact hs

/-- With BLROOM's rise the held part takes the pin level alone (R108, log 9). -/
theorem exec_blroomRise_eq (s : State) :
    exec .blroomRise s
      = .next (if s.station.held then s.updateBridge fun b => { b with blroom := true } else s.updateBridge Bridge.room) := by
  show execBlroomRise s = _
  unfold execBlroomRise
  split <;> rfl

/-- A step takes the command in front, or what the boundary still owes. -/
theorem step_induct {p : State → State → Prop} (hexec : ∀ c s t, exec c s = .next t → p s t)
    (hpending : ∀ s x t, p (s.setPending x) t → p s t) (hquiet : ∀ s, p s s.quiet) :
    ∀ s t, step s = .next t → p s t := by
  intro s t h
  unfold step at h
  split at h
  next c rest hq => exact hpending s rest t (hexec c _ t h)
  next => cases h; exact hquiet s

end Sys2Proof.Machine
end

section
/-! PROOFS. The slot clock's counts, slot length and disagreement tracker stay in range (R3, R5 to R8, R13). -/

namespace Sys2Proof.Machine

open Sys2Proof

/-! ### The invariant through the clock alone -/

theorem ClockInv_iff (s : State) : ClockInv s ↔ s.clock.sound s.limits ∧ trackerInRange s.clock.tracker := by
  simp only [ClockInv, Clock.sound, and_assoc]

theorem State.limits_of_cfg {s t : State} (h : t.station.cfg = s.station.cfg) : t.limits = s.limits := by
  simp [State.limits, State.cfg, h]

/-- What moves nothing of the clock but the aligned flag, and at most empties its tracker, keeps the invariant. -/
theorem ClockInv.of_kept {s t : State} (h : ClockKept s t) (hs : ClockInv s) : ClockInv t := by
  obtain ⟨hcore, hcfg, htracker⟩ := h
  rw [ClockInv_iff] at hs ⊢
  obtain ⟨hsound, hrange⟩ := hs
  refine ⟨?_, ?_⟩
  · rw [State.limits_of_cfg hcfg]
    exact Clock.sound_of_core hcore hsound
  · rcases htracker with e | e
    · rwa [e]
    · rw [e]; exact trackerInRange_nil

theorem ClockInv.of_eq {s t : State} (hc : t.clock = s.clock) (hcfg : t.station.cfg = s.station.cfg) (hs : ClockInv s) :
    ClockInv t :=
  hs.of_kept (.of_eq hc hcfg)

theorem State.setClock_clockInv {s : State} {c : Clock} (hc : c.sound s.limits) (hr : trackerInRange c.tracker) :
    ClockInv (s.setClock c) :=
  (ClockInv_iff _).mpr ⟨hc, hr⟩

/-! ### Stamps (R10 to R14) -/

/-- The tracker and the aligned flag are no part of what the counts and the slot length say. -/
theorem Clock.sound_tracker {h : Thresholds} {c : Clock} (k : c.sound h) (a : Bool) (l : List Disagreement) :
    ({ c with aligned := a, tracker := l } : Clock).sound h :=
  Clock.sound_of_core rfl k

theorem State.renumber_clockInv (q : Nat) {s : State} (hs : ClockInv s) : ClockInv (s.renumber q) := by
  rw [ClockInv_iff] at hs
  exact (ClockInv_iff _).mpr ⟨Clock.renumbered_sound q hs.1, trackerInRange_nil⟩

/-- A slip empties the tracker, so the third record of one offset need not be in range (R13, R14). -/
theorem State.slip_setClock_clockInv (q : Nat) {s : State} {c : Clock} (hc : c.sound s.limits) :
    ClockInv ((s.setClock c).slip q) := by
  have hrenumbered : ClockInv ((s.setClock c).renumber q) :=
    (ClockInv_iff _).mpr ⟨Clock.renumbered_sound q hc, trackerInRange_nil⟩
  exact hrenumbered.of_eq (by simp [State.slip]) (by simp [State.slip])

theorem State.trackVerdict_clockInv (address d : Nat) (hd : d < 64) {s : State} (hs : ClockInv s) :
    ClockInv (s.trackVerdict address (verdictOf d)) := by
  have ⟨hsound, hrange⟩ := (ClockInv_iff s).mp hs
  unfold State.trackVerdict
  split
  next => exact State.setClock_clockInv (Clock.sound_tracker hsound _ _) trackerInRange_nil
  next => exact hs
  next => exact hs.of_eq (by simp) (by simp)
  next q hq =>
    have hdisagreed : (s.clock.disagreed address q).sound s.limits := Clock.sound_tracker hsound _ _
    dsimp only
    split
    next => exact State.slip_setClock_clockInv q hdisagreed
    next hslips =>
      exact State.setClock_clockInv hdisagreed
        (Clock.disagreed_inRange hrange (verdictOf_disagree hd hq) (Bool.eq_false_iff.mpr hslips))

theorem State.setAligned_clockKept (s : State) : ClockKept s s.setAligned :=
  ⟨by simp, by simp, .inl (by simp)⟩

theorem State.alignTo_clockInv (v : Verdict) (d : Nat) {s : State} (hs : ClockInv s) : ClockInv (s.alignTo v d).1 := by
  cases v with
  | agree => exact hs.of_kept s.setAligned_clockKept
  | early => exact hs.of_kept s.setAligned_clockKept
  | reject => exact hs.of_eq (by simp [State.alignTo]) (by simp [State.alignTo])
  | disagree q => exact ((State.renumber_clockInv q hs).of_eq rfl rfl).of_kept (State.setAligned_clockKept _)

theorem State.judgeStamp_clockInv (address stamp : Nat) {s : State} (hs : ClockInv s) :
    ClockInv (s.judgeStamp address stamp).1 := by
  unfold State.judgeStamp
  dsimp only
  split
  next => exact State.trackVerdict_clockInv address _ (stampOffset_lt _ _) hs
  next => exact State.alignTo_clockInv _ _ hs

/-! ### Frames in reception -/

theorem State.takeClaim_clockInv (f : RxFrame) (df : Bool) {s : State} (hs : ClockInv s) : ClockInv (s.takeClaim f df) := by
  have hjudged := State.judgeStamp_clockInv f.source (byteAt f.payload 0) hs
  unfold State.takeClaim
  dsimp only
  split
  next => exact hs.of_eq (by simp) (by simp)
  next =>
    split
    next =>
      split
      next => exact hjudged.of_eq (by simp) (by simp)
      next => exact hjudged
    next => exact hjudged

theorem State.filterFrame_clockInv (f : RxFrame) (own df : Bool) {s : State} (hs : ClockInv s) :
    ClockInv (s.filterFrame f own df) := by
  unfold State.filterFrame
  split
  next =>
    split
    next => exact hs
    next => exact hs.of_eq (by simp) (by simp)
  next =>
    split
    next => exact hs
    next =>
      split
      next =>
        split
        next => exact State.takeClaim_clockInv f df hs
        next => exact hs.of_eq (by simp) (by simp)
      next => exact hs

theorem State.deliver_clockInv (f : RxFrame) (own df : Bool) {s : State} (hs : ClockInv s) : ClockInv (s.deliver f own df) := by
  unfold State.deliver
  split
  next =>
    split
    next => exact hs.of_eq (by simp) (by simp)
    next => exact hs
  next => exact State.filterFrame_clockInv f own df hs

theorem State.receiveEnd_clockInv (df : Bool) {s : State} (hs : ClockInv s) : ClockInv (s.receiveEnd df) := by
  unfold State.receiveEnd
  split
  next => exact hs
  next => exact hs
  next =>
    split
    next => exact hs.of_eq (by simp) (by simp)
    next =>
      split
      next => exact State.deliver_clockInv _ _ df (hs.of_eq (by simp) (by simp))
      next => exact hs.of_eq (by simp) (by simp)

theorem State.receiveSymbol_clockInv (x : Symbol) (df : Bool) {s : State} (hs : ClockInv s) :
    ClockInv (s.receiveSymbol x df) := by
  unfold State.receiveSymbol
  split
  next => exact hs.of_eq (by simp) (by simp)
  next => exact hs.of_eq (by simp) (by simp)
  next => exact State.receiveEnd_clockInv df (hs.of_eq (by simp) (by simp))
  next => exact hs.of_eq (by simp) (by simp)
  next => exact hs.of_eq (by simp) (by simp)

/-! ### Slot ends (R4, R5, R8) -/

/-- A slot that ends leaves the place of the slot that begins, and its start (R9). -/
theorem State.endSlot_clockInv {s : State} (next : Clock × Bool) (notices ord : List Task) (df : Bool)
    (hc : next.1.sound s.limits) (hr : trackerInRange next.1.tracker) : ClockInv (s.endSlot next notices ord df) := by
  have hclosed : ClockInv (s.closeSlot next notices df) :=
    (ClockInv_iff _).mpr ⟨hc, hr⟩
  exact hclosed.of_kept (State.takeTasks_clockKept ord _)

theorem Clock.acceptEdge_tracker (h : Thresholds) (t : Instant) (k : EdgeClass) (c : Clock) :
    (c.acceptEdge h t k).1.tracker = c.tracker := by
  cases k with
  | glitch => rfl
  | start => rfl
  | measured elapsed =>
    unfold Clock.acceptEdge
    dsimp only
    split
    next => unfold Clock.edgeUnlocked; (repeat' split) <;> rfl
    next => unfold Clock.edgeLocked; (repeat' split) <;> rfl
    next => rfl

theorem Clock.placeAfterEdge_tracker (c : Clock) : c.placeAfterEdge.1.tracker = c.tracker := by
  unfold Clock.placeAfterEdge
  split <;> rfl

theorem Clock.periodEnd_tracker (h : Thresholds) (c : Clock) : (c.periodEnd h).1.tracker = c.tracker := by
  unfold Clock.periodEnd
  (repeat' split) <;> rfl

theorem State.drain_clockInv {s : State} (hs : ClockInv s) : ClockInv s.drain := hs.of_kept s.drain_clockKept

/-- An accepted edge ends the slot with the clock it leaves. -/
theorem State.acceptedEdge_clockInv (k : EdgeClass) (ord : List Task) (df : Bool) {s : State} (hs : ClockInv s) :
    ClockInv (s.endSlot (s.clock.acceptEdge s.limits s.now k).1.placeAfterEdge (s.clock.acceptEdge s.limits s.now k).2 ord df) := by
  have ⟨hsound, hrange⟩ := (ClockInv_iff s).mp hs
  refine State.endSlot_clockInv _ _ ord df (Clock.placeAfterEdge_sound (Clock.acceptEdge_sound _ _ _ hsound)) ?_
  rw [Clock.placeAfterEdge_tracker, Clock.acceptEdge_tracker]
  exact hrange

theorem State.refinEdge_clockInv (ord : List Task) (df : Bool) {s : State} (hs : ClockInv s) : ClockInv (s.refinEdge ord df) := by
  have hdrained := State.drain_clockInv hs
  unfold State.refinEdge
  generalize s.drain = u at hdrained ⊢
  split
  next => exact hs
  next =>
    split
    next => exact hs
    next => exact State.acceptedEdge_clockInv .start ord df hdrained
    next elapsed _ => exact State.acceptedEdge_clockInv (.measured elapsed) ord df hdrained

theorem State.periodEnd_clockInv (ord : List Task) (df : Bool) {s : State} (hs : ClockInv s) :
    ClockInv (s.endSlot (s.clock.periodEnd s.limits).1.nextPeriod (s.clock.periodEnd s.limits).2 ord df) := by
  have ⟨hsound, hrange⟩ := (ClockInv_iff s).mp hs
  refine State.endSlot_clockInv _ _ ord df (Clock.nextPeriod_sound (Clock.periodEnd_sound _ hsound)) ?_
  show trackerInRange (s.clock.periodEnd s.limits).1.tracker
  rw [Clock.periodEnd_tracker]
  exact hrange

theorem State.endPeriod_clockInv (ord : List Task) (df : Bool) {s : State} (hs : ClockInv s) : ClockInv (s.endPeriod ord df) := by
  have hdrained := State.drain_clockInv hs
  unfold State.endPeriod
  generalize s.drain = u at hdrained ⊢
  exact State.periodEnd_clockInv ord df hdrained

/-- The next slot of the period begins. -/
theorem State.tick_clockInv (ord : List Task) (df : Bool) {s : State} (hs : ClockInv s) (hsip : s.clock.sip < 15) :
    ClockInv (s.endSlot ({ s.clock with sip := s.clock.sip + 1 }, false) [] ord df) := by
  have ⟨hsound, hrange⟩ := (ClockInv_iff s).mp hs
  exact State.endSlot_clockInv _ _ ord df (Clock.tick_sound hsound hsip) hrange

theorem State.drain_sip (s : State) : s.drain.clock.sip = s.clock.sip := by
  have hcore := (Clock.core_eq_iff _ _).mp s.drain_clockKept.1
  simp only [hcore]

theorem State.slotTimer_clockInv (ord : List Task) (df : Bool) {s : State} (hs : ClockInv s) : ClockInv (s.slotTimer ord df) := by
  have hdrained := State.drain_clockInv hs
  have hsame := s.drain_sip
  unfold State.slotTimer
  generalize s.drain = u at hdrained hsame ⊢
  split
  next => exact hs
  next =>
    split
    next hsip => exact State.tick_clockInv ord df hdrained (hsame ▸ hsip)
    next =>
      split
      next => exact State.endPeriod_clockInv ord df hs
      next => exact hs

theorem State.loseEdge_clockInv (ord : List Task) (df : Bool) {s : State} (hs : ClockInv s) :
    ClockInv (s.endSlot s.clock.loseEdge.nextPeriod [] ord df) := by
  have ⟨hsound, hrange⟩ := (ClockInv_iff s).mp hs
  exact State.endSlot_clockInv _ _ ord df (Clock.nextPeriod_sound (Clock.loseEdge_sound hsound)) hrange

theorem State.lossLimit_clockInv (ord : List Task) (df : Bool) {s : State} (hs : ClockInv s) : ClockInv (s.lossLimit ord df) := by
  have hdrained := State.drain_clockInv hs
  unfold State.lossLimit
  generalize s.drain = u at hdrained ⊢
  split
  next => exact State.loseEdge_clockInv ord df hdrained
  next => exact hs

theorem State.holdoverExpiry_clockInv (ord : List Task) (df : Bool) {s : State} (hs : ClockInv s) :
    ClockInv (s.holdoverExpiry ord df) := by
  unfold State.holdoverExpiry
  split
  next => exact State.endPeriod_clockInv ord df hs
  next => exact hs

/-! ### Reset and configuration (R1) -/

theorem Clock.reset_sound (h : Thresholds) : Clock.reset.sound h := by
  simp [Clock.sound, Clock.countsInRange, Clock.holdoverHasNoEdge, Clock.lengthInClamp, Clock.reset]

theorem State.hardReset_clockInv (s : State) : ClockInv s.hardReset :=
  (ClockInv_iff _).mpr ⟨Clock.reset_sound _, trackerInRange_nil⟩

theorem State.startSelfTest_clockInv (c : Cfg) (s : State) : ClockInv (s.startSelfTest c) := by
  refine (ClockInv_iff _).mpr ⟨?_, ?_⟩
  · have hclock : (s.startSelfTest c).clock = Clock.started s.now c.refFreq := by simp [State.startSelfTest]
    have hlimits : (s.startSelfTest c).limits = thresholdsOf c.refFreq := by
      simp [State.startSelfTest, State.limits, State.cfg]
    rw [hclock, hlimits]
    exact Clock.started_sound _ _
  · simp [State.startSelfTest, Clock.started, Clock.reset, trackerInRange]

theorem State.takeImage_clockInv (image : List Byte) {s : State} (hs : ClockInv s) : ClockInv (s.takeImage image) := by
  unfold State.takeImage
  split
  next =>
    split
    next => exact State.startSelfTest_clockInv _ _
    next => exact hs.of_eq (by simp) (by simp [State.configFault])
  next => exact hs

/-! ### Every command -/

theorem State.advance_clockInv (t : Instant) {s : State} (hs : ClockInv s) : ClockInv (s.advance t) := hs.of_eq rfl rfl

theorem State.ownTaking_clockInv (t : Task) (due : State → Bool) {s : State} (hs : ClockInv s) : ClockInv (s.ownTaking t due) :=
  State.ownTaking_induct t due hs fun _ => hs.of_kept (s.takeTask_clockKept t)

theorem State.choose_clockInv (df : Bool) {s : State} (hs : ClockInv s) : ClockInv (s.unlessHeld (State.choose df)) :=
  State.unlessHeld_induct hs fun _ => hs.of_eq rfl rfl

theorem exec_keeps_clockInv (c : Instr) {s t : State} (hs : ClockInv s) (h : exec c s = .next t) : ClockInv t := by
  cases c
  case blroomRise =>
    rw [exec_blroomRise_eq] at h
    injection h with h
    subst h
    exact hs.of_eq (by split <;> simp) (by split <;> simp)
  all_goals
    injection h with h
    subst h
  case hardwareReset => exact State.hardReset_clockInv s
  case rstnRelease => exact hs.of_eq (by simp) (by unfold State.releaseReset; split <;> simp)
  case configurationReadDone t image =>
    exact State.unlessHeld_induct hs fun _ => State.takeImage_clockInv image (State.advance_clockInv t hs)
  case refinEdge t ord df =>
    exact State.unlessHeld_induct hs fun _ => State.refinEdge_clockInv ord df (State.advance_clockInv t hs)
  case slotTimerExpiry t ord df =>
    exact State.unlessHeld_induct hs fun _ => State.slotTimer_clockInv ord df (State.advance_clockInv t hs)
  case lossLimitExpiry t ord df =>
    exact State.unlessHeld_induct hs fun _ => State.lossLimit_clockInv ord df (State.advance_clockInv t hs)
  case holdoverExpiry t ord df =>
    exact State.unlessHeld_induct hs fun _ => State.holdoverExpiry_clockInv ord df (State.advance_clockInv t hs)
  case frameEndReceived t df =>
    exact State.unlessHeld_induct hs fun _ => State.ifHeard_induct _ (State.advance_clockInv t hs)
      (State.receiveEnd_clockInv df (hs.of_eq (by simp) (by simp)))
  case rxFrameAbandoned t x =>
    exact State.unlessHeld_induct hs fun _ => State.ifHeard_induct _ (State.advance_clockInv t hs)
      (State.receiveSymbol_clockInv x true (State.advance_clockInv t hs))
  case takeRelease =>
    exact State.takeFrame_induct _ _ hs fun _ f rest _ _ =>
      ((hs.of_eq rfl rfl : ClockInv (s.withRxRest rest)).of_kept (State.takeReleaseFrame_clockKept _)).of_eq (by simp) (by simp)
  case answerDue | recipeQueryDue | unavailableQueryDue | carrierQueryDue | peerRecordAgeOut | unneededExpiry | windowClose
      | planningHoldExpiry | refreshDue | claimRetry | tripWindowExpiry | joinCountExpiry =>
    exact State.ownTaking_clockInv _ _ hs
  case confirmDeadline df | tripRestEnd df => exact State.ownTaking_clockInv _ _ (State.choose_clockInv df hs)
  case selfTestVerdict t =>
    exact State.ownTaking_clockInv _ _ (State.unlessHeld_induct hs fun _ => State.advance_clockInv t hs)
  case takeAdmit | takeHandover | takeCarrierQuery | takeRecipe | takeRecipeQuery =>
    exact State.takeFrame_induct _ _ hs fun _ f rest _ _ =>
      hs.of_eq (by simp [State.withRxRest]) (by simp [State.withRxRest])
  case entryRising | entryFalling | exitRising | exitFalling | forwardCount | backwardCount =>
    exact State.sense_induct _ hs fun _ => hs.of_eq (by simp) (by simp)
  case startMarkReceived t =>
    exact State.unlessHeld_induct hs fun _ => State.ifHeard_induct _ (State.advance_clockInv t hs)
      (hs.of_eq (by simp) (by simp))
  case dataSymbolReceived t b =>
    exact State.unlessHeld_induct hs fun _ => State.ifHeard_induct _ (State.advance_clockInv t hs)
      (hs.of_eq (by simp) (by simp))
  case ackReceived | readingReceived | faultReceived =>
    exact State.unlessHeld_induct hs fun _ => by
      split
      all_goals exact hs.of_eq (by simp) (by simp)
  all_goals exact State.unlessHeld_induct hs fun _ => hs.of_eq (by simp) (by simp)

/-- Settles O57: the commands of the clock leave a sound clock, and every other one moves at most the aligned flag and the tracker. -/
theorem slotClockStaysInRange : Obligations.SlotClockStaysInRange := fun s t hs hstep =>
  step_induct (p := fun s t => ClockInv s → ClockInv t) (fun c _ _ h hs => exec_keeps_clockInv c hs h)
    (fun _ _ _ h hs => h (hs.of_eq rfl rfl)) (fun s hs => hs.of_kept s.quiet_clockKept) s t hstep hs

end Sys2Proof.Machine
end

section
/-! PROOFS. The boundary's takings and the clock's commands, as what every property of the other blocks meets them. -/

namespace Sys2Proof.Machine

open Sys2Proof

/-! ### Takings -/

theorem foldl_induct {α β : Type} {p : β → Prop} {f : β → α → β} (h : ∀ b a, p b → p (f b a)) :
    ∀ (l : List α) (b : β), p b → p (l.foldl f b)
  | [], _, hb => hb
  | a :: l, b, hb => foldl_induct h l (f b a) (h b a hb)

/-- What every owed taking with its one CLAIM submission keeps, and the payment of it, every taking keeps. -/
structure KeptByTakings (p : State → Prop) : Prop where
  boundary : ∀ s b, p s → p (s.setBoundary b)
  taking : ∀ t s, p s → p (runTask t s).flushClaim

theorem KeptByTakings.runOwed {p : State → Prop} (k : KeptByTakings p) (t : Task) {s : State} (hs : p s) : p (s.runOwed t) := by
  unfold State.runOwed
  split
  next => exact k.taking t _ (k.boundary s _ hs)
  next => exact hs

theorem KeptByTakings.takeTask {p : State → Prop} (k : KeptByTakings p) (t : Task) {s : State} (hs : p s) : p (s.takeTask t) :=
  k.runOwed t (foldl_induct (fun _ t => k.runOwed t) _ s hs)

theorem KeptByTakings.takeTasks {p : State → Prop} (k : KeptByTakings p) (ts : List Task) {s : State} (hs : p s) :
    p (s.takeTasks ts) :=
  foldl_induct (fun _ t => k.takeTask t) ts s hs

theorem KeptByTakings.drain {p : State → Prop} (k : KeptByTakings p) {s : State} (hs : p s) : p s.drain := k.takeTasks allTasks hs

theorem KeptByTakings.quiet {p : State → Prop} (k : KeptByTakings p) {s : State} (hs : p s) : p s.quiet := by
  unfold State.quiet
  split
  next => exact k.takeTask _ hs
  next => exact hs

theorem KeptByTakings.ownTaking {p : State → Prop} (k : KeptByTakings p) (t : Task) (due : State → Bool) {s : State} (hs : p s) :
    p (s.ownTaking t due) :=
  State.ownTaking_induct t due hs fun _ => k.takeTask t hs

/-- A choice of log 5 that a command brings to the boundary, taken with one of its takings. -/
theorem KeptByTakings.chosenTaking {p : State → Prop} (k : KeptByTakings p) (df : Bool) (t : Task) (due : State → Bool) {s : State}
    (hs : p s) : p ((s.unlessHeld (State.choose df)).ownTaking t due) :=
  k.ownTaking t due (State.unlessHeld_induct hs fun _ => k.boundary s _ hs)

/-! ### The slot clock's commands -/

/-- A command of the slot clock ends the slot in progress, after what the boundary before still owes, or changes nothing. -/
def EndsSlotOrNothing (ord : List Task) (df : Bool) (s t : State) : Prop :=
  t = s ∨ ∃ next notices, t = s.drain.endSlot next notices ord df

theorem State.refinEdge_endsSlot (ord : List Task) (df : Bool) (s : State) : EndsSlotOrNothing ord df s (s.refinEdge ord df) := by
  unfold State.refinEdge EndsSlotOrNothing
  generalize s.drain = u
  split
  next => exact .inl rfl
  next =>
    split
    next => exact .inl rfl
    next => exact .inr ⟨_, _, rfl⟩
    next => exact .inr ⟨_, _, rfl⟩

theorem State.endPeriod_endsSlot (ord : List Task) (df : Bool) (s : State) : EndsSlotOrNothing ord df s (s.endPeriod ord df) := by
  unfold State.endPeriod EndsSlotOrNothing
  generalize s.drain = u
  exact .inr ⟨_, _, rfl⟩

theorem State.slotTimer_endsSlot (ord : List Task) (df : Bool) (s : State) : EndsSlotOrNothing ord df s (s.slotTimer ord df) := by
  have hperiod := s.endPeriod_endsSlot ord df
  unfold State.slotTimer
  unfold EndsSlotOrNothing at hperiod ⊢
  generalize s.drain = u at hperiod ⊢
  split
  next => exact .inl rfl
  next =>
    split
    next => exact .inr ⟨_, _, rfl⟩
    next =>
      split
      next => exact hperiod
      next => exact .inl rfl

theorem State.lossLimit_endsSlot (ord : List Task) (df : Bool) (s : State) : EndsSlotOrNothing ord df s (s.lossLimit ord df) := by
  unfold State.lossLimit EndsSlotOrNothing
  generalize s.drain = u
  split
  next => exact .inr ⟨_, _, rfl⟩
  next => exact .inl rfl

theorem State.holdoverExpiry_endsSlot (ord : List Task) (df : Bool) (s : State) :
    EndsSlotOrNothing ord df s (s.holdoverExpiry ord df) := by
  have hperiod := s.endPeriod_endsSlot ord df
  unfold State.holdoverExpiry
  unfold EndsSlotOrNothing at hperiod ⊢
  generalize s.drain = u at hperiod ⊢
  split
  next => exact hperiod
  next => exact .inl rfl

/-- What neither the clock nor the boundary carries, and every taking keeps, the end of a slot keeps. -/
theorem KeptByTakings.endsSlot {p : State → Prop} (k : KeptByTakings p) (hclock : ∀ s c, p s → p (s.setClock c))
    {ord : List Task} {df : Bool} {s t : State} (h : EndsSlotOrNothing ord df s t) (hs : p s) : p t := by
  rcases h with rfl | ⟨next, notices, rfl⟩
  · exact hs
  · exact k.takeTasks ord (k.boundary _ _ (hclock _ _ (k.drain hs)))

/-- The clock's commands keep what neither the clock nor the boundary nor the instant carries, and every taking keeps. -/
theorem KeptByTakings.clockCommand {p : State → Prop} (k : KeptByTakings p) (hclock : ∀ s c, p s → p (s.setClock c))
    (hnow : ∀ s t, p s → p (s.setNow t)) (t : Instant) {ord : List Task} {df : Bool} {s : State} {f : State → State}
    (hf : ∀ s, EndsSlotOrNothing ord df s (f s)) (hs : p s) : p (s.unlessHeld fun s => f (s.advance t)) :=
  State.unlessHeld_induct hs fun _ => k.endsSlot hclock (hf _) (hnow s _ hs)

/-! ### What an END delivers -/

/-- What the fault of a frame, its drop, the count of a TEST, the receive queue, the two clashes and a taken CLAIM keep, the END of a frame
keeps (R156, R158 to R163). -/
theorem State.receiveEnd_induct {p : State → Prop} (df : Bool) {s : State} (hs : p s) (hdrop : p (s.dropRx .check))
    (hhunt : p (s.updateBus Bus.hunt)) (htest : ∀ u f, p u → p (u.takeTest f)) (hqueue : ∀ u f, p u → p (u.enqueueRx f))
    (hclash : ∀ u, p u → p (u.clash .addressClash df)) (hclaim : ∀ u f, p u → p (u.takeClaim f df)) : p (s.receiveEnd df) := by
  have hfilter (u : State) (f : RxFrame) (own : Bool) (hu : p u) : p (u.filterFrame f own df) := by
    unfold State.filterFrame
    split
    next =>
      split
      next => exact hu
      next => exact hclash u hu
    next =>
      split
      next => exact hu
      next =>
        split
        next =>
          split
          next => exact hclaim u f hu
          next => exact hqueue u f hu
        next => exact hu
  have hdeliver (u : State) (f : RxFrame) (own : Bool) (hu : p u) : p (u.deliver f own df) := by
    unfold State.deliver
    split
    next =>
      split
      next => exact htest u f hu
      next => exact hu
    next => exact hfilter u f own hu
  unfold State.receiveEnd
  split
  next => exact hs
  next => exact hs
  next =>
    split
    next => exact hdrop
    next =>
      split
      next => exact hdeliver _ _ _ hhunt
      next => exact hdrop

/-- A taken CLAIM is a clash of zones, a judged stamp, or a judged stamp and the frame's application (R63). -/
theorem State.takeClaim_induct {p : State → Prop} (f : RxFrame) (df : Bool) {s : State} (hclash : p (s.clash .zoneClash df))
    (hjudge : p (s.judgeStamp f.source (byteAt f.payload 0)).1) (happly : ∀ u q, p u → p (u.applyClaim q)) :
    p (s.takeClaim f df) := by
  unfold State.takeClaim
  dsimp only
  split
  next => exact hclash
  next =>
    split
    next =>
      split
      next => exact happly _ _ hjudge
      next => exact hjudge
    next => exact hjudge

/-- A judged stamp moves the clock, the peer table and the slot in progress, raises SLIP, or slips (R10 to R14). -/
theorem State.judgeStamp_induct {p : State → Prop} (address stamp : Nat) {s : State} (hs : p s)
    (hclock : ∀ u c, p u → p (u.setClock c)) (hraise : p (s.raise .slip .mismatch)) (hrenumber : ∀ q, p (s.renumber q))
    (hforget : ∀ u, p u → p (u.setMap u.map.forgetPeers)) (hslip : ∀ u q, p u → p (u.slip q)) :
    p (s.judgeStamp address stamp).1 := by
  have htrack (v : Verdict) : p (s.trackVerdict address v) := by
    cases v with
    | agree => exact hclock s _ hs
    | early => exact hs
    | reject => exact hraise
    | disagree q =>
      unfold State.trackVerdict
      dsimp only
      split
      next => exact hslip _ q (hclock s _ hs)
      next => exact hclock s _ hs
  have halign (v : Verdict) (d : Nat) : p (s.alignTo v d).1 := by
    cases v with
    | agree => exact hclock s _ hs
    | early => exact hclock s _ hs
    | reject => exact hraise
    | disagree q => exact hclock _ _ (hforget _ (hrenumber q))
  unfold State.judgeStamp
  dsimp only
  split
  next => exact htrack _
  next => exact halign _ _

end Sys2Proof.Machine
end

section
/-! PROOFS. A reverse setpoint is in force only while the own active part stands, and only in JOINED is there one (R61, R93, R100). -/

namespace Sys2Proof.Machine

open Sys2Proof

/-! ### The invariant's two parts -/

/-- The station's standing and the own pair: the invariant without the setpoint. -/
def PairInv (s : State) : Prop :=
  (s.station.held = true ∨ s.station.reading = true → s.station.state = .loading)
    ∧ (s.station.state ≠ .joined → s.map.active = none ∧ s.map.pending = none)

theorem ReverseInv_iff (s : State) : ReverseInv s ↔ PairInv s ∧ (s.engine.setpoint.dir = .rev → s.map.active.isSome = true) := by
  simp only [ReverseInv, PairInv, and_assoc]

/-- Between two states the station kept its standing, the own active part stayed, and an absent own pending part stayed absent. -/
structure PairKept (s t : State) : Prop where
  state : t.station.state = s.station.state
  held : t.station.held = s.station.held
  reading : t.station.reading = s.station.reading
  active : t.map.active = s.map.active
  pending : s.map.pending = none → t.map.pending = none

theorem PairKept.of_station {s t : State} (h : t.station = s.station) (hactive : t.map.active = s.map.active)
    (hpending : s.map.pending = none → t.map.pending = none) : PairKept s t :=
  ⟨by rw [h], by rw [h], by rw [h], hactive, hpending⟩

theorem PairKept.of_eq {s t : State} (h : t.station = s.station) (hmap : t.map = s.map) : PairKept s t :=
  .of_station h (by rw [hmap]) (by rw [hmap]; exact id)

theorem PairInv.of_kept {s t : State} (h : PairKept s t) (hs : PairInv s) : PairInv t := by
  obtain ⟨hstate, hheld, hreading, hactive, hpending⟩ := h
  obtain ⟨hloading, houtside⟩ := hs
  refine ⟨?_, ?_⟩
  · rw [hstate, hheld, hreading]; exact hloading
  · rw [hstate, hactive]
    exact fun hout => ⟨(houtside hout).1, hpending (houtside hout).2⟩

theorem ReverseInv.of_kept {s t : State} (h : PairKept s t) (hsetpoint : t.engine.setpoint = s.engine.setpoint)
    (hs : ReverseInv s) : ReverseInv t := by
  rw [ReverseInv_iff] at hs ⊢
  exact ⟨hs.1.of_kept h, by rw [hsetpoint, h.active]; exact hs.2⟩

theorem ReverseInv.of_station {s t : State} (hs : ReverseInv s) (h : t.station = s.station) (hactive : t.map.active = s.map.active)
    (hpending : s.map.pending = none → t.map.pending = none) (hsetpoint : t.engine.setpoint = s.engine.setpoint) : ReverseInv t :=
  hs.of_kept (.of_station h hactive hpending) hsetpoint

theorem ReverseInv.of_eq {s t : State} (hs : ReverseInv s) (h : t.station = s.station) (hmap : t.map = s.map)
    (hsetpoint : t.engine.setpoint = s.engine.setpoint) : ReverseInv t :=
  hs.of_kept (.of_eq h hmap) hsetpoint

/-- With a setpoint in force that is not reverse, the pair alone matters. -/
theorem PairInv.reverseInv {s : State} (hs : PairInv s) (hdir : s.engine.setpoint.dir ≠ .rev) : ReverseInv s :=
  (ReverseInv_iff s).mpr ⟨hs, fun h => absurd h hdir⟩

/-- Outside JOINED no reverse setpoint is in force. -/
theorem ReverseInv.not_rev {s : State} (hs : ReverseInv s) (hout : s.station.state ≠ .joined) : s.engine.setpoint.dir ≠ .rev := by
  obtain ⟨_, hpair, hrev⟩ := hs
  intro hdir
  have hsome := hrev hdir
  rw [(hpair hout).1] at hsome
  exact Bool.false_ne_true hsome

theorem ReverseInv.pair {s : State} (hs : ReverseInv s) : PairInv s := ((ReverseInv_iff s).mp hs).1

/-! ### Withdrawals (R79 to R83, R100) -/

/-- The immediate stop leaves no reverse setpoint in force. -/
theorem State.stopReverse_not_rev (s : State) : s.stopReverse.engine.setpoint.dir ≠ .rev := by
  unfold State.stopReverse
  split
  next => simp [Setpoint.atRest]
  next h => exact h

theorem State.withdrawNotice_not_rev (s : State) : s.withdrawNotice.engine.setpoint.dir ≠ .rev := by
  have hsame : s.withdrawNotice.engine.setpoint = s.stopReverse.engine.setpoint := by
    unfold State.withdrawNotice State.forgetRequest
    (repeat' split) <;> simp
  rw [hsame]
  exact s.stopReverse_not_rev

theorem State.withdrawNotice_pairKept (s : State) : PairKept s s.withdrawNotice :=
  .of_station (by simp) (by simp) fun h => by simp [h]

/-- A withdrawal as the engine takes it leaves no reverse setpoint, whatever stood before. -/
theorem PairInv.withdrawNotice {s : State} (hs : PairInv s) : ReverseInv s.withdrawNotice :=
  (hs.of_kept s.withdrawNotice_pairKept).reverseInv s.withdrawNotice_not_rev

/-- An emptied pair meets the station in every state. -/
theorem PairInv.of_empty {s : State} (hloading : s.station.held = true ∨ s.station.reading = true → s.station.state = .loading)
    (hactive : s.map.active = none) (hpending : s.map.pending = none) : PairInv s :=
  ⟨hloading, fun _ => ⟨hactive, hpending⟩⟩

/-- A withdrawal leaves the invariant in every station state. -/
theorem State.withdraw_reverseInv (lockout : Bool) {s : State}
    (hloading : s.station.held = true ∨ s.station.reading = true → s.station.state = .loading) :
    ReverseInv (s.withdraw lockout) := by
  refine PairInv.withdrawNotice (.of_empty ?_ ?_ ?_)
  · simpa using hloading
  · simp [SlotMap.emptied]
  · exact State.withdrawalClaim_pending lockout (by simp [SlotMap.emptied])

theorem State.withdraw_active (lockout : Bool) (s : State) : (s.withdraw lockout).map.active = none := by
  simp [State.withdraw, SlotMap.emptied]

theorem State.withdraw_pending (lockout : Bool) (s : State) : (s.withdraw lockout).map.pending = none := by
  have h : ((s.setMap s.map.emptied).clearStarved.withdrawalClaim lockout).map.pending = none :=
    State.withdrawalClaim_pending lockout (by simp [SlotMap.emptied])
  exact State.withdrawNotice_pending h

theorem ReverseInv.loading {s : State} (hs : ReverseInv s) :
    s.station.held = true ∨ s.station.reading = true → s.station.state = .loading := hs.1

/-! ### Setpoints formed on a context (R93) -/

/-- A reverse drive needs an own active part that covers the slot. -/
theorem State.drive_rev {c : Context} {slot : Nat} {g : Segment} {s : State} (h : (s.drive c slot g).setpoint.dir = .rev) :
    s.map.active.isSome = true := by
  unfold State.drive at h
  split at h
  next => simp [Setpoint.atRest] at h
  next => unfold driveOf at h; split at h <;> simp [Setpoint.atRest] at h
  next =>
    split at h
    next hcovers =>
      obtain ⟨_, hcovers⟩ := hcovers
      unfold coversOpt at hcovers
      cases hactive : s.map.active with
      | none => simp [hactive] at hcovers
      | some part => rfl
    next => simp [Setpoint.atRest] at h

theorem State.slotRecordFor_rev {c : Context} {slot : Nat} {s : State} (h : (s.slotRecordFor c slot).setpoint.dir = .rev) :
    s.map.active.isSome = true := by
  unfold State.slotRecordFor at h
  dsimp only at h
  split at h
  next => exact State.drive_rev h
  next => simp [Setpoint.atRest] at h

theorem State.engineSlot_reverseInv {s : State} (hs : ReverseInv s) : ReverseInv s.engineSlot := by
  rw [ReverseInv_iff] at hs ⊢
  refine ⟨hs.1.of_kept (.of_eq (by simp) (by simp)), ?_⟩
  have hmap : s.engineSlot.map = s.map := by simp
  rw [hmap]
  by_cases hset : s.station.state.setpoints = true
  · simpa [State.engineSlot, hset] using State.slotRecordFor_rev
  · simpa [State.engineSlot, hset] using hs.2


theorem State.rehand_reverseInv {s : State} (hs : ReverseInv s) : ReverseInv s.rehand := by
  rw [ReverseInv_iff] at hs ⊢
  refine ⟨hs.1.of_kept (.of_eq (by simp) (by simp)), ?_⟩
  have hmap : s.rehand.map = s.map := by simp
  rw [hmap]
  unfold State.rehand
  dsimp only
  split
  next => exact hs.2
  next => simpa using State.slotRecordFor_rev

/-! ### The slot map's boundary and applied frames -/

/-- A commit as the engine takes it: the setpoint in force stays, or is formed anew on the own active part (R99). -/
theorem State.commitNotice_reverseInv {s : State} (hs : ReverseInv s) : ReverseInv s.commitNotice := by
  unfold State.commitNotice
  dsimp only
  split
  next =>
    split
    next => exact hs.of_station (by simp) (by simp) (fun h => by simp [h]) (by simp)
    next =>
      exact State.rehand_reverseInv (hs.of_station (by simp) (by simp) (fun h => by simp [h]) (by simp))
  next => exact State.rehand_reverseInv (hs.of_station (by simp) (by simp) (fun h => by simp [h]) (by simp))

theorem State.flushClaim_reverseInv {s : State} (hs : ReverseInv s) : ReverseInv s.flushClaim :=
  hs.of_station (by simp) (by simp) (fun h => by simp [h]) (by simp)

/-- Without its active part the pair is what PairInv asks, whatever setpoint is in force. -/
theorem PairInv.dropActive {s : State} (hs : PairInv s) : PairInv (s.setMap s.map.dropActive) :=
  ⟨hs.1, fun hout => ⟨rfl, (hs.2 hout).2⟩⟩

theorem State.expireUnneeded_reverseInv {s : State} (hs : ReverseInv s) : ReverseInv s.expireUnneeded := by
  unfold State.expireUnneeded SlotMap.readNeed
  dsimp only
  by_cases hnone : s.map.active.isNone = true
  · simpa [hnone] using hs
  · rw [if_neg hnone]
    split
    next => exact hs
    next =>
      split
      next => exact hs.pair.dropActive.withdrawNotice
      next => exact hs

/-- The window's close empties the own pending part; a commit has it as the active part (R77, R78). -/
theorem State.closeWindow_reverseInv {s : State} (hs : ReverseInv s) : ReverseInv s.closeWindow.1 := by
  have hpair := hs.pair
  unfold State.closeWindow
  split
  next own hown =>
    have hjoined : s.station.state = .joined := by
      refine Classical.byContradiction fun hout => ?_
      rw [(hpair.2 hout).2] at hown
      cases hown
    split
    next =>
      split
      next =>
        have hcommitted : ReverseInv (s.setMap s.map.commit) :=
          (ReverseInv_iff _).mpr ⟨⟨hs.loading, fun hout => absurd hjoined hout⟩, fun _ => by simp [SlotMap.commit, hown]⟩
        exact hcommitted.of_eq (by simp) (by simp) (by simp)
      next => exact hs.of_station rfl rfl (fun _ => rfl) rfl
    next => exact hs
  next => exact hs

/-- Planning places a pending part in JOINED alone (R72). -/
theorem State.plan_reverseInv {s : State} (hs : ReverseInv s) : ReverseInv s.plan.1 := by
  unfold State.plan
  split
  next =>
    split
    next hmay =>
      have hjoined : s.station.state = .joined := by
        simp only [State.mayPlan, Bool.and_eq_true, beq_iff_eq] at hmay
        exact hmay.1.1.1
      split
      next =>
        exact (ReverseInv_iff _).mpr ⟨⟨hs.loading, fun hout => absurd hjoined hout⟩, ((ReverseInv_iff s).mp hs).2⟩
      next => exact hs.of_station (by simp) (by simp) (fun h => by simpa using h) (by simp)
    next => exact hs
  next => exact hs

theorem State.countAndPlan_reverseInv (closing : Bool) {s : State} (hs : ReverseInv s) :
    ReverseInv (s.countAndPlan closing).1 := by
  have hcounted : ReverseInv (s.setMap { s.map with hold := s.map.hold - 1 }) := hs.of_station rfl rfl id rfl
  unfold State.countAndPlan
  dsimp only
  split
  next => exact hcounted
  next => exact State.plan_reverseInv hcounted

theorem State.tellEngine_reverseInv (n : MapNotices) {s : State} (hs : ReverseInv s) : ReverseInv (s.tellEngine n) := by
  have hcommit : ReverseInv (if n.committed then s.commitNotice else s) := by
    split
    next => exact State.commitNotice_reverseInv hs
    next => exact hs
  unfold State.tellEngine
  dsimp only
  split
  next => exact hcommit.of_station (by simp) (by simp) (fun h => by simp [h]) (by simp)
  next => exact hcommit

theorem State.mapFrame_reverseInv {s : State} (hs : ReverseInv s) : ReverseInv s.mapFrame := by
  have haged : ReverseInv (s.setMap s.map.agePeers) := hs.of_station rfl rfl id rfl
  have hexpired := State.expireUnneeded_reverseInv haged
  have hplanned := State.countAndPlan_reverseInv
    ((s.setMap s.map.agePeers).expireUnneeded.map.windowClosed && (s.setMap s.map.agePeers).expireUnneeded.map.pending.isSome)
    (State.closeWindow_reverseInv hexpired)
  exact State.flushClaim_reverseInv (State.tellEngine_reverseInv _ (hplanned.of_station rfl rfl id rfl))

theorem State.mapBoundary_reverseInv {s : State} (hs : ReverseInv s) : ReverseInv s.mapBoundary := by
  have hticked : ReverseInv (s.setMap s.map.tickWindow) := hs.of_station rfl rfl id rfl
  unfold State.mapBoundary
  dsimp only
  split
  next =>
    split
    next => exact State.mapFrame_reverseInv hticked
    next => exact hticked.of_station (by simp) (by simp) (fun h => State.retryClaim_pending h) (by simp)
  next => exact hs

theorem State.testConflict_reverseInv (p : Peer) {s : State} (hs : ReverseInv s) : ReverseInv (s.testConflict p) := by
  unfold State.testConflict
  split
  next =>
    split
    next => exact hs.pair.dropActive.withdrawNotice
    next => exact hs
  next => exact hs

theorem SlotMap.applyFrame_parts (p : Peer) (m : SlotMap) :
    (m.applyFrame p).1.active = m.active ∧ (m.applyFrame p).1.pending = m.pending := by
  unfold SlotMap.applyFrame
  (repeat' split) <;> exact ⟨rfl, rfl⟩

theorem State.applyClaim_reverseInv (p : Peer) {s : State} (hs : ReverseInv s) : ReverseInv (s.applyClaim p) := by
  have hparts := s.map.applyFrame_parts p
  have happlied : ReverseInv (s.setMap (s.map.applyFrame p).1) :=
    hs.of_station rfl hparts.1 (fun h => hparts.2.trans h) rfl
  unfold State.applyClaim
  dsimp only
  split
  next =>
    refine State.flushClaim_reverseInv ?_
    exact (State.testConflict_reverseInv p happlied).of_station (by simp) (by simp) (fun h => by simp [h]) (by simp)
  next => exact happlied

theorem State.mapSlip_reverseInv {s : State} (hs : ReverseInv s) : ReverseInv s.mapSlip :=
  (State.withdraw_reverseInv false hs.loading : ReverseInv ((s.setMap s.map.forgetPeers).withdraw false)).of_station rfl rfl id rfl

theorem State.slip_reverseInv (q : Nat) {s : State} (hs : ReverseInv s) : ReverseInv (s.slip q) := by
  have hraised : ReverseInv ((s.renumber q).raise .slip .shift) := hs.of_eq (by simp) (by simp) (by simp)
  exact (State.mapSlip_reverseInv hraised).of_station (by simp [State.slip]) (by simp [State.slip])
    (fun h => by simp [State.slip, h]) (by simp [State.slip])

/-! ### Changes of station state (R87, R155, R168 to R173) -/

/-- A part that is neither held nor reading its configuration may take any state; it leaves JOINED only where a withdrawal follows. -/
theorem State.setStanding_reverseInv {st : StationState} (join : Option Nat) {s : State} (hs : ReverseInv s)
    (hloaded : s.station.state ≠ .loading) (hjoined : s.station.state ≠ .joined ∨ st = .joined) :
    ReverseInv (s.setStanding st join) := by
  refine ⟨fun h => absurd (hs.loading h) hloaded, fun hout => ?_, hs.2.2⟩
  rcases hjoined with hbefore | hafter
  · exact hs.2.1 hbefore
  · exact absurd hafter hout

theorem State.isolateBlocks_reverseInv {s : State} (hs : ReverseInv s) (hloaded : s.station.state ≠ .loading) :
    ReverseInv s.isolateBlocks := by
  have hwithdrawn : ReverseInv (((s.setStanding .isolated none).enliven).withdraw false) :=
    State.withdraw_reverseInv false fun h => absurd (hs.loading h) hloaded
  unfold State.isolateBlocks
  exact hwithdrawn.of_station (by simp) (by simp) (fun h => by simp [h]) (by simp)

theorem State.enterIsolated_reverseInv {s : State} (hs : ReverseInv s) (hloaded : s.station.state ≠ .loading) :
    ReverseInv s.enterIsolated :=
  (State.isolateBlocks_reverseInv hs hloaded).of_eq (by simp [State.enterIsolated]) (by simp [State.enterIsolated])
    (by simp [State.enterIsolated])

theorem State.failSelfTest_reverseInv {s : State} (hs : ReverseInv s) (hloaded : s.station.state ≠ .loading) :
    ReverseInv s.failSelfTest :=
  (State.isolateBlocks_reverseInv hs hloaded).of_eq (by simp [State.failSelfTest]) (by simp [State.failSelfTest])
    (by simp [State.failSelfTest])

theorem State.askIsolated_reverseInv {s : State} (hs : ReverseInv s) : ReverseInv s.askIsolated := by
  unfold State.askIsolated
  split
  next hbus => exact State.enterIsolated_reverseInv hs fun h => by simp [h, StationState.onBus] at hbus
  next => exact hs

theorem State.declareCond_reverseInv (kind : Kind) (cause : Cause) {s : State} (hs : ReverseInv s) :
    ReverseInv (s.declareCond kind cause) :=
  hs.of_eq (by simp) (by simp) (by simp)

theorem State.clash_reverseInv (kind : Kind) (df : Bool) {s : State} (hs : ReverseInv s) : ReverseInv (s.clash kind df) := by
  unfold State.clash
  split
  next => exact State.askIsolated_reverseInv (State.declareCond_reverseInv kind .clash hs)
  next => exact State.declareCond_reverseInv kind .clash (State.askIsolated_reverseInv hs)

theorem State.enterLockout_reverseInv (df : Bool) {s : State} (hs : ReverseInv s) (hloaded : s.station.state ≠ .loading) :
    ReverseInv (s.enterLockout df) := by
  have hwithdrawn : ReverseInv ((s.tellLockout df).withdraw true) :=
    State.withdraw_reverseInv true fun h => absurd (hs.loading (by simpa using h)) hloaded
  have hleft : ReverseInv
      (if (s.station.state == .joined) = true then ((s.tellLockout df).withdraw true).busLeaveJoined
        else (s.tellLockout df).withdraw true) := by
    split
    next => exact hwithdrawn.of_eq (by simp) (by simp) (by simp)
    next => exact hwithdrawn
  exact hleft.of_station (by simp [State.enterLockout]) (by simp [State.enterLockout])
    (fun h => State.engineLockout_pending h) (by simp [State.enterLockout])

theorem State.askLockout_reverseInv (df : Bool) {s : State} (hs : ReverseInv s) : ReverseInv (s.askLockout df) := by
  unfold State.askLockout
  split
  next h => exact State.enterLockout_reverseInv df hs (by simp [h])
  next h => exact State.enterLockout_reverseInv df hs (by simp [h])
  next => exact hs.of_eq (by simp) (by simp) (by simp)
  all_goals exact hs

/-- A claim that is dropped on the way out of JOINED: own parts that still stand go with the withdrawal's notice, and without any no
reverse setpoint is in force. -/
theorem State.dropClaims_reverseInv {s : State}
    (hloading : s.station.held = true ∨ s.station.reading = true → s.station.state = .loading)
    (hrev : s.engine.setpoint.dir = .rev → s.map.active.isSome = true) : ReverseInv s.dropClaims := by
  unfold State.dropClaims
  split
  next hempty =>
    simp only [SlotMap.pairEmpty, Bool.and_eq_true, Option.isNone_iff_eq_none] at hempty
    have hs : ReverseInv s := ⟨hloading, fun _ => hempty, hrev⟩
    exact hs.of_eq (by simp) (by simp) (by simp)
  next =>
    refine PairInv.withdrawNotice (.of_empty ?_ ?_ ?_)
    · simpa using hloading
    · simp [SlotMap.emptied]
    · exact State.withdrawalClaim_pending false (by simp [SlotMap.emptied])

theorem State.loseJoined_reverseInv {s : State} (hs : ReverseInv s) (hjoined : s.station.state = .joined) :
    ReverseInv s.loseJoined := by
  have hdropped : ReverseInv ((((s.setStanding .listening none).clearAligned).tellMonitor .listening).dropClaims) := by
    refine State.dropClaims_reverseInv (fun h => ?_) (by simpa using ((ReverseInv_iff s).mp hs).2)
    have hloading := hs.loading (by simpa using h)
    rw [hjoined] at hloading
    cases hloading
  exact hdropped.of_station (by simp [State.loseJoined]) (by simp [State.loseJoined])
    (fun h => by simp [State.loseJoined, h]) (by simp [State.loseJoined])

theorem State.refLost_reverseInv {s : State} (hs : ReverseInv s) : ReverseInv s.refLost := by
  have hlost : ReverseInv s.lockLost := hs.of_kept ⟨by simp, by simp, by simp, by simp, by simp⟩ (by simp)
  unfold State.refLost
  dsimp only
  split
  next h => exact State.loseJoined_reverseInv hlost h
  next => exact hlost

theorem State.enterJoined_reverseInv {s : State} (hs : ReverseInv s) (hloaded : s.station.state ≠ .loading) :
    ReverseInv s.enterJoined :=
  (State.setStanding_reverseInv (st := .joined) none hs hloaded (.inr rfl)).of_station (by simp [State.enterJoined])
    (by simp [State.enterJoined]) (fun h => by
      have h' : s.map.pending = none := h
      simp [State.enterJoined, h']) (by simp [State.enterJoined])

/-- Entry to LISTENING from SELF-TEST or LOCKOUT. -/
theorem State.setListening_reverseInv (join : Option Nat) {s : State} (hs : ReverseInv s) (hloaded : s.station.state ≠ .loading)
    (hout : s.station.state ≠ .joined) : ReverseInv (s.setStanding .listening join) :=
  State.setStanding_reverseInv join hs hloaded (.inl hout)

theorem State.passSelfTest_reverseInv {s : State} (hs : ReverseInv s) (hstate : s.station.state = .selfTest) :
    ReverseInv s.passSelfTest :=
  (State.setListening_reverseInv s.station.freshJoin hs (by simp [hstate]) (by simp [hstate])).of_station
    (by simp [State.passSelfTest]) (by simp [State.passSelfTest])
    (fun h => by
      have h' : s.map.pending = none := h
      simp [State.passSelfTest, h']) (by simp [State.passSelfTest])

theorem State.releaseToListening_reverseInv {s : State} (hs : ReverseInv s) (hstate : s.station.state = .lockout) :
    ReverseInv s.releaseToListening :=
  (State.setListening_reverseInv s.station.freshJoin hs (by simp [hstate]) (by simp [hstate])).of_station
    (by simp [State.releaseToListening]) (by simp [State.releaseToListening])
    (fun h => by
      have h' : s.map.pending = none := h
      simp [State.releaseToListening, h']) (by simp [State.releaseToListening])

theorem State.takeReleaseFrame_reverseInv {s : State} (hs : ReverseInv s) : ReverseInv s.takeReleaseFrame := by
  unfold State.takeReleaseFrame
  split
  next hstate =>
    have hcleared : ReverseInv ((s.setBridge s.bridge.release).clearCond .lockout .release) :=
      hs.of_eq (by simp) (by simp) (by simp)
    have hsame : ((s.setBridge s.bridge.release).clearCond .lockout .release).station.state = .lockout := by simpa using hstate
    unfold State.release
    dsimp only
    split
    next => exact State.enterJoined_reverseInv hcleared (by rw [hsame]; simp)
    next => exact State.releaseToListening_reverseInv hcleared hsame
  next => exact hs

theorem State.stationFrame_reverseInv {s : State} (hs : ReverseInv s) : ReverseInv s.stationFrame := by
  unfold State.stationFrame
  split
  next hstate =>
    have hcounted : ReverseInv (s.setStation { s.station with selfFrames := s.station.selfFrames + 1 }) :=
      hs.of_kept ⟨rfl, rfl, rfl, rfl, id⟩ rfl
    unfold State.selfTestFrame
    dsimp only
    split
    next =>
      split
      next => exact State.passSelfTest_reverseInv hcounted hstate
      next => exact State.failSelfTest_reverseInv hcounted (by simp [hstate])
    next => exact hcounted
  next hstate =>
    unfold State.joinFrame
    split
    next =>
      split
      next => exact State.enterJoined_reverseInv hs (by simp [hstate])
      next => exact hs.of_kept ⟨rfl, rfl, rfl, rfl, id⟩ rfl
    next => exact hs
  all_goals exact hs

/-- A configuration read is under way in LOADING alone, and ends there. -/
theorem State.takeImage_reverseInv (image : List Byte) {s : State} (hs : ReverseInv s) (hrun : s.running) :
    ReverseInv (s.takeImage image) := by
  have hheld : s.station.held = false := hrun
  unfold State.takeImage
  split
  next hreading =>
    have hloading := hs.loading (.inr hreading.1)
    have ⟨hactive, hpending⟩ := hs.2.1 (by simp [hloading])
    have hdir := hs.not_rev (by simp [hloading])
    split
    next =>
      refine PairInv.reverseInv (.of_empty ?_ ?_ ?_) ?_
      · simp [State.startSelfTest, State.submitTest, hheld]
      · simpa [State.startSelfTest, State.submitTest] using hactive
      · simpa [State.startSelfTest, State.submitTest] using hpending
      · simpa [State.startSelfTest, State.submitTest] using hdir
    next =>
      refine PairInv.reverseInv (.of_empty ?_ ?_ ?_) ?_
      · simp [State.configFault, hheld]
      · simpa [State.configFault] using hactive
      · simpa [State.configFault] using hpending
      · simpa [State.configFault] using hdir
  next => exact hs

theorem State.releaseReset_reverseInv {s : State} (hs : ReverseInv s) : ReverseInv s.releaseReset := by
  unfold State.releaseReset
  split
  next hheld => exact ⟨fun _ => hs.loading (.inl hheld), hs.2⟩
  next => exact hs

theorem State.hardReset_reverseInv (s : State) : ReverseInv s.hardReset :=
  ⟨fun _ => rfl, fun _ => ⟨rfl, rfl⟩, fun h => by cases h⟩

/-! ### Trips (R103, R116, R119) -/

/-- A trip that is the first of its rest puts the setpoint to REST. -/
theorem State.engineTrip_reverseInv {s : State} (hs : ReverseInv s) : ReverseInv s.engineTrip := by
  have hpair : PairInv s.engineTrip := hs.pair.of_kept (.of_station (by simp) (by simp) fun h => by simp [h])
  by_cases hrest : s.engine.tripRest = true
  · simpa [State.engineTrip, hrest] using hs
  · refine hpair.reverseInv ?_
    simp [State.engineTrip, hrest, Setpoint.atRest]

theorem State.trip_reverseInv (cause : Cause) (df : Bool) {s : State} (hs : ReverseInv s) : ReverseInv (s.trip cause df) := by
  unfold State.trip
  dsimp only
  split
  next => exact hs
  next =>
    have htripped :
        ReverseInv ((((s.updateBridge fun b => b.enterTripped.countTrip).raise .trip cause).flagAll .tripped).engineTrip) :=
      State.engineTrip_reverseInv (hs.of_eq (by simp) (by simp) (by simp))
    split
    next => exact State.askLockout_reverseInv df (htripped.of_eq (by simp) (by simp) (by simp))
    next => exact htripped

theorem State.miss_reverseInv (df : Bool) {s : State} (hs : ReverseInv s) : ReverseInv (s.miss df) := by
  unfold State.miss
  split
  next => exact hs
  next =>
    split
    next => exact State.trip_reverseInv .silent df (hs.of_eq rfl rfl rfl)
    next => exact hs.of_eq rfl rfl rfl

theorem State.missReading_reverseInv (log : SlotLog) (df : Bool) {s : State} (hs : ReverseInv s) :
    ReverseInv (s.missReading log df) :=
  State.miss_reverseInv df (hs.of_eq (by simp) (by simp) (by simp))

theorem State.deadline_reverseInv (df : Bool) {s : State} (hs : ReverseInv s) : ReverseInv (s.deadline df) := by
  unfold State.deadline
  split
  next => exact State.trip_reverseInv _ df hs
  next => exact hs

theorem State.endSlotLog_reverseInv (log : Option SlotLog) (df : Bool) {s : State} (hs : ReverseInv s) :
    ReverseInv (s.endSlotLog log df) := by
  unfold State.endSlotLog
  dsimp only
  split
  next =>
    split
    next => exact hs.of_eq (by simp) (by simp) (by simp)
    next =>
      unfold State.markSlot
      split
      next => exact State.missReading_reverseInv _ df (hs.of_eq rfl rfl rfl)
      next => exact hs.of_eq rfl rfl rfl
  next => exact hs.of_eq (by simp) (by simp) (by simp)

theorem State.bridgeSlot_reverseInv {s : State} (hs : ReverseInv s) : ReverseInv s.bridgeSlot := by
  have hrest : ReverseInv s.tickRest := hs.of_station (by simp) (by simp) (fun h => by simp [h]) (by simp)
  exact State.endSlotLog_reverseInv _ _ ((State.deadline_reverseInv s.boundary.df hrest).of_eq rfl rfl rfl)

theorem State.sentMark_reverseInv (t : Instant) (df : Bool) {s : State} (hs : ReverseInv s) : ReverseInv (s.sentMark t df) := by
  unfold State.sentMark
  split
  next =>
    have hended : ReverseInv ((s.updateBridge (Bridge.endMessage t)).endExpectation df) := by
      unfold State.endExpectation
      dsimp only
      split
      next =>
        split
        next => exact State.missReading_reverseInv _ df (hs.of_eq rfl rfl rfl)
        next => exact hs.of_eq rfl rfl rfl
      next => exact hs.of_eq rfl rfl rfl
    exact hended.of_eq rfl rfl rfl
  all_goals exact hs

theorem State.takeRunOut_reverseInv (t : Instant) (df : Bool) {s : State} (hs : ReverseInv s) :
    ReverseInv (s.takeRunOut t df) := by
  unfold State.takeRunOut
  split
  next =>
    split
    next => exact State.miss_reverseInv df (hs.of_eq rfl rfl rfl)
    next => exact hs
  next => exact hs

theorem State.readingRunOut_reverseInv (t : Instant) (df : Bool) {s : State} (hs : ReverseInv s) :
    ReverseInv (s.readingRunOut t df) := by
  unfold State.readingRunOut
  split
  next =>
    split
    next =>
      split
      next => exact State.miss_reverseInv df (hs.of_eq (by simp) (by simp) (by simp))
      next => exact hs
    next => exact hs
  next => exact hs

theorem State.takeAck_reverseInv (a : AckDir) (df : Bool) {s : State} (hs : ReverseInv s) : ReverseInv (s.takeAck a df) := by
  have hacked : ReverseInv (s.updateBridge fun b => { b with acked := a }) := hs.of_eq rfl rfl rfl
  have hjudged (p : Prop) [Decidable p] : ReverseInv
      (if p then s.updateBridge fun b => { b with acked := a }
        else (s.updateBridge fun b => { b with acked := a }).trip .wrongDirection df) := by
    split
    next => exact hacked
    next => exact State.trip_reverseInv _ df hacked
  unfold State.takeAck
  split
  next =>
    split
    next => exact hs.of_eq rfl rfl rfl
    next => exact hs
  next => exact hs.of_eq rfl rfl rfl
  next =>
    dsimp only
    split
    next => exact hs.of_eq rfl rfl rfl
    next => exact State.trip_reverseInv _ df hacked
  all_goals exact hjudged _

theorem State.judgeReading_reverseInv (log : SlotLog) (current : Int) (df : Bool) {s : State} (hs : ReverseInv s) :
    ReverseInv (s.judgeReading log current df) := by
  unfold State.judgeReading
  split
  next => exact State.trip_reverseInv _ df hs
  next =>
    split
    next => exact State.trip_reverseInv _ df hs
    next => exact hs

theorem State.takeReading_reverseInv (m : Measured) (slotMod4 : Nat) (df : Bool) {s : State} (hs : ReverseInv s) :
    ReverseInv (s.takeReading m slotMod4 df) := by
  unfold State.takeReading
  split
  next => exact hs
  next =>
    split
    next =>
      split
      next =>
        refine State.judgeReading_reverseInv _ _ df ?_
        split
        next => exact hs.of_eq (by simp) (by simp) (by simp)
        next => exact hs.of_eq (by simp) (by simp) (by simp)
      next => exact hs
    next => exact hs

/-! ### Every command -/

theorem runTask_reverseInv (t : Task) {s : State} (hs : ReverseInv s) : ReverseInv (runTask t s) := by
  cases t
  case lockGainedStation => exact hs.of_kept ⟨by simp [runTask], by simp [runTask], by simp [runTask],
      by simp [runTask], by simp [runTask]⟩ (by simp [runTask])
  case lockLost => exact hs.of_kept ⟨by simp [runTask], by simp [runTask], by simp [runTask],
      by simp [runTask], by simp [runTask]⟩ (by simp [runTask])
  case refLostStation => exact State.refLost_reverseInv hs
  case refLostMap =>
    show ReverseInv s.refLostMap
    unfold State.refLostMap
    split
    next => exact State.withdraw_reverseInv false hs.loading
    next => exact hs
  case engineSlot => exact State.engineSlot_reverseInv hs
  case bridgeSlot => exact State.bridgeSlot_reverseInv hs
  case slotMap => exact State.mapBoundary_reverseInv hs
  case station => exact State.stationFrame_reverseInv hs
  all_goals
    exact hs.of_station (by simp [runTask]) (by simp [runTask]) (fun h => by simp [runTask, h]) (by simp [runTask])

theorem reverseInv_keptByTakings : KeptByTakings ReverseInv where
  boundary _ _ hs := hs.of_eq rfl rfl rfl
  taking t _ hs := State.flushClaim_reverseInv (runTask_reverseInv t hs)

theorem State.takeClaim_reverseInv (f : RxFrame) (df : Bool) {s : State} (hs : ReverseInv s) : ReverseInv (s.takeClaim f df) :=
  State.takeClaim_induct f df (State.clash_reverseInv _ df hs)
    (State.judgeStamp_induct _ _ hs (fun _ _ h => h.of_eq rfl rfl rfl) (hs.of_eq (by simp) (by simp) (by simp))
      (fun _ => hs.of_eq rfl rfl rfl) (fun _ h => h.of_station rfl rfl id rfl) (fun _ q h => State.slip_reverseInv q h))
    (fun _ q h => State.applyClaim_reverseInv q h)

theorem State.receiveEnd_reverseInv (df : Bool) {s : State} (hs : ReverseInv s) : ReverseInv (s.receiveEnd df) :=
  State.receiveEnd_induct df hs (hs.of_kept ⟨by simp, by simp, by simp, by simp, by simp⟩ (by simp)) (hs.of_eq rfl rfl rfl)
    (fun _ _ h => h.of_kept ⟨by simp, by simp, by simp, by simp, by simp⟩ (by simp))
    (fun _ _ h => h.of_kept ⟨by simp, by simp, by simp, by simp, by simp⟩ (by simp))
    (fun _ h => State.clash_reverseInv _ df h) (fun _ f h => State.takeClaim_reverseInv f df h)

theorem State.receiveSymbol_reverseInv (x : Symbol) (df : Bool) {s : State} (hs : ReverseInv s) :
    ReverseInv (s.receiveSymbol x df) := by
  unfold State.receiveSymbol
  split
  case h_3 => exact State.receiveEnd_reverseInv df (hs.of_eq (by simp) (by simp) (by simp))
  all_goals exact hs.of_kept ⟨by simp, by simp, by simp, by simp, by simp⟩ (by simp)

theorem exec_keeps_reverseInv (c : Instr) {s t : State} (hs : ReverseInv s) (h : exec c s = .next t) : ReverseInv t := by
  have hadvance (t : Instant) : ReverseInv (s.advance t) := hs.of_eq rfl rfl rfl
  have htakings := reverseInv_keptByTakings
  have hclock (s : State) (c : Clock) (hs : ReverseInv s) : ReverseInv (s.setClock c) := hs.of_eq rfl rfl rfl
  have hnow (s : State) (t : Instant) (hs : ReverseInv s) : ReverseInv (s.setNow t) := hs.of_eq rfl rfl rfl
  have hflush {u : State} (hu : ReverseInv u) : ReverseInv u.flushClaim := State.flushClaim_reverseInv hu
  cases c
  case blroomRise =>
    rw [exec_blroomRise_eq] at h
    injection h with h
    subst h
    split <;> exact hs.of_eq rfl rfl rfl
  all_goals
    injection h with h
    subst h
  case hardwareReset => exact State.hardReset_reverseInv s
  case rstnRelease => exact State.releaseReset_reverseInv hs
  case configurationReadDone t image =>
    exact State.unlessHeld_induct hs fun hrun => State.takeImage_reverseInv image (hadvance t) hrun
  case refinEdge t ord df => exact htakings.clockCommand hclock hnow t (fun s => s.refinEdge_endsSlot ord df) hs
  case slotTimerExpiry t ord df => exact htakings.clockCommand hclock hnow t (fun s => s.slotTimer_endsSlot ord df) hs
  case lossLimitExpiry t ord df => exact htakings.clockCommand hclock hnow t (fun s => s.lossLimit_endsSlot ord df) hs
  case holdoverExpiry t ord df => exact htakings.clockCommand hclock hnow t (fun s => s.holdoverExpiry_endsSlot ord df) hs
  case frameEndReceived t df =>
    exact State.unlessHeld_induct hs fun _ => State.ifHeard_induct _ (hadvance t)
      (State.receiveEnd_reverseInv df (hs.of_eq (by simp) (by simp) (by simp)))
  case rxFrameAbandoned t x =>
    exact State.unlessHeld_induct hs fun _ => State.ifHeard_induct _ (hadvance t) (State.receiveSymbol_reverseInv x true (hadvance t))
  case startMarkReceived t | dataSymbolReceived t b =>
    exact State.unlessHeld_induct hs fun _ => State.ifHeard_induct _ (hadvance t)
      (hs.of_kept ⟨by simp, by simp, by simp, by simp, by simp⟩ (by simp))
  case receiveTimeout t =>
    exact State.unlessHeld_induct hs fun _ => hs.of_kept ⟨by simp, by simp, by simp, by simp, by simp⟩ (by simp)
  case collision t =>
    exact State.unlessHeld_induct hs fun _ => hs.of_kept ⟨by simp, by simp, by simp, by simp, fun h => by simp [h]⟩ (by simp)
  case takeRelease =>
    exact State.takeFrame_induct _ _ hs fun _ f rest _ _ =>
      hflush (State.takeReleaseFrame_reverseInv (hs.of_eq rfl rfl rfl : ReverseInv (s.withRxRest rest)))
  case answerDue | recipeQueryDue | unavailableQueryDue | carrierQueryDue | peerRecordAgeOut | unneededExpiry | windowClose
      | planningHoldExpiry | refreshDue | claimRetry | tripWindowExpiry | joinCountExpiry =>
    exact htakings.ownTaking _ _ hs
  case confirmDeadline df | tripRestEnd df => exact htakings.chosenTaking df _ _ hs
  case selfTestVerdict t => exact htakings.ownTaking _ _ (State.unlessHeld_induct hs fun _ => hadvance t)
  case takeAdmit | takeHandover | takeCarrierQuery | takeRecipe | takeRecipeQuery =>
    exact State.takeFrame_induct _ _ hs fun _ f rest _ _ => hflush
      ((hs.of_eq rfl rfl rfl : ReverseInv (s.withRxRest rest)).of_station (by simp) (by simp) (fun h => by simp [h]) (by simp))
  case entryRising | entryFalling | exitRising | exitFalling | forwardCount | backwardCount =>
    exact State.sense_induct _ hs fun _ => hs.of_eq (by simp) (by simp) (by simp)
  case markSent t df => exact State.unlessHeld_induct hs fun _ => hflush (State.sentMark_reverseInv _ df (hadvance t))
  case takeWindowExpiry t df => exact State.unlessHeld_induct hs fun _ => hflush (State.takeRunOut_reverseInv _ df (hadvance t))
  case readingWindowExpiry t df =>
    exact State.unlessHeld_induct hs fun _ => hflush (State.readingRunOut_reverseInv _ df (hadvance t))
  case ackReceived w df =>
    exact State.unlessHeld_induct hs fun _ => by
      split
      next => exact hflush (State.takeAck_reverseInv _ df hs)
      all_goals exact hs
  case readingReceived w df =>
    exact State.unlessHeld_induct hs fun _ => by
      split
      next => exact hflush (State.takeReading_reverseInv _ _ df hs)
      all_goals exact hs
  case faultReceived w df =>
    exact State.unlessHeld_induct hs fun _ => by
      split
      next => exact hflush (State.trip_reverseInv _ df hs)
      all_goals exact hs
  all_goals exact State.unlessHeld_induct hs fun _ => hs.of_station (by simp) (by simp) (fun h => by simp [h]) (by simp)

/-- Settles O58: each event keeps the invariant, a withdrawal because the engine's immediate stop comes with it, and a slot's setpoint because
it is reverse only in a slot that the own active part covers. -/
theorem reverseCurrentOnlyUnderAClaim : Obligations.ReverseCurrentOnlyUnderAClaim := fun s t hs hstep =>
  step_induct (p := fun s t => ReverseInv s → ReverseInv t) (fun c _ _ h hs => exec_keeps_reverseInv c hs h)
    (fun _ _ _ h hs => h (hs.of_eq rfl rfl rfl)) (fun _ hs => reverseInv_keptByTakings.quiet hs) s t hstep hs

end Sys2Proof.Machine
end

section
/-! PROOFS. The bridge is OFF where nothing may be plated, and no commanded current exceeds its rating (R106). -/

namespace Sys2Proof.Machine

open Sys2Proof

/-! ### Ratings -/

theorem Setpoint.atRest_within (cfg : Cfg) : Setpoint.atRest.within cfg := Nat.zero_le _

theorem Setpoint.lowered_within (cfg : Cfg) (sp : Setpoint) : (sp.lowered cfg).within cfg := by
  unfold Setpoint.lowered
  dsimp only
  split
  next => exact Setpoint.atRest_within cfg
  next => exact Nat.min_le_right _ _

/-- With every rating at 0 the currents are 0, and so within any configuration's ratings. -/
theorem Setpoint.within_of_unset (cfg : Cfg) {sp : Setpoint} (h : sp.within Cfg.unset) : sp.within cfg := by
  have hzero : ratingOf Cfg.unset sp.dir = 0 := by cases sp.dir <;> rfl
  unfold Setpoint.within at h ⊢
  omega

section Within

variable {cfg : Cfg} {b : Bridge} (hb : b.withinRatings cfg)

include hb

theorem Bridge.withinRatings_of_buffer {l : List LaneMsg} (hl : ∀ sp, .setpoint sp ∈ l → sp.within cfg) :
    ({ b with buffer := l } : Bridge).withinRatings cfg :=
  ⟨hl, hb.2⟩

theorem Bridge.placeSetpoint_within {sp : Setpoint} (hsp : sp.within cfg) : (b.placeSetpoint sp).withinRatings cfg := by
  unfold Bridge.placeSetpoint
  split
  next => exact hb
  next =>
    split
    next =>
      refine Bridge.withinRatings_of_buffer hb fun sp' hmem => ?_
      obtain ⟨m, hm, heq⟩ := List.mem_map.mp hmem
      split at heq
      next => cases heq; exact hsp
      next => exact hb.1 sp' (heq ▸ hm)
    next =>
      refine Bridge.withinRatings_of_buffer hb fun sp' hmem => ?_
      rcases List.mem_append.mp hmem with hmem | hmem
      · exact hb.1 sp' hmem
      · cases List.mem_singleton.mp hmem; exact hsp

theorem Bridge.placeOff_within : b.placeOff.withinRatings cfg := by
  unfold Bridge.placeOff
  split
  next => exact hb
  next =>
    split
    next =>
      refine Bridge.withinRatings_of_buffer hb fun sp' hmem => ?_
      obtain ⟨m, hm, heq⟩ := List.mem_map.mp hmem
      split at heq
      next => cases heq
      next => exact hb.1 sp' (heq ▸ hm)
    next =>
      refine Bridge.withinRatings_of_buffer hb fun sp' hmem => ?_
      rcases List.mem_append.mp hmem with hmem | hmem
      · exact hb.1 sp' hmem
      · cases List.mem_singleton.mp hmem

theorem Bridge.placeMark_within (log : SlotLog) : (b.placeMark log).withinRatings cfg := by
  refine Bridge.withinRatings_of_buffer hb fun sp' hmem => ?_
  rcases List.mem_append.mp hmem with hmem | hmem
  · exact hb.1 sp' (List.mem_filter.mp hmem).1
  · cases List.mem_singleton.mp hmem

theorem Bridge.driveSetpoint_within {sp : Setpoint} (hsp : sp.within cfg) : (b.driveSetpoint sp).withinRatings cfg := by
  unfold Bridge.driveSetpoint
  split
  next => exact hb
  next => exact Bridge.placeSetpoint_within hb hsp

theorem Bridge.dropHeld_within : ({ b with held := none } : Bridge).withinRatings cfg :=
  ⟨hb.1, hb.2.1, nofun, hb.2.2.2⟩

theorem Bridge.holdSetpoint_within {sp : Setpoint} (hsp : sp.within cfg) : (b.holdSetpoint sp).withinRatings cfg := by
  unfold Bridge.holdSetpoint
  split
  next => exact Bridge.dropHeld_within (Bridge.placeSetpoint_within hb hsp)
  next => exact ⟨hb.1, hb.2.1, fun sp' h => by cases h; exact hsp, hb.2.2.2⟩

theorem Bridge.takeSetpoint_within {sp : Setpoint} (hsp : sp.within cfg) : (b.takeSetpoint sp).withinRatings cfg := by
  unfold Bridge.takeSetpoint
  split
  next => exact hb
  next => exact hb
  next => exact Bridge.holdSetpoint_within hb hsp
  all_goals exact Bridge.driveSetpoint_within hb hsp

theorem Bridge.recordAccepted_within (slot : Nat) (logOpen : Bool) {sp : Setpoint} (hsp : sp.within cfg) :
    (b.recordAccepted slot logOpen sp).withinRatings cfg := by
  unfold Bridge.recordAccepted
  split
  next => exact hb
  next => exact ⟨hb.1, hb.2.1, hb.2.2.1, fun a h => by cases h; exact hsp, hb.2.2.2.2⟩

theorem Bridge.send_within : b.send.withinRatings cfg := by
  unfold Bridge.send
  split
  next m rest hbuffer =>
    split
    next =>
      have hhead : ∀ sp, m = .setpoint sp → sp.within cfg := fun sp h => hb.1 sp (by rw [hbuffer, h]; exact List.mem_cons_self)
      refine ⟨fun sp h => hb.1 sp (by rw [hbuffer]; exact List.mem_cons_of_mem _ h), fun sp h => hhead sp (Option.some.inj h), ?_⟩
      exact hb.2.2
    next => exact hb
  next => exact hb

theorem Bridge.endMessage_within (t : Instant) : (b.endMessage t).withinRatings cfg :=
  ⟨hb.1, nofun, hb.2.2⟩

/-- The END of a SETPOINT within its rating, in whatever state it comes. -/
theorem Bridge.setpointEnd_within (due : Instant) {sp : Setpoint} (hsp : sp.within cfg) :
    (b.setpointEnd due sp).withinRatings cfg := by
  have hsent : ({ b.logSlot (SlotLog.ended sp) with lastSent := .setpoint sp } : Bridge).withinRatings cfg :=
    ⟨hb.1, hb.2.1, hb.2.2.1, hb.2.2.2.1, fun sp' h => by cases h; exact hsp⟩
  unfold Bridge.setpointEnd
  dsimp only
  split
  next => unfold Bridge.setpointEndOff; split <;> exact hsent
  next => unfold Bridge.setpointEndTripped; split <;> exact hsent
  next => exact hsent
  all_goals split <;> exact hsent

theorem Bridge.offEnd_within : b.offEnd.withinRatings cfg := by
  have hsent : ({ b with lastSent := .off } : Bridge).withinRatings cfg := ⟨hb.1, hb.2.1, hb.2.2.1, hb.2.2.2.1, nofun⟩
  unfold Bridge.offEnd
  dsimp only
  split
  next => exact Bridge.placeSetpoint_within hsent (Setpoint.atRest_within cfg)
  next => exact hsent

theorem Bridge.enterTripped_within : b.enterTripped.withinRatings cfg := by
  unfold Bridge.enterTripped
  split
  next => exact hb
  next => exact Bridge.dropHeld_within (Bridge.placeSetpoint_within hb (Setpoint.atRest_within cfg))

theorem Bridge.escalate_within : b.escalate.withinRatings cfg := Bridge.dropHeld_within (Bridge.placeOff_within hb)

theorem Bridge.completeChange_within : b.completeChange.withinRatings cfg := by
  unfold Bridge.completeChange
  dsimp only
  split
  next sp hheld =>
    refine Bridge.driveSetpoint_within ?_ (hb.2.2.1 sp hheld)
    exact Bridge.dropHeld_within hb
  next => exact Bridge.dropHeld_within hb

theorem Bridge.beginLog_within (slot : Nat) : (b.beginLog slot).withinRatings cfg :=
  ⟨hb.1, hb.2.1, hb.2.2.1, nofun, hb.2.2.2.2⟩

theorem Bridge.leaveOff_within : b.leaveOff.withinRatings cfg := by
  unfold Bridge.leaveOff
  split
  next =>
    split
    next => exact hb
    next => exact Bridge.placeSetpoint_within hb (Setpoint.atRest_within cfg)
  next => exact hb

end Within

/-! ### The invariant's parts -/

/-- The link alone: a bridge outside OFF has left it, and no commanded current exceeds its rating. -/
def LinkInv (s : State) : Prop := (s.bridge.state ≠ .off → s.bridge.leaving = .no) ∧ s.bridge.withinRatings s.cfg

/-- The configuration is read in LOADING, before there are values. -/
def UnreadInv (s : State) : Prop :=
  s.station.held = true ∨ s.station.reading = true → s.station.state = .loading ∧ s.station.cfg = none

/-- The bridge is OFF, and nothing has asked it to leave OFF. -/
def State.bridgeIdle (s : State) : Prop := s.bridge.state = .off ∧ s.bridge.leaving = .no

theorem BridgeInv.unread {s : State} (hs : BridgeInv s) : UnreadInv s := hs.1

theorem BridgeInv.link {s : State} (hs : BridgeInv s) : LinkInv s := hs.2.2

theorem BridgeInv.within {s : State} (hs : BridgeInv s) : s.bridge.withinRatings s.cfg := hs.2.2.2

/-- Between two states the configuration stayed, and of the bridge at most the lane, the slot log, the held and the early setpoint moved,
all within the ratings. -/
structure LinkKept (s t : State) : Prop where
  cfg : t.station.cfg = s.station.cfg
  state : t.bridge.state = s.bridge.state
  leaving : t.bridge.leaving = s.bridge.leaving
  within : s.bridge.withinRatings s.cfg → t.bridge.withinRatings s.cfg

theorem LinkKept.of_bridge {s t : State} (hcfg : t.station.cfg = s.station.cfg) (h : t.bridge = s.bridge) : LinkKept s t :=
  ⟨hcfg, by rw [h], by rw [h], by rw [h]; exact id⟩

theorem LinkKept.trans {s t u : State} (h : LinkKept s t) (k : LinkKept t u) : LinkKept s u := by
  have hcfg : t.cfg = s.cfg := by simp [State.cfg, h.cfg]
  exact ⟨k.cfg.trans h.cfg, k.state.trans h.state, k.leaving.trans h.leaving, fun hw => hcfg ▸ k.within (hcfg ▸ h.within hw)⟩

/-- What a taking keeps from a state with the link as it was, it keeps from that state. -/
theorem LinkKept.after {s t u : State} (k : LinkKept t u) (hcfg : t.station.cfg = s.station.cfg) (h : t.bridge = s.bridge) :
    LinkKept s u :=
  (LinkKept.of_bridge hcfg h).trans k

theorem LinkKept.then {s t u : State} (k : LinkKept s t) (hcfg : u.station.cfg = t.station.cfg) (h : u.bridge = t.bridge) :
    LinkKept s u :=
  k.trans (.of_bridge hcfg h)

theorem LinkInv.of_kept {s t : State} (h : LinkKept s t) (hs : LinkInv s) : LinkInv t := by
  have hcfg : t.cfg = s.cfg := by simp [State.cfg, h.cfg]
  refine ⟨?_, ?_⟩
  · rw [h.state, h.leaving]; exact hs.1
  · rw [hcfg]; exact h.within hs.2

theorem State.bridgeIdle.of_kept {s t : State} (h : LinkKept s t) (hs : s.bridgeIdle) : t.bridgeIdle :=
  ⟨h.state.trans hs.1, h.leaving.trans hs.2⟩

/-- Between two states the station kept its standing. -/
structure StandingKept (s t : State) : Prop where
  state : t.station.state = s.station.state
  held : t.station.held = s.station.held
  reading : t.station.reading = s.station.reading

theorem StandingKept.of_eq {s t : State} (h : t.station = s.station) : StandingKept s t := ⟨by rw [h], by rw [h], by rw [h]⟩

theorem BridgeInv.of_standing {s t : State} (hs : BridgeInv s) (hstanding : StandingKept s t) (hlink : LinkKept s t) :
    BridgeInv t := by
  refine ⟨?_, ?_, LinkInv.of_kept hlink hs.link⟩
  · rw [hstanding.held, hstanding.reading, hstanding.state, hlink.cfg]; exact hs.1
  · rw [hstanding.state]
    exact fun hoff => State.bridgeIdle.of_kept hlink (hs.2.1 hoff)

theorem BridgeInv.of_link {s t : State} (hs : BridgeInv s) (hstation : t.station = s.station) (hlink : LinkKept s t) :
    BridgeInv t :=
  hs.of_standing (.of_eq hstation) hlink

theorem BridgeInv.of_eq {s t : State} (hs : BridgeInv s) (hstation : t.station = s.station) (hbridge : t.bridge = s.bridge) :
    BridgeInv t :=
  hs.of_link hstation (.of_bridge (by rw [hstation]) hbridge)

/-- The link's record may be replaced by one that is as far and within the ratings. -/
theorem BridgeInv.setBridge {s : State} (hs : BridgeInv s) {b : Bridge} (hstate : b.state = s.bridge.state)
    (hleaving : b.leaving = s.bridge.leaving) (hwithin : b.withinRatings s.cfg) : BridgeInv (s.setBridge b) :=
  hs.of_link rfl ⟨rfl, hstate, hleaving, fun _ => hwithin⟩

/-- The lane with its messages, the setpoints that wait and how far leaving OFF has come: an update of anything else. -/
def MovesOutsideLane (f : Bridge → Bridge) : Prop :=
  ∀ b, (f b).state = b.state ∧ (f b).leaving = b.leaving ∧ ∀ cfg, b.withinRatings cfg → (f b).withinRatings cfg

theorem BridgeInv.updateBridge {s : State} (hs : BridgeInv s) {f : Bridge → Bridge} (hf : MovesOutsideLane f) :
    BridgeInv (s.updateBridge f) :=
  have ⟨hstate, hleaving, hwithin⟩ := hf s.bridge
  hs.setBridge hstate hleaving (hwithin _ hs.within)

theorem Bridge.tickWindow_moves : MovesOutsideLane Bridge.tickWindow := fun b => by
  unfold Bridge.tickWindow
  (repeat' split) <;> exact ⟨rfl, rfl, fun _ h => h⟩

theorem Bridge.ackInTripped_moves (a : AckDir) : MovesOutsideLane (Bridge.ackInTripped a) := fun b => by
  unfold Bridge.ackInTripped
  split <;> exact ⟨rfl, rfl, fun _ h => h⟩

theorem Bridge.room_moves : MovesOutsideLane Bridge.room := fun b => by
  unfold Bridge.room
  dsimp only
  (repeat' split) <;> exact ⟨rfl, rfl, fun _ h => h⟩

theorem Bridge.confirmRunOut_moves (t : Instant) : MovesOutsideLane (Bridge.confirmRunOut t) := fun b => by
  unfold Bridge.confirmRunOut
  (repeat' split) <;> exact ⟨rfl, rfl, fun _ h => h⟩

theorem Bridge.send_moves (b : Bridge) : b.send.state = b.state ∧ b.send.leaving = b.leaving := by
  unfold Bridge.send
  (repeat' split) <;> exact ⟨rfl, rfl⟩

/-- A bridge outside OFF may take any state: its station is not in a state that keeps it OFF. -/
theorem BridgeInv.setOutside {s : State} (hs : BridgeInv s) (hout : s.bridge.state ≠ .off) {b : Bridge}
    (hleaving : b.leaving = s.bridge.leaving) (hwithin : b.withinRatings s.cfg) : BridgeInv (s.setBridge b) :=
  ⟨hs.unread, fun hoff => absurd (hs.2.1 hoff).1 hout, fun _ => hleaving.trans (hs.link.1 hout), hwithin⟩

/-! ### Setpoints that the engine hands (R94, R99, R100, R106) -/

theorem State.handSlotSetpoint_linkKept (sp : Setpoint) (s : State) : LinkKept s (s.handSlotSetpoint sp) := by
  refine ⟨by simp, by simp, by simp, fun hw => ?_⟩
  have hsp := Setpoint.lowered_within s.cfg sp
  unfold State.handSlotSetpoint
  dsimp only
  split
  next => exact hw
  next => exact Bridge.recordAccepted_within (Bridge.takeSetpoint_within hw hsp) _ _ hsp

theorem State.handSetpointNow_linkKept (sp : Setpoint) (s : State) : LinkKept s (s.handSetpointNow sp) :=
  ⟨by simp, by simp, by simp, fun hw => Bridge.takeSetpoint_within hw (Setpoint.lowered_within s.cfg sp)⟩

theorem State.engineSlot_linkKept (s : State) : LinkKept s s.engineSlot := by
  unfold State.engineSlot
  dsimp only
  generalize s.slotRecordFor s.engine.governing s.boundary.begun = r
  generalize (if s.engine.governing.segments.isEmpty = true then 0 else s.engine.governing.position s.boundary.begun) = pos
  split
  next =>
    have hrecord (u : State) : LinkKept u (u.takeSlotRecord r) := .of_bridge (by simp) (by simp)
    refine LinkKept.trans ?_ (hrecord _)
    exact (State.handSlotSetpoint_linkKept _ _).after rfl rfl
  next => exact .of_bridge (by simp) (by simp)

theorem State.rehand_linkKept (s : State) : LinkKept s s.rehand := by
  unfold State.rehand
  dsimp only
  split
  next => exact .of_bridge rfl rfl
  next => exact (State.handSetpointNow_linkKept _ _).after rfl rfl

theorem State.stopReverse_linkKept (s : State) : LinkKept s s.stopReverse := by
  unfold State.stopReverse
  split
  next => exact (State.handSetpointNow_linkKept _ _).after rfl rfl
  next => exact .of_bridge rfl rfl

theorem State.commitNotice_linkKept (s : State) : LinkKept s s.commitNotice := by
  unfold State.commitNotice
  dsimp only
  split
  next =>
    split
    next => exact .of_bridge (by simp) (by simp)
    next => exact (State.rehand_linkKept _).after (by simp) (by simp)
  next => exact (State.rehand_linkKept _).after (by simp) (by simp)

theorem State.withdrawNotice_linkKept (s : State) : LinkKept s s.withdrawNotice :=
  s.stopReverse_linkKept.then (by simp [State.withdrawNotice]) (by simp [State.withdrawNotice])

theorem State.withdraw_linkKept (lockout : Bool) (s : State) : LinkKept s (s.withdraw lockout) :=
  (State.withdrawNotice_linkKept _).after (by simp) (by simp)

theorem State.mapSlip_linkKept (s : State) : LinkKept s s.mapSlip :=
  LinkKept.then (t := (s.setMap s.map.forgetPeers).withdraw false) ((State.withdraw_linkKept _ _).after rfl rfl) rfl rfl

theorem State.slip_linkKept (q : Nat) (s : State) : LinkKept s (s.slip q) := by
  exact ((State.mapSlip_linkKept ((s.renumber q).raise .slip .shift)).after (by simp) (by simp)).then (by simp [State.slip])
    (by simp [State.slip])

theorem State.expireUnneeded_linkKept (s : State) : LinkKept s s.expireUnneeded := by
  unfold State.expireUnneeded
  dsimp only
  split
  next => exact (State.withdrawNotice_linkKept _).after rfl rfl
  next => exact .of_bridge rfl rfl

theorem State.tellEngine_linkKept (n : MapNotices) (s : State) : LinkKept s (s.tellEngine n) := by
  have hcommit : LinkKept s (if n.committed then s.commitNotice else s) := by
    split
    next => exact s.commitNotice_linkKept
    next => exact .of_bridge rfl rfl
  unfold State.tellEngine
  dsimp only
  split
  next => exact hcommit.then (by simp) (by simp)
  next => exact hcommit

theorem State.mapFrame_linkKept (s : State) : LinkKept s s.mapFrame := by
  have hexpired := State.expireUnneeded_linkKept (s.setMap s.map.agePeers)
  have hplanned : LinkKept (s.setMap s.map.agePeers).expireUnneeded
      ((s.setMap s.map.agePeers).expireUnneeded.closeWindow.1.countAndPlan
        ((s.setMap s.map.agePeers).expireUnneeded.map.windowClosed
          && (s.setMap s.map.agePeers).expireUnneeded.map.pending.isSome)).1 :=
    .of_bridge (by simp) (by simp)
  have hstepped := LinkKept.trans (hexpired.after (s := s) rfl rfl) hplanned
  unfold State.mapFrame
  generalize (s.setMap s.map.agePeers).expireUnneeded = e at hstepped ⊢
  dsimp only
  generalize e.closeWindow.1.countAndPlan (e.map.windowClosed && e.map.pending.isSome) = p at hstepped ⊢
  have hflush (u : State) : LinkKept u u.flushClaim := .of_bridge (by simp) (by simp)
  refine LinkKept.trans (hstepped.trans ?_) (hflush _)
  exact (State.tellEngine_linkKept _ _).after rfl rfl

theorem State.mapBoundary_linkKept (s : State) : LinkKept s s.mapBoundary := by
  unfold State.mapBoundary
  dsimp only
  split
  next =>
    split
    next => exact (State.mapFrame_linkKept _).after rfl rfl
    next => exact .of_bridge (by simp) (by simp)
  next => exact .of_bridge rfl rfl

theorem State.applyClaim_linkKept (p : Peer) (s : State) : LinkKept s (s.applyClaim p) := by
  have hconflict (u : State) : LinkKept u (u.testConflict p) := by
    unfold State.testConflict
    split
    next =>
      split
      next => exact (State.withdrawNotice_linkKept _).after rfl rfl
      next => exact .of_bridge rfl rfl
    next => exact .of_bridge rfl rfl
  unfold State.applyClaim
  dsimp only
  split
  next =>
    exact .then (t := (s.setMap (s.map.applyFrame p).1).testConflict p) ((hconflict _).after rfl rfl) (by simp) (by simp)
  next => exact .of_bridge rfl rfl

/-! ### Changes of station state -/

/-- A part past LOADING may take a state that does not keep the bridge OFF. -/
theorem LinkInv.setStanding {st : StationState} (join : Option Nat) {s : State} (hs : LinkInv s) (hunread : UnreadInv s)
    (hloaded : s.station.state ≠ .loading) (hst : st.bridgeOff = false) : BridgeInv (s.setStanding st join) :=
  ⟨fun h => absurd (hunread h).1 hloaded, fun hoff => absurd (hst.symm.trans hoff) Bool.false_ne_true, hs⟩

theorem State.isolateBlocks_bridgeInv {s : State} (hs : BridgeInv s) (hloaded : s.station.state ≠ .loading) :
    BridgeInv s.isolateBlocks := by
  have hentered : BridgeInv (s.setStanding .isolated none) := hs.link.setStanding none hs.unread hloaded rfl
  have hlive : BridgeInv (s.setStanding .isolated none).enliven := hentered.of_eq rfl rfl
  have hwithdrawn : BridgeInv (((s.setStanding .isolated none).enliven).withdraw false) :=
    hlive.of_link (by simp) (State.withdraw_linkKept false _)
  exact hwithdrawn.of_eq (by simp [State.isolateBlocks]) (by simp [State.isolateBlocks])

theorem State.enterIsolated_bridgeInv {s : State} (hs : BridgeInv s) (hloaded : s.station.state ≠ .loading) :
    BridgeInv s.enterIsolated :=
  (State.isolateBlocks_bridgeInv hs hloaded).of_eq (by simp [State.enterIsolated]) (by simp [State.enterIsolated])

theorem State.failSelfTest_bridgeInv {s : State} (hs : BridgeInv s) (hloaded : s.station.state ≠ .loading) :
    BridgeInv s.failSelfTest :=
  (State.isolateBlocks_bridgeInv hs hloaded).of_eq (by simp [State.failSelfTest]) (by simp [State.failSelfTest])

theorem State.askIsolated_bridgeInv {s : State} (hs : BridgeInv s) : BridgeInv s.askIsolated := by
  unfold State.askIsolated
  split
  next hbus => exact State.enterIsolated_bridgeInv hs fun h => by simp [h, StationState.onBus] at hbus
  next => exact hs

theorem State.clash_bridgeInv (kind : Kind) (df : Bool) {s : State} (hs : BridgeInv s) : BridgeInv (s.clash kind df) := by
  unfold State.clash
  split
  next => exact State.askIsolated_bridgeInv (hs.of_eq (by simp) (by simp))
  next => exact (State.askIsolated_bridgeInv hs).of_eq (by simp) (by simp)

/-- LOCKOUT is entered with the bridge OFF and not asked to leave it. -/
theorem State.enterLockout_bridgeInv (df : Bool) {s : State} (hs : BridgeInv s) (hloaded : s.station.state ≠ .loading)
    (hidle : s.bridgeIdle) : BridgeInv (s.enterLockout df) := by
  have htold : BridgeInv (s.tellLockout df) := by
    have hbridge : (s.tellLockout df).bridge = s.bridge := by simp
    refine ⟨fun h => absurd (hs.unread (by simpa using h)).1 hloaded, fun _ => ?_, ?_⟩
    · exact State.bridgeIdle.of_kept (.of_bridge (by simp) hbridge) hidle
    · exact LinkInv.of_kept (.of_bridge (by simp) hbridge) hs.link
  have hwithdrawn : BridgeInv ((s.tellLockout df).withdraw true) := htold.of_link (by simp) (State.withdraw_linkKept true _)
  have hleft : BridgeInv
      (if (s.station.state == .joined) = true then ((s.tellLockout df).withdraw true).busLeaveJoined
        else (s.tellLockout df).withdraw true) := by
    split
    next => exact hwithdrawn.of_eq (by simp) (by simp)
    next => exact hwithdrawn
  exact hleft.of_eq (by simp [State.enterLockout]) (by simp [State.enterLockout])

theorem State.askLockout_bridgeInv (df : Bool) {s : State} (hs : BridgeInv s) (hidle : s.bridgeIdle) :
    BridgeInv (s.askLockout df) := by
  unfold State.askLockout
  split
  next h => exact State.enterLockout_bridgeInv df hs (by simp [h]) hidle
  next h => exact State.enterLockout_bridgeInv df hs (by simp [h]) hidle
  next => exact hs.of_eq (by simp) (by simp)
  all_goals exact hs

theorem State.dropClaims_linkKept (s : State) : LinkKept s s.dropClaims := by
  unfold State.dropClaims
  split
  next => exact .of_bridge (by simp) (by simp)
  next => exact (State.withdrawNotice_linkKept _).after (by simp) (by simp)

theorem State.loseJoined_bridgeInv {s : State} (hs : BridgeInv s) (hjoined : s.station.state = .joined) : BridgeInv s.loseJoined := by
  have hentered : BridgeInv (s.setStanding .listening none) :=
    hs.link.setStanding none hs.unread (by simp [hjoined]) rfl
  have htold : BridgeInv (((s.setStanding .listening none).clearAligned).tellMonitor .listening) :=
    hentered.of_eq (by simp) (by simp)
  exact (htold.of_link (by simp) (State.dropClaims_linkKept _)).of_eq (by simp [State.loseJoined]) (by simp [State.loseJoined])

theorem State.refLost_bridgeInv {s : State} (hs : BridgeInv s) : BridgeInv s.refLost := by
  have hlost : BridgeInv s.lockLost := hs.of_standing ⟨by simp, by simp, by simp⟩ (.of_bridge (by simp) (by simp))
  unfold State.refLost
  dsimp only
  split
  next h => exact State.loseJoined_bridgeInv hlost h
  next => exact hlost

theorem State.enterJoined_bridgeInv {s : State} (hs : LinkInv s) (hunread : UnreadInv s) (hloaded : s.station.state ≠ .loading) :
    BridgeInv s.enterJoined :=
  (LinkInv.setStanding (st := .joined) none hs hunread hloaded rfl).of_eq (by simp [State.enterJoined]) (by simp [State.enterJoined])

theorem State.releaseToListening_bridgeInv {s : State} (hs : LinkInv s) (hunread : UnreadInv s)
    (hloaded : s.station.state ≠ .loading) : BridgeInv s.releaseToListening :=
  (LinkInv.setStanding (st := .listening) s.station.freshJoin hs hunread hloaded rfl).of_eq (by simp [State.releaseToListening])
    (by simp [State.releaseToListening])

@[simp] theorem Bridge.leaveOff_state (b : Bridge) : b.leaveOff.state = b.state := by
  unfold Bridge.leaveOff
  (repeat' split) <;> simp

/-- The bridge asked to leave OFF is as far as the link allows: one outside OFF is left alone (R121). -/
theorem LinkInv.leaveOff {s : State} (hs : LinkInv s) : LinkInv (s.setBridge s.bridge.leaveOff) := by
  refine ⟨fun hout => ?_, Bridge.leaveOff_within hs.2⟩
  have hbefore : s.bridge.state ≠ .off := by simpa using hout
  have hsame : s.bridge.leaveOff = s.bridge := by simp [Bridge.leaveOff, hbefore]
  show s.bridge.leaveOff.leaving = .no
  rw [hsame]
  exact hs.1 hbefore

theorem State.passSelfTest_bridgeInv {s : State} (hs : BridgeInv s) (hstate : s.station.state = .selfTest) :
    BridgeInv s.passSelfTest := by
  have hlink : LinkInv (s.setBridge s.bridge.leaveOff) := hs.link.leaveOff
  have hentered : BridgeInv ((s.setBridge s.bridge.leaveOff).setStanding .listening s.station.freshJoin) :=
    hlink.setStanding _ hs.unread (by simp [hstate]) rfl
  exact hentered.of_eq (by simp [State.passSelfTest, State.setStanding]) (by simp [State.passSelfTest])

theorem State.takeReleaseFrame_bridgeInv {s : State} (hs : BridgeInv s) : BridgeInv s.takeReleaseFrame := by
  unfold State.takeReleaseFrame
  split
  next hstate =>
    have hreleased : LinkInv (s.setBridge s.bridge.release) :=
      LinkInv.leaveOff (s := s.setBridge { s.bridge with tripCount := 0, tripWindow := 0 }) hs.link
    have hlink : LinkInv ((s.setBridge s.bridge.release).clearCond .lockout .release) :=
      hreleased.of_kept (.of_bridge (by simp) (by simp))
    have hstation : ((s.setBridge s.bridge.release).clearCond .lockout .release).station = s.station := by simp
    have hunread : UnreadInv ((s.setBridge s.bridge.release).clearCond .lockout .release) := by
      unfold UnreadInv; rw [hstation]; exact hs.unread
    have hloaded : ((s.setBridge s.bridge.release).clearCond .lockout .release).station.state ≠ .loading := by
      rw [hstation, hstate]; simp
    unfold State.release
    dsimp only
    split
    next => exact State.enterJoined_bridgeInv hlink hunread hloaded
    next => exact State.releaseToListening_bridgeInv hlink hunread hloaded
  next => exact hs

theorem State.stationFrame_bridgeInv {s : State} (hs : BridgeInv s) : BridgeInv s.stationFrame := by
  unfold State.stationFrame
  split
  next hstate =>
    have hcounted : BridgeInv (s.setStation { s.station with selfFrames := s.station.selfFrames + 1 }) :=
      hs.of_standing ⟨rfl, rfl, rfl⟩ (.of_bridge rfl rfl)
    unfold State.selfTestFrame
    dsimp only
    split
    next =>
      split
      next => exact State.passSelfTest_bridgeInv hcounted hstate
      next => exact State.failSelfTest_bridgeInv hcounted (by simp [hstate])
    next => exact hcounted
  next hstate =>
    unfold State.joinFrame
    split
    next =>
      split
      next => exact State.enterJoined_bridgeInv hs.link hs.unread (by simp [hstate])
      next => exact hs.of_standing ⟨rfl, rfl, rfl⟩ (.of_bridge rfl rfl)
    next => exact hs
  all_goals exact hs

/-! ### Reset and configuration (R164 to R167) -/

/-- The values read meet a lane whose currents are all 0, since there were none before. -/
theorem Bridge.within_of_unset (cfg : Cfg) {b : Bridge} (h : b.withinRatings Cfg.unset) : b.withinRatings cfg := by
  obtain ⟨hbuffer, hsending, hheld, hearly, hlast⟩ := h
  have hany {sp : Setpoint} (hsp : sp.within Cfg.unset) : sp.within cfg := Setpoint.within_of_unset cfg hsp
  exact ⟨fun sp hm => hany (hbuffer sp hm), fun sp hm => hany (hsending sp hm), fun sp hm => hany (hheld sp hm),
    fun a hm => hany (hearly a hm), fun sp hm => hany (hlast sp hm)⟩

theorem State.takeImage_bridgeInv (image : List Byte) {s : State} (hs : BridgeInv s) (hrun : s.running) :
    BridgeInv (s.takeImage image) := by
  have hheld : s.station.held = false := hrun
  unfold State.takeImage
  split
  next hreading =>
    obtain ⟨hloading, hnone⟩ := hs.unread (.inr hreading.1)
    have hidle : s.bridgeIdle := hs.2.1 (by rw [hloading]; rfl)
    have hunset : s.bridge.withinRatings Cfg.unset := by simpa [State.cfg, hnone] using hs.within
    split
    next c _ =>
      have hbridge : (s.startSelfTest c).bridge = s.bridge := by simp [State.startSelfTest, State.submitTest]
      refine ⟨?_, fun _ => ?_, fun hout => ?_, ?_⟩
      · simp [State.startSelfTest, State.submitTest, hheld]
      · rw [hbridge]; exact hidle
      · rw [hbridge]; exact hidle.2
      · rw [hbridge]; exact Bridge.within_of_unset _ hunset
    next =>
      have hbridge : s.configFault.bridge = s.bridge := by simp [State.configFault]
      refine ⟨?_, fun _ => ?_, fun hout => ?_, ?_⟩
      · simp [State.configFault, hheld]
      · rw [hbridge]; exact hidle
      · rw [hbridge]; exact hidle.2
      · rw [hbridge]; exact Bridge.within_of_unset _ hunset
  next => exact hs

theorem State.releaseReset_bridgeInv {s : State} (hs : BridgeInv s) : BridgeInv s.releaseReset := by
  unfold State.releaseReset
  split
  next hheld => exact ⟨fun _ => hs.unread (.inl hheld), hs.2⟩
  next => exact hs

theorem Bridge.reset_within (cfg : Cfg) : Bridge.reset.withinRatings cfg := by
  simp [Bridge.withinRatings, Bridge.reset]

theorem State.hardReset_bridgeInv (s : State) : BridgeInv s.hardReset :=
  ⟨fun _ => ⟨rfl, rfl⟩, fun _ => ⟨rfl, rfl⟩, fun _ => rfl, Bridge.reset_within _⟩

/-! ### Trips and lane messages -/

theorem Bridge.enterTripped_leaving (b : Bridge) : b.enterTripped.countTrip.leaving = b.leaving := by
  unfold Bridge.enterTripped
  split <;> simp [Bridge.countTrip, Bridge.logSlot]

theorem Bridge.enterTripped_state (b : Bridge) : b.enterTripped.countTrip.state = .tripped := by
  unfold Bridge.enterTripped
  split
  next h => exact h
  next => rfl

theorem Bridge.escalate_leaving (b : Bridge) : b.escalate.leaving = b.leaving := by
  simp [Bridge.escalate, Bridge.logSlot]

/-- The escalation takes the bridge to OFF, which had left OFF before, and only then asks for LOCKOUT (R119). -/
theorem State.escalate_bridgeInv (df : Bool) {s : State} (hs : BridgeInv s) (hout : s.bridge.state ≠ .off) :
    BridgeInv (s.escalate df) := by
  have hflagged : BridgeInv (s.flagAll .unplated) := hs.of_eq (by simp) (by simp)
  have hsame : (s.flagAll .unplated).bridge = s.bridge := by simp
  have hidle : ((s.flagAll .unplated).updateBridge Bridge.escalate).bridgeIdle :=
    ⟨rfl, (Bridge.escalate_leaving _).trans (by rw [hsame]; exact hs.link.1 hout)⟩
  refine State.askLockout_bridgeInv df ?_ hidle
  exact ⟨hflagged.unread, fun _ => hidle, fun _ => hidle.2, Bridge.escalate_within hflagged.within⟩

theorem State.trip_bridgeInv (cause : Cause) (df : Bool) {s : State} (hs : BridgeInv s) : BridgeInv (s.trip cause df) := by
  unfold State.trip
  dsimp only
  split
  next => exact hs
  next hout =>
    have htripped : BridgeInv (s.updateBridge fun b => b.enterTripped.countTrip) :=
      hs.setOutside hout (Bridge.enterTripped_leaving _) (Bridge.enterTripped_within hs.within)
    have hraised :
        BridgeInv ((((s.updateBridge fun b => b.enterTripped.countTrip).raise .trip cause).flagAll .tripped).engineTrip) :=
      htripped.of_eq (by simp) (by simp)
    have hstate : ((((s.updateBridge fun b => b.enterTripped.countTrip).raise .trip cause).flagAll
        .tripped).engineTrip).bridge.state = .tripped := by
      simp [State.updateBridge, Bridge.enterTripped_state]
    split
    next => exact State.escalate_bridgeInv df hraised (by rw [hstate]; simp)
    next => exact hraised

theorem State.miss_bridgeInv (df : Bool) {s : State} (hs : BridgeInv s) : BridgeInv (s.miss df) := by
  unfold State.miss
  split
  next => exact hs
  next =>
    split
    next => exact State.trip_bridgeInv .silent df (hs.setBridge rfl rfl hs.within)
    next => exact hs.setBridge rfl rfl hs.within

theorem State.missReading_bridgeInv (log : SlotLog) (df : Bool) {s : State} (hs : BridgeInv s) : BridgeInv (s.missReading log df) :=
  State.miss_bridgeInv df (hs.of_eq (by simp) (by simp))

theorem State.deadline_bridgeInv (df : Bool) {s : State} (hs : BridgeInv s) : BridgeInv (s.deadline df) := by
  unfold State.deadline
  split
  next => exact State.trip_bridgeInv _ df hs
  next => exact hs

theorem State.endSlotLog_bridgeInv (log : Option SlotLog) (df : Bool) {s : State} (hs : BridgeInv s) :
    BridgeInv (s.endSlotLog log df) := by
  have hmarked (l : SlotLog) : BridgeInv (s.updateBridge (Bridge.placeMark l)) :=
    hs.setBridge rfl rfl (Bridge.placeMark_within hs.within l)
  unfold State.endSlotLog
  dsimp only
  split
  next =>
    split
    next => exact hs.of_eq (by simp) (by simp)
    next =>
      unfold State.markSlot
      split
      next => exact State.missReading_bridgeInv _ df (hmarked _)
      next => exact hmarked _
  next => exact hs.of_eq (by simp) (by simp)

/-- The end of a trip rest takes the bridge from TRIPPED to REST (R117). -/
theorem State.tickRest_bridgeInv {s : State} (hs : BridgeInv s) : BridgeInv s.tickRest := by
  unfold State.tickRest
  split
  next htripped =>
    split
    next =>
      have hrest : BridgeInv (s.updateBridge fun b => { b with state := .rest, restCount := 64 }) :=
        hs.setOutside (by simp [htripped]) rfl hs.within
      exact hrest.of_eq (by simp) (by simp)
    next => exact hs.setBridge rfl rfl hs.within
  next => exact hs

theorem State.bridgeSlot_bridgeInv {s : State} (hs : BridgeInv s) : BridgeInv s.bridgeSlot := by
  have hdeadline := State.deadline_bridgeInv s.boundary.df (State.tickRest_bridgeInv hs)
  exact State.endSlotLog_bridgeInv _ _ (hdeadline.setBridge rfl rfl (Bridge.beginLog_within hdeadline.within _))

theorem State.bridgeFrame_bridgeInv {s : State} (hs : BridgeInv s) : BridgeInv s.bridgeFrame := by
  have hticked : BridgeInv (s.updateBridge Bridge.tickWindow) := hs.updateBridge Bridge.tickWindow_moves
  have hjudged : BridgeInv ((s.updateBridge Bridge.tickWindow).verdict .bridgeSlow s.bridge.slowSeen .frames) :=
    hticked.of_eq (by simp) (by simp)
  exact hjudged.setBridge rfl rfl hjudged.within

theorem State.sentMark_bridgeInv (t : Instant) (df : Bool) {s : State} (hs : BridgeInv s) : BridgeInv (s.sentMark t df) := by
  unfold State.sentMark
  split
  next =>
    have hfreed : BridgeInv (s.updateBridge (Bridge.endMessage t)) :=
      hs.setBridge rfl rfl (Bridge.endMessage_within hs.within t)
    have hended : BridgeInv ((s.updateBridge (Bridge.endMessage t)).endExpectation df) := by
      unfold State.endExpectation
      dsimp only
      split
      next =>
        split
        next => exact State.missReading_bridgeInv _ df (hfreed.setBridge rfl rfl hfreed.within)
        next => exact hfreed.setBridge rfl rfl hfreed.within
      next => exact hfreed
    exact hended.setBridge rfl rfl hended.within
  all_goals exact hs

/-- The END of a SETPOINT: the change it starts leaves a state outside OFF, or OFF where leaving it was asked (R110, R121). -/
theorem State.sentSetpoint_bridgeInv (t : Instant) {s : State} (hs : BridgeInv s) : BridgeInv (s.sentSetpoint t) := by
  unfold State.sentSetpoint
  split
  next sp hsending =>
    have hwithin : ((s.bridge.endMessage t).setpointEnd (t + s.confirmTime) sp).withinRatings s.cfg :=
      Bridge.setpointEnd_within (Bridge.endMessage_within hs.within t) _ (hs.within.2.1 sp hsending)
    by_cases hout : s.bridge.state = .off
    · have heq : (s.bridge.endMessage t).setpointEnd (t + s.confirmTime) sp
          = Bridge.setpointEndOff (t + s.confirmTime) sp
            { (s.bridge.endMessage t).logSlot (SlotLog.ended sp) with lastSent := .setpoint sp } := by
        simp [Bridge.setpointEnd, Bridge.logSlot, Bridge.endMessage, hout]
      by_cases hleave : s.bridge.leaving = .placed ∧ sp.dir = .rest
      · have hasked : ¬s.bridgeIdle := fun h => by rw [h.2] at hleave; cases hleave.1
        have hno : ((s.bridge.endMessage t).setpointEnd (t + s.confirmTime) sp).leaving = .no := by
          rw [heq]
          simp [Bridge.setpointEndOff, Bridge.logSlot, Bridge.endMessage, hleave]
        exact ⟨hs.unread, fun hoff => absurd (hs.2.1 hoff) hasked, fun _ => hno, hwithin⟩
      · have hstays : ((s.bridge.endMessage t).setpointEnd (t + s.confirmTime) sp)
            = { (s.bridge.endMessage t).logSlot (SlotLog.ended sp) with lastSent := .setpoint sp } := by
          rw [heq]
          simp [Bridge.setpointEndOff, Bridge.logSlot, Bridge.endMessage, hleave]
        exact hs.setBridge ((congrArg Bridge.state hstays).trans rfl) ((congrArg Bridge.leaving hstays).trans rfl) hwithin
    · refine hs.setOutside hout ?_ hwithin
      unfold Bridge.setpointEnd
      dsimp only
      split
      next h => exact absurd h hout
      next => unfold Bridge.setpointEndTripped; split <;> rfl
      next => rfl
      all_goals split <;> rfl
  all_goals exact hs

theorem State.sentOff_bridgeInv (t : Instant) {s : State} (hs : BridgeInv s) : BridgeInv (s.sentOff t) := by
  unfold State.sentOff
  split
  next =>
    have hwithin := Bridge.offEnd_within (Bridge.endMessage_within hs.within t)
    by_cases hleave : s.bridge.leaving = .afterOff
    · have hasked : ¬s.bridgeIdle := fun h => by rw [h.2] at hleave; cases hleave
      have hoff : s.bridge.state = .off := by
        refine Classical.byContradiction fun hout => ?_
        rw [hs.link.1 hout] at hleave
        cases hleave
      refine ⟨hs.unread, fun h => absurd (hs.2.1 h) hasked, fun hout => absurd ?_ hout, hwithin⟩
      simpa [State.updateBridge, Bridge.offEnd, Bridge.endMessage, hleave] using hoff
    · refine hs.setBridge ?_ ?_ hwithin
      · simp [Bridge.offEnd, Bridge.endMessage, hleave]
      · simp [Bridge.offEnd, Bridge.endMessage, hleave]
  all_goals exact hs

theorem State.takeRunOut_bridgeInv (t : Instant) (df : Bool) {s : State} (hs : BridgeInv s) : BridgeInv (s.takeRunOut t df) := by
  unfold State.takeRunOut
  split
  next =>
    split
    next => exact State.miss_bridgeInv df (hs.setBridge rfl rfl hs.within)
    next => exact hs
  next => exact hs

theorem State.readingRunOut_bridgeInv (t : Instant) (df : Bool) {s : State} (hs : BridgeInv s) :
    BridgeInv (s.readingRunOut t df) := by
  have hreported (log : SlotLog) : BridgeInv (s.reportNoReading log) := by
    have hhanded : BridgeInv (s.handReport (log.report none)) := hs.of_eq (by simp) (by simp)
    exact hhanded.setBridge rfl rfl hhanded.within
  unfold State.readingRunOut
  split
  next =>
    split
    next =>
      split
      next => exact State.miss_bridgeInv df (hreported _)
      next => exact hs
    next => exact hs
  next => exact hs

theorem Bridge.completeChange_leaving (b : Bridge) : b.completeChange.leaving = b.leaving := by
  unfold Bridge.completeChange Bridge.driveSetpoint
  dsimp only
  split
  next => split <;> simp
  next => rfl

theorem State.takeAck_bridgeInv (a : AckDir) (df : Bool) {s : State} (hs : BridgeInv s) : BridgeInv (s.takeAck a df) := by
  have hacked : BridgeInv (s.updateBridge fun b => { b with acked := a }) := hs.setBridge rfl rfl hs.within
  have hjudged (p : Prop) [Decidable p] : BridgeInv
      (if p then s.updateBridge fun b => { b with acked := a }
        else (s.updateBridge fun b => { b with acked := a }).trip .wrongDirection df) := by
    split
    next => exact hacked
    next => exact State.trip_bridgeInv _ df hacked
  unfold State.takeAck
  split
  next =>
    split
    next => exact hs.setBridge rfl rfl hs.within
    next => exact hs
  next => exact hs.updateBridge (Bridge.ackInTripped_moves a)
  next hchanging =>
    dsimp only
    split
    next =>
      have hout : (s.updateBridge fun b => { b with acked := a }).bridge.state ≠ .off := by
        show s.bridge.state ≠ .off
        simp [hchanging]
      exact hacked.setOutside hout (Bridge.completeChange_leaving _) (Bridge.completeChange_within hacked.within)
    next => exact State.trip_bridgeInv _ df hacked
  all_goals exact hjudged _

theorem State.takeReading_bridgeInv (m : Measured) (slotMod4 : Nat) (df : Bool) {s : State} (hs : BridgeInv s) :
    BridgeInv (s.takeReading m slotMod4 df) := by
  have hjudge (u : State) (log : SlotLog) (hu : BridgeInv u) : BridgeInv (u.judgeReading log m.current df) := by
    unfold State.judgeReading
    split
    next => exact State.trip_bridgeInv _ df hu
    next =>
      split
      next => exact State.trip_bridgeInv _ df hu
      next => exact hu
  unfold State.takeReading
  split
  next => exact hs
  next =>
    split
    next =>
      split
      next =>
        refine hjudge _ _ ?_
        split
        next =>
          exact (hs.setBridge (b := { s.bridge with expect := none, missCount := 0 }) rfl rfl hs.within).of_eq (by simp [State.updateBridge])
            (by simp [State.updateBridge])
        next =>
          exact (hs.setBridge (b := { s.bridge with expect := none }) rfl rfl hs.within).of_eq (by simp [State.updateBridge])
            (by simp [State.updateBridge])
      next => exact hs
    next => exact hs

/-! ### Every command -/

theorem runTask_bridgeInv (t : Task) {s : State} (hs : BridgeInv s) : BridgeInv (runTask t s) := by
  cases t
  case lockGainedStation | lockLost =>
    exact hs.of_standing ⟨by simp [runTask], by simp [runTask], by simp [runTask]⟩ (.of_bridge (by simp [runTask]) (by simp [runTask]))
  case refLostStation => exact State.refLost_bridgeInv hs
  case refLostMap =>
    show BridgeInv s.refLostMap
    unfold State.refLostMap
    split
    next => exact hs.of_link (by simp) (State.withdraw_linkKept false s)
    next => exact hs
  case engineSlot => exact hs.of_link (by simp [runTask]) s.engineSlot_linkKept
  case bridgeSlot => exact State.bridgeSlot_bridgeInv hs
  case bridgeFrame => exact State.bridgeFrame_bridgeInv hs
  case slotMap => exact hs.of_link (by simp [runTask]) s.mapBoundary_linkKept
  case station => exact State.stationFrame_bridgeInv hs
  all_goals exact hs.of_eq (by simp [runTask]) (by simp [runTask])

theorem bridgeInv_keptByTakings : KeptByTakings BridgeInv where
  boundary _ _ hs := hs.of_eq rfl rfl
  taking t _ hs := (runTask_bridgeInv t hs).of_eq (by simp) (by simp)

theorem State.takeClaim_bridgeInv (f : RxFrame) (df : Bool) {s : State} (hs : BridgeInv s) : BridgeInv (s.takeClaim f df) :=
  State.takeClaim_induct f df (State.clash_bridgeInv _ df hs)
    (State.judgeStamp_induct _ _ hs (fun _ _ h => h.of_eq rfl rfl) (hs.of_eq (by simp) (by simp)) (fun _ => hs.of_eq rfl rfl)
      (fun _ h => h.of_eq rfl rfl) (fun u q h => h.of_link (by simp) (u.slip_linkKept q)))
    (fun u q h => h.of_link (by simp) (u.applyClaim_linkKept q))

theorem State.receiveEnd_bridgeInv (df : Bool) {s : State} (hs : BridgeInv s) : BridgeInv (s.receiveEnd df) :=
  State.receiveEnd_induct df hs (hs.of_standing ⟨by simp, by simp, by simp⟩ (.of_bridge (by simp) (by simp))) (hs.of_eq rfl rfl)
    (fun _ _ h => h.of_standing ⟨by simp, by simp, by simp⟩ (.of_bridge (by simp) (by simp)))
    (fun _ _ h => h.of_standing ⟨by simp, by simp, by simp⟩ (.of_bridge (by simp) (by simp)))
    (fun _ h => State.clash_bridgeInv _ df h) (fun _ f h => State.takeClaim_bridgeInv f df h)

theorem State.receiveSymbol_bridgeInv (x : Symbol) (df : Bool) {s : State} (hs : BridgeInv s) : BridgeInv (s.receiveSymbol x df) := by
  unfold State.receiveSymbol
  split
  case h_3 => exact State.receiveEnd_bridgeInv df (hs.of_eq (by simp) (by simp))
  all_goals exact hs.of_standing ⟨by simp, by simp, by simp⟩ (.of_bridge (by simp) (by simp))

theorem exec_keeps_bridgeInv (c : Instr) {s t : State} (hs : BridgeInv s) (h : exec c s = .next t) : BridgeInv t := by
  have hadvance (t : Instant) : BridgeInv (s.advance t) := hs.of_eq rfl rfl
  have htakings := bridgeInv_keptByTakings
  have hclock (s : State) (c : Clock) (hs : BridgeInv s) : BridgeInv (s.setClock c) := hs.of_eq rfl rfl
  have hnow (s : State) (t : Instant) (hs : BridgeInv s) : BridgeInv (s.setNow t) := hs.of_eq rfl rfl
  have hflush {u : State} (hu : BridgeInv u) : BridgeInv u.flushClaim := hu.of_eq (by simp) (by simp)
  cases c
  case blroomRise =>
    rw [exec_blroomRise_eq] at h
    injection h with h
    subst h
    split
    next => exact hs.setBridge rfl rfl hs.within
    next => exact hs.updateBridge Bridge.room_moves
  all_goals
    injection h with h
    subst h
  case hardwareReset => exact State.hardReset_bridgeInv s
  case rstnRelease => exact State.releaseReset_bridgeInv hs
  case configurationReadDone t image =>
    exact State.unlessHeld_induct hs fun hrun => State.takeImage_bridgeInv image (hadvance t) hrun
  case refinEdge t ord df => exact htakings.clockCommand hclock hnow t (fun s => s.refinEdge_endsSlot ord df) hs
  case slotTimerExpiry t ord df => exact htakings.clockCommand hclock hnow t (fun s => s.slotTimer_endsSlot ord df) hs
  case lossLimitExpiry t ord df => exact htakings.clockCommand hclock hnow t (fun s => s.lossLimit_endsSlot ord df) hs
  case holdoverExpiry t ord df => exact htakings.clockCommand hclock hnow t (fun s => s.holdoverExpiry_endsSlot ord df) hs
  case frameEndReceived t df =>
    exact State.unlessHeld_induct hs fun _ => State.ifHeard_induct _ (hadvance t)
      (State.receiveEnd_bridgeInv df (hs.of_eq (by simp) (by simp)))
  case rxFrameAbandoned t x =>
    exact State.unlessHeld_induct hs fun _ => State.ifHeard_induct _ (hadvance t) (State.receiveSymbol_bridgeInv x true (hadvance t))
  case startMarkReceived t | dataSymbolReceived t b =>
    exact State.unlessHeld_induct hs fun _ => State.ifHeard_induct _ (hadvance t)
      (hs.of_standing ⟨by simp, by simp, by simp⟩ (.of_bridge (by simp) (by simp)))
  case receiveTimeout t | collision t =>
    exact State.unlessHeld_induct hs fun _ => hs.of_standing ⟨by simp, by simp, by simp⟩ (.of_bridge (by simp) (by simp))
  case takeRelease =>
    exact State.takeFrame_induct _ _ hs fun _ f rest _ _ =>
      hflush (State.takeReleaseFrame_bridgeInv (hs.of_eq rfl rfl : BridgeInv (s.withRxRest rest)))
  case answerDue | recipeQueryDue | unavailableQueryDue | carrierQueryDue | peerRecordAgeOut | unneededExpiry | windowClose
      | planningHoldExpiry | refreshDue | claimRetry | tripWindowExpiry | joinCountExpiry =>
    exact htakings.ownTaking _ _ hs
  case confirmDeadline df | tripRestEnd df => exact htakings.chosenTaking df _ _ hs
  case selfTestVerdict t => exact htakings.ownTaking _ _ (State.unlessHeld_induct hs fun _ => hadvance t)
  case takeAdmit | takeHandover | takeCarrierQuery | takeRecipe | takeRecipeQuery =>
    exact State.takeFrame_induct _ _ hs fun _ f rest _ _ => hflush
      ((hs.of_eq rfl rfl : BridgeInv (s.withRxRest rest)).of_eq (by simp) (by simp))
  case entryRising | entryFalling | exitRising | exitFalling | forwardCount | backwardCount =>
    exact State.sense_induct _ hs fun _ => hs.of_eq (by simp) (by simp)
  case laneSend =>
    have hmoved := Bridge.send_moves s.bridge
    exact State.unlessHeld_induct hs fun _ => hs.setBridge hmoved.1 hmoved.2 (Bridge.send_within hs.within)
  case setpointSent t => exact State.unlessHeld_induct hs fun _ => State.sentSetpoint_bridgeInv _ (hadvance t)
  case offSent t => exact State.unlessHeld_induct hs fun _ => State.sentOff_bridgeInv _ (hadvance t)
  case markSent t df => exact State.unlessHeld_induct hs fun _ => hflush (State.sentMark_bridgeInv _ df (hadvance t))
  case takeWindowExpiry t df => exact State.unlessHeld_induct hs fun _ => hflush (State.takeRunOut_bridgeInv _ df (hadvance t))
  case readingWindowExpiry t df =>
    exact State.unlessHeld_induct hs fun _ => hflush (State.readingRunOut_bridgeInv _ df (hadvance t))
  case confirmTimerExpiry t =>
    exact State.unlessHeld_induct hs fun _ => (hadvance t).updateBridge (Bridge.confirmRunOut_moves _)
  case ackReceived w df =>
    exact State.unlessHeld_induct hs fun _ => by
      split
      next => exact hflush (State.takeAck_bridgeInv _ df hs)
      all_goals exact hs
  case readingReceived w df =>
    exact State.unlessHeld_induct hs fun _ => by
      split
      next => exact hflush (State.takeReading_bridgeInv _ _ df hs)
      all_goals exact hs
  case faultReceived w df =>
    exact State.unlessHeld_induct hs fun _ => by
      split
      next => exact hflush (State.trip_bridgeInv _ df hs)
      all_goals exact hs
  all_goals exact State.unlessHeld_induct hs fun _ => hs.of_eq (by simp) (by simp)

/-- Settles O59: setpoints enter the lane lowered to their rating, a bridge state outside OFF is met only where the station lets the bridge
leave OFF, and the escalation takes the bridge to OFF before the station enters LOCKOUT. -/
theorem bridgeIsOffAndWithinItsRatings : Obligations.BridgeIsOffAndWithinItsRatings := fun s t hs hstep =>
  step_induct (p := fun s t => BridgeInv s → BridgeInv t) (fun c _ _ h hs => exec_keeps_bridgeInv c hs h)
    (fun _ _ _ h hs => h (hs.of_eq rfl rfl)) (fun _ hs => bridgeInv_keptByTakings.quiet hs) s t hstep hs

end Sys2Proof.Machine
end

section
/-! PROOFS. The bounds of the queues and tables: a CLAIM frame that stands in the normal class (R150, R151). -/

namespace Sys2Proof.Machine

open Sys2Proof

/-- A station in JOINED that owes a CLAIM at this slot boundary, and whose transmit queue holds a CLAIM frame in the normal class. The bounds
count that frame as the one CLAIM held; a submission looks for a held CLAIM in flight and in the urgent class alone. -/
def normalClaim : State :=
  { State.reset with
    pending := [.claimRetry]
    station := { Station.reset with state := .joined, held := false }
    bus := { Bus.reset with normal := [freshFrame (.claim ⟨6, none, none⟩) .all] }
    map := { SlotMap.reset with live := true, sendDue := true }
    boundary := { Boundary.reset with owed := [.slotMap] } }

theorem normalClaim_bounds : BoundsInv normalClaim := by
  have hbus : normalClaim.bus.inBounds := ⟨by decide, by decide, by decide, by decide, by decide⟩
  have hreports : reportsInOrder normalClaim.mon.reports := ⟨.nil, nofun⟩
  have htable : normalClaim.tracker.inBounds := ⟨Nat.zero_le _, .nil, nofun, .nil, Nat.zero_le _⟩
  exact ⟨hbus, hreports, htable, rfl, nofun⟩

/-- The retry queues a second CLAIM, which the pick takes into flight. -/
theorem step_normalClaim : ∃ t, step normalClaim = .next t ∧ t.bus.claimsHeld = 2 := ⟨_, rfl, by decide⟩

/-- Refutes O60: the stated bounds allow a CLAIM in the normal class, where a retry does not see it and submits a second one. -/
theorem not_queuesAndTablesStayInBounds : ¬Obligations.QueuesAndTablesStayInBounds := by
  intro h
  obtain ⟨t, hstep, hclaims⟩ := step_normalClaim
  obtain ⟨⟨_, hone, _⟩, _⟩ := h normalClaim t normalClaim_bounds hstep
  omega

end Sys2Proof.Machine
end

section
/-! PROOFS. The machine's step, hardware reset and the start of a part (R164 to R167; logs 3, 4, 9). -/

namespace Sys2Proof.Machine

open Sys2Proof

/-! ### A step -/

theorem step_of_pending {s : State} {c : Instr} {rest : List Instr} (h : s.pending = c :: rest) :
    step s = exec c (s.setPending rest) := by
  unfold step
  rw [h]

theorem step_of_idle {s : State} (h : s.pending = []) : step s = .next s.quiet := by
  unfold step
  rw [h]

theorem State.quiet_of_owed_nil {s : State} (h : s.boundary.owed = []) : s.quiet = s := by
  unfold State.quiet
  rw [h]

theorem State.quiet_of_owed_cons {s : State} {t : Task} {ts : List Task} (h : s.boundary.owed = t :: ts) :
    s.quiet = s.takeTask t := by
  unfold State.quiet
  rw [h]

/-- Settles O1: a waiting command is executed; with none, the block makes the first taking owed, and each taking is one operation. -/
theorem stepRunsTheFrontCommand : Obligations.StepRunsTheFrontCommand := by
  refine ⟨fun c rest s h => step_of_pending h, fun s h => ⟨fun hnil => ?idle, fun t ts hcons => ?owed⟩, ?takings⟩
  case idle => rw [step_of_idle h, State.quiet_of_owed_nil hnil]
  case owed => rw [step_of_idle h, State.quiet_of_owed_cons hcons]
  case takings =>
    intro s t ht left
    refine ⟨?tracker, ?handOver, ?engineSlot, ?bridgeSlot, ?doseFrame, ?busFrame, ?monitor⟩
    case tracker => rintro rfl; exact State.takeTask_of_met ht (by simp [taskNeeds])
    case handOver => rintro rfl h; exact State.takeTask_of_met ht (by simpa [taskNeeds] using h)
    case engineSlot => rintro rfl h h'; exact State.takeTask_of_met ht (by simpa [taskNeeds] using ⟨h, h'⟩)
    case bridgeSlot => rintro rfl h; exact State.takeTask_of_met ht (by simpa [taskNeeds] using h)
    case doseFrame => rintro rfl; exact State.takeTask_of_met ht (by simp [taskNeeds])
    case busFrame => rintro rfl; exact State.takeTask_of_met ht (by simp [taskNeeds])
    case monitor => rintro rfl; exact State.takeTask_of_met ht (by simp [taskNeeds])

/-! ### Hardware reset (R164) -/

/-- Settles O2: each block's reset value is the one written out. -/
theorem hardwareResetLeavesEveryBlockAtReset : Obligations.HardwareResetLeavesEveryBlockAtReset :=
  fun s => ⟨s.hardReset, rfl, rfl, rfl, rfl, rfl, rfl, rfl, rfl, rfl, rfl, rfl, rfl, rfl, rfl⟩

/-! ### What a held part takes (R164) -/

theorem State.unlessHeld_of_held {s : State} (h : s.station.held = true) (f : State → State) : s.unlessHeld f = s := if_pos h

theorem State.unlessHeld_of_running {s : State} (h : s.running) (f : State → State) : s.unlessHeld f = f s :=
  if_neg (Bool.eq_false_iff.mp h)

theorem State.ownTaking_of_held {s : State} (h : s.station.held = true) (t : Task) (due : State → Bool) :
    s.ownTaking t due = s := State.unlessHeld_of_held h _

theorem State.takeFrame_of_held {s : State} (h : s.station.held = true) (kind : FrameKind) (act : RxFrame → State → State) :
    s.takeFrame kind act = s := State.unlessHeld_of_held h _

theorem State.sense_of_held {s : State} (h : s.station.held = true) (act : State → State) : s.sense act = s :=
  State.unlessHeld_of_held h _

/-- A row whose guard lets no event of a held part through, with the choice that its command brings (log 5). -/
theorem State.chosenTaking_of_held {s : State} (h : s.station.held = true) (f : State → State) (t : Task) (due : State → Bool) :
    (s.unlessHeld f).ownTaking t due = s := by
  rw [State.unlessHeld_of_held h, State.ownTaking_of_held h]

theorem exec_of_held {s : State} (h : s.station.held = true) (c : Instr) (hreset : c ≠ .hardwareReset)
    (hrelease : c ≠ .rstnRelease) (hroom : c ≠ .blroomRise) : exec c s = .next s := by
  cases c
  case hardwareReset => exact absurd rfl hreset
  case rstnRelease => exact absurd rfl hrelease
  case blroomRise => exact absurd rfl hroom
  case takeAdmit | takeHandover | takeCarrierQuery | takeRecipe | takeRecipeQuery | takeRelease =>
    exact congrArg _ (State.takeFrame_of_held h _ _)
  case entryRising | entryFalling | exitRising | exitFalling | forwardCount | backwardCount =>
    exact congrArg _ (State.sense_of_held h _)
  case answerDue | recipeQueryDue | unavailableQueryDue | carrierQueryDue | peerRecordAgeOut | unneededExpiry | windowClose |
      planningHoldExpiry | refreshDue | claimRetry | tripWindowExpiry | joinCountExpiry =>
    exact congrArg _ (State.ownTaking_of_held h _ _)
  case confirmDeadline | tripRestEnd | selfTestVerdict => exact congrArg _ (State.chosenTaking_of_held h _ _ _)
  all_goals exact congrArg _ (State.unlessHeld_of_held h _)

/-- Settles O3: every other command stands behind a guard that asks whether RSTN is asserted. -/
theorem heldPartTakesNothing : Obligations.HeldPartTakesNothing := by
  refine fun s => ⟨fun h => ⟨?release, ?room, exec_of_held h⟩, fun h => ?running⟩
  case release => exact congrArg Host.Outcome.next (if_pos h)
  case room => rw [exec_blroomRise_eq, if_pos h]; rfl
  case running => exact congrArg Host.Outcome.next (if_neg (Bool.eq_false_iff.mp h))

/-! ### The invariants at reset -/

theorem State.reset_clockInv : ClockInv State.reset := (ClockInv_iff _).mpr ⟨Clock.reset_sound _, trackerInRange_nil⟩

theorem State.reset_reverseInv : ReverseInv State.reset := ⟨fun _ => rfl, fun _ => ⟨rfl, rfl⟩, nofun⟩

theorem State.reset_bridgeInv : BridgeInv State.reset :=
  ⟨fun _ => ⟨rfl, rfl⟩, fun _ => ⟨rfl, rfl⟩, fun _ => rfl, Bridge.reset_within _⟩

theorem State.reset_boundsInv : BoundsInv State.reset := by
  have hbus : State.reset.bus.inBounds := ⟨by decide, by decide, by decide, by decide, by decide⟩
  have hreports : reportsInOrder State.reset.mon.reports := ⟨.nil, nofun⟩
  have htable : State.reset.tracker.inBounds := ⟨Nat.zero_le _, .nil, nofun, .nil, Nat.zero_le _⟩
  exact ⟨hbus, hreports, htable, rfl, nofun⟩

/-- Settles O56, invariant by invariant. -/
theorem invariantsHoldAtReset : Obligations.InvariantsHoldAtReset :=
  ⟨State.reset_clockInv, State.reset_reverseInv, State.reset_bridgeInv, State.reset_boundsInv⟩

end Sys2Proof.Machine
end

section
/-! PROOFS. The configuration read: what makes an image good, and how the part starts with one (R165 to R167, R181). -/

namespace Sys2Proof.Machine

open Sys2Proof

/-! ### A good image (R165, R181) -/

theorem within_iff (lo hi n : Nat) : within lo hi n = true ↔ lo ≤ n ∧ n ≤ hi := by simp [within]

/-- The ranges of the table of R165, as one conjunction. -/
def cfgRangesMet (c : Cfg) : Prop :=
  (1 ≤ c.stationAddress ∧ c.stationAddress ≤ 62) ∧ (1 ≤ c.zoneIndex ∧ c.zoneIndex ≤ 48)
    ∧ (300 ≤ c.zoneLength ∧ c.zoneLength ≤ 6000) ∧ (1 ≤ c.zoneWindowArea ∧ c.zoneWindowArea ≤ 65535)
    ∧ (1 ≤ c.defaultArea ∧ c.defaultArea ≤ 20000) ∧ (100 ≤ c.defaultLength ∧ c.defaultLength ≤ 3000)
    ∧ (1 ≤ c.forwardRating ∧ c.forwardRating ≤ 6000) ∧ (1 ≤ c.reverseRating ∧ c.reverseRating ≤ 6000)
    ∧ (1 ≤ c.lineReverseBudget ∧ c.lineReverseBudget ≤ 65535) ∧ (1 ≤ c.onsetLimit ∧ c.onsetLimit ≤ 8)
    ∧ c.holdingDensity ≤ 500 ∧ (100 ≤ c.confirmLimit ∧ c.confirmLimit ≤ 1000)
    ∧ (5 ≤ c.overcurrentMargin ∧ c.overcurrentMargin ≤ 50) ∧ c.anodeVoltageLimit ≤ 65535
    ∧ (1 ≤ c.deviationThreshold ∧ c.deviationThreshold ≤ 8)
    ∧ ∀ r ∈ [c.bridgeSlow, c.reverseDeficit, c.anodeVoltage, c.busErrors],
        (1 ≤ r.declareAt ∧ r.declareAt ≤ 255) ∧ (1 ≤ r.clearAt ∧ r.clearAt ≤ 255)

theorem cfgInRange_iff (c : Cfg) : cfgInRange c = true ↔ cfgRangesMet c := by
  simp only [cfgInRange, cfgRangesMet, Bool.and_eq_true, within_iff, List.forall_mem_cons, Nat.zero_le, true_and,
    List.not_mem_nil, false_implies, implies_true, and_true]
  simp only [and_assoc]

theorem judgeImage_eq_some (image : List Byte) (c : Cfg) :
    judgeImage image = some c ↔ checkBytes (image.take 64) = image.drop 64 ∧ readFields image = some c ∧ cfgRangesMet c := by
  unfold judgeImage
  by_cases hcheck : checkBytes (image.take 64) = image.drop 64
  · rw [if_pos hcheck]
    cases hfields : readFields image with
    | none => simp
    | some d =>
      dsimp only
      by_cases hrange : cfgInRange d = true
      · rw [if_pos hrange]
        refine ⟨fun h => ?_, fun h => h.2.1⟩
        obtain rfl : d = c := Option.some.inj h
        exact ⟨hcheck, rfl, (cfgInRange_iff d).mp hrange⟩
      · rw [if_neg hrange]
        refine ⟨nofun, fun ⟨_, hsame, hmet⟩ => ?_⟩
        obtain rfl : d = c := Option.some.inj hsame
        exact absurd ((cfgInRange_iff d).mpr hmet) hrange
  · rw [if_neg hcheck]
    exact ⟨nofun, fun h => absurd h.1 hcheck⟩

/-! ### The start of the part (R166, R167) -/

/-- The monitor told of a state in which CONDITION frames are not allowed submits none (R143). -/
theorem State.tellMonitor_of_offBus {st : StationState} (h : st.onBus = false) (s : State) :
    s.tellMonitor st
      = s.setMon { s.mon with told := st, listeningReached := s.mon.listeningReached || st == StationState.listening }.formFaultn := by
  unfold State.tellMonitor State.offer
  exact if_neg (Bool.eq_false_iff.mp h)

/-- In SELF-TEST the drive of FAULTN turns on LISTENING reached and on REFERENCE LOST alone (R146). -/
theorem Monitor.faultnLevel_of_selfTest {m : Monitor} (h : m.told = .selfTest) :
    m.faultnLevel = (!m.listeningReached || m.isDeclared .referenceLost) := by
  have hother {st : StationState} (hst : StationState.selfTest ≠ st) : (StationState.selfTest == st) = false :=
    beq_false_of_ne hst
  simp [Monitor.faultnLevel, h, hother]

/-- The transmit queue on the internal loop once the three TEST frames are submitted, in their order (R167). -/
def Bus.withTests (address : Nat) (b : Bus) : Bus :=
  { b with
    tx := .waiting, attempts := 0
    inFlight := some (freshFrame (.test 1) (.station address))
    normal := [freshFrame (.test 2) (.station address), freshFrame (.test 3) (.station address)] }

/-- The first TEST frame is picked at once, and the other two find the free places that a normal frame needs (R150, R152). -/
theorem State.submitTests_of_empty {s : State} (hstate : s.station.state = .selfTest) (htx : s.bus.tx = .idle)
    (hflight : s.bus.inFlight = none) (hurgent : s.bus.urgent = []) (hnormal : s.bus.normal = []) :
    ((s.submitTest 1).submitTest 2).submitTest 3 = s.setBus (s.bus.withTests s.cfg.stationAddress) := by
  have htakes (n : Nat) : StationState.takes .selfTest (.test n) = true := rfl
  simp [State.submitTest, State.submit, Bus.submit, Bus.enqueue, Bus.enqueueNormal, Bus.pick, Bus.free, Bus.heldFrames,
    State.cfg, State.setBus, Bus.withTests, hstate, htx, hflight, hurgent, hnormal, htakes]

theorem exec_configurationReadDone {s : State} (t : Instant) {image : List Byte} (hrun : s.running)
    (hreading : s.station.reading = true) (hlength : image.length = 66) :
    exec (.configurationReadDone t image) s
      = .next (match judgeImage image with
          | some c => (s.advance t).startSelfTest c
          | none => (s.advance t).configFault) := by
  have htaken : (s.advance t).takeImage image = match judgeImage image with
      | some c => (s.advance t).startSelfTest c
      | none => (s.advance t).configFault := if_pos ⟨hreading, hlength⟩
  show Host.Outcome.next (s.unlessHeld _) = _
  rw [State.unlessHeld_of_running hrun, htaken]

theorem State.configFault_eq (s : State) :
    s.configFault = { s with
      station := { s.station with state := .configFault, reading := false }
      mon := { s.mon with told := .configFault, faultn := true } } := by
  unfold State.configFault
  rw [State.tellMonitor_of_offBus rfl]
  simp [Monitor.formFaultn, Monitor.faultnLevel, State.setStation, State.setMon]

theorem State.startSelfTest_eq {s : State} (c : Cfg) (htx : s.bus.tx = .idle) (hflight : s.bus.inFlight = none)
    (hurgent : s.bus.urgent = []) (hnormal : s.bus.normal = []) :
    s.startSelfTest c = { s with
      station :=
        { s.station with
          state := .selfTest, cfg := some c, selfNext := 1, selfFault := false, selfFrames := 0, reading := false }
      clock := Clock.started s.now c.refFreq
      bus := (s.bus.enterLoop s.now).withTests c.stationAddress
      mon :=
        { s.mon with told := .selfTest, faultn := !s.mon.listeningReached || s.mon.isDeclared .referenceLost } } := by
  unfold State.startSelfTest
  dsimp only
  rw [State.submitTests_of_empty, State.tellMonitor_of_offBus rfl]
  · simp [Monitor.formFaultn, Monitor.faultnLevel_of_selfTest, State.setStation, State.setMon, State.setBus, State.setClock,
      State.cfg, Monitor.isDeclared, beq_false_of_ne]
  · rfl
  · exact htx
  · exact hflight
  · exact hurgent
  · exact hnormal

/-- Settles O4: the read leads to CONFIG FAULT or to the self-test as the image is judged. -/
theorem configurationReadIsJudged : Obligations.ConfigurationReadIsJudged := by
  refine ⟨fun s t image hrun hreading hlength => ?read, judgeImage_eq_some⟩
  rw [exec_configurationReadDone t hrun hreading hlength]
  refine ⟨fun hbad => ?bad, fun c hgood htx hflight hurgent hnormal => ?good⟩
  case bad => rw [hbad]; exact congrArg _ (State.configFault_eq _)
  case good => rw [hgood]; exact congrArg _ (State.startSelfTest_eq c htx hflight hurgent hnormal)

end Sys2Proof.Machine
end

section
/-! PROOFS. The slot clock's commands: what ends a slot, and how the clock that begins the next one follows from the clock that stood (R2 to
R9). -/

namespace Sys2Proof.Machine

open Sys2Proof

/-! ### The end of a slot, as the statements speak of it -/

/-- The slot of `s` ended at `t`: the clock up to its core, what the boundary carries, and what it owes where no block has taken it. -/
def EndedAt (s : State) (t : Instant) (c : Clock) (frame : Bool) (notices ord : List Task) (u : State) : Prop :=
  u.pending = s.pending ∧ u.now = t ∧ u.clock.core = c.core ∧ SlotEnded s u frame
    ∧ (ord = [] → u.boundary.owed = notices ++ boundaryTasks frame)

/-- The clock after what the boundary before still owes: the same but for the aligned flag and the tracker. -/
theorem State.drain_clock (s : State) : ∃ a tr, s.drain.clock = { s.clock with aligned := a, tracker := tr } :=
  Clock.eq_of_core s.drain_clockKept.1

theorem Clock.nextPeriod_eq (c : Clock) : c.nextPeriod = ({ c with sip := 0, pif := (c.pif + 1) % 4 }, c.pif == 3) := rfl

/-- After an accepted edge the period of the slot in progress ends in its second half, and is taken back to its start in its first (R4). -/
theorem Clock.placeAfterEdge_eq (c : Clock) :
    c.placeAfterEdge
      = ({ c with sip := 0, pif := if 8 ≤ c.sip then (c.pif + 1) % 4 else c.pif }, decide (8 ≤ c.sip ∧ c.pif = 3)) := by
  unfold Clock.placeAfterEdge
  by_cases h : 8 ≤ c.sip
  · rw [if_pos h]
    by_cases hp : c.pif = 3 <;> simp [Clock.nextPeriod_eq, h, hp]
  · simp [h]

theorem Lock.cases (l : Lock) : l = .unlocked ∨ l = .locked ∨ l = .holdover := by cases l <;> simp

theorem Clock.edgeUnlocked_of_marks (h : Thresholds) (elapsed : Instant) (c : Clock) (a : Bool) (tr : List Disagreement) :
    ({ c with aligned := a, tracker := tr } : Clock).edgeUnlocked h elapsed
      = ({ (c.edgeUnlocked h elapsed).1 with aligned := a, tracker := tr }, (c.edgeUnlocked h elapsed).2) := by
  unfold Clock.edgeUnlocked
  by_cases htolerance : h.inTolerance elapsed = true <;> by_cases hrun : c.goodRun + 1 = 8 <;> simp [htolerance, hrun]

theorem Clock.edgeLocked_of_marks (h : Thresholds) (elapsed : Instant) (c : Clock) (a : Bool) (tr : List Disagreement) :
    ({ c with aligned := a, tracker := tr } : Clock).edgeLocked h elapsed
      = ({ (c.edgeLocked h elapsed).1 with aligned := a, tracker := tr }, (c.edgeLocked h elapsed).2) := by
  unfold Clock.edgeLocked
  by_cases htolerance : h.inTolerance elapsed = true <;> by_cases hrun : c.badRun + 1 = 4 <;> simp [htolerance, hrun]

theorem Clock.acceptEdge_of_unlocked {c : Clock} (hlock : c.lock = .unlocked) (h : Thresholds) (t elapsed : Instant) :
    c.acceptEdge h t (.measured elapsed) = (c.measure t elapsed).edgeUnlocked h elapsed := by
  unfold Clock.acceptEdge
  rw [hlock]

theorem Clock.acceptEdge_of_locked {c : Clock} (hlock : c.lock = .locked) (h : Thresholds) (t elapsed : Instant) :
    c.acceptEdge h t (.measured elapsed) = (c.measure t elapsed).edgeLocked h elapsed := by
  unfold Clock.acceptEdge
  rw [hlock]

/-- In HOLDOVER no edge is a measured one (R8). -/
theorem Clock.acceptEdge_of_holdover {c : Clock} (hlock : c.lock = .holdover) (h : Thresholds) (t elapsed : Instant) :
    c.acceptEdge h t (.measured elapsed) = (c.startEdge t, []) := by
  unfold Clock.acceptEdge
  rw [hlock]

/-- An accepted edge reads and moves neither the aligned flag nor the tracker. -/
theorem Clock.acceptEdge_of_marks (h : Thresholds) (t : Instant) (k : EdgeClass) (c : Clock) (a : Bool) (tr : List Disagreement) :
    ({ c with aligned := a, tracker := tr } : Clock).acceptEdge h t k
      = ({ (c.acceptEdge h t k).1 with aligned := a, tracker := tr }, (c.acceptEdge h t k).2) := by
  cases k with
  | glitch => rfl
  | start => rfl
  | measured elapsed =>
    rcases Lock.cases c.lock with hlock | hlock | hlock
    · rw [Clock.acceptEdge_of_unlocked hlock, ← Clock.edgeUnlocked_of_marks]
      exact Clock.acceptEdge_of_unlocked (c := { c with aligned := a, tracker := tr }) hlock h t elapsed
    · rw [Clock.acceptEdge_of_locked hlock, ← Clock.edgeLocked_of_marks]
      exact Clock.acceptEdge_of_locked (c := { c with aligned := a, tracker := tr }) hlock h t elapsed
    · rw [Clock.acceptEdge_of_holdover hlock]
      exact Clock.acceptEdge_of_holdover (c := { c with aligned := a, tracker := tr }) hlock h t elapsed

/-- The period end reads and moves neither the aligned flag nor the tracker. -/
theorem Clock.periodEnd_of_marks (h : Thresholds) (c : Clock) (a : Bool) (tr : List Disagreement) :
    ({ c with aligned := a, tracker := tr } : Clock).periodEnd h
      = ({ (c.periodEnd h).1 with aligned := a, tracker := tr }, (c.periodEnd h).2) := by
  unfold Clock.periodEnd
  by_cases hlock : c.lock = .holdover <;> by_cases hcount : c.holdoverCount + 1 = 8 <;> simp [hlock, hcount]

/-- The edge ends the slot in progress, at the place that the half of the period gives (R4). -/
theorem State.endSlot_of_edge (s : State) (k : EdgeClass) (ord : List Task) (df : Bool) :
    EndedAt s s.now
      { (s.clock.acceptEdge s.limits s.now k).1 with
        sip := 0
        pif := if 8 ≤ (s.clock.acceptEdge s.limits s.now k).1.sip then ((s.clock.acceptEdge s.limits s.now k).1.pif + 1) % 4
          else (s.clock.acceptEdge s.limits s.now k).1.pif
        slotStart := s.now }
      (decide (8 ≤ (s.clock.acceptEdge s.limits s.now k).1.sip ∧ (s.clock.acceptEdge s.limits s.now k).1.pif = 3))
      (s.clock.acceptEdge s.limits s.now k).2 ord
      (s.drain.endSlot (s.drain.clock.acceptEdge s.drain.limits s.drain.now k).1.placeAfterEdge
        (s.drain.clock.acceptEdge s.drain.limits s.drain.now k).2 ord df) := by
  obtain ⟨a, tr, hclock⟩ := s.drain_clock
  have haccepted : s.drain.clock.acceptEdge s.drain.limits s.drain.now k
      = ({ (s.clock.acceptEdge s.limits s.now k).1 with aligned := a, tracker := tr },
        (s.clock.acceptEdge s.limits s.now k).2) := by
    rw [hclock, State.limits_drain, (State.drain_pending_now s).2]
    exact Clock.acceptEdge_of_marks _ _ k s.clock a tr
  rw [haccepted, Clock.placeAfterEdge_eq]
  exact State.drained_endSlot s (_, _) _ ord df _ rfl

/-- A period ends at its timer, in every lock state (R4, R8). -/
theorem State.endPeriod_ended (s : State) (ord : List Task) (df : Bool) :
    EndedAt s s.now
      { (s.clock.periodEnd s.limits).1 with
        sip := 0, pif := ((s.clock.periodEnd s.limits).1.pif + 1) % 4, slotStart := s.now }
      ((s.clock.periodEnd s.limits).1.pif == 3) (s.clock.periodEnd s.limits).2 ord (s.endPeriod ord df) := by
  obtain ⟨a, tr, hclock⟩ := s.drain_clock
  unfold State.endPeriod
  dsimp only
  have hended : s.drain.clock.periodEnd s.drain.limits
      = ({ (s.clock.periodEnd s.limits).1 with aligned := a, tracker := tr }, (s.clock.periodEnd s.limits).2) := by
    rw [hclock, State.limits_drain]
    exact Clock.periodEnd_of_marks _ s.clock a tr
  rw [hended, Clock.nextPeriod_eq]
  exact State.drained_endSlot s (_, _) _ ord df _ rfl

/-! ### REFIN edges (R2, R3, R6 to R8) -/

theorem exec_refinEdge {s : State} (hrun : s.clockRuns) (t : Instant) (ord : List Task) (df : Bool) :
    exec (.refinEdge t ord df) s = .next ((s.advance t).refinEdge ord df) :=
  congrArg Host.Outcome.next (State.unlessHeld_of_running hrun.1 _)

theorem State.refinEdge_of_glitch {s : State} (hk : s.clock.classify s.limits s.now = .glitch) (ord : List Task) (df : Bool) :
    s.refinEdge ord df = s := by
  unfold State.refinEdge
  generalize s.drain = u
  split
  next => rfl
  next => rw [hk]

/-- An accepted edge is a start edge or a measured one, and ends the slot in progress (R2, R4). -/
theorem State.refinEdge_ended {s : State} (hclock : s.clock.held = false) {k : EdgeClass} (hk : s.clock.classify s.limits s.now = k)
    (haccepted : k ≠ .glitch) (ord : List Task) (df : Bool) :
    s.refinEdge ord df
      = s.drain.endSlot (s.drain.clock.acceptEdge s.drain.limits s.drain.now k).1.placeAfterEdge
        (s.drain.clock.acceptEdge s.drain.limits s.drain.now k).2 ord df := by
  unfold State.refinEdge
  generalize s.drain = u
  rw [if_neg (Bool.eq_false_iff.mp hclock), hk]
  cases k with
  | glitch => exact absurd rfl haccepted
  | start => rfl
  | measured elapsed => rfl

theorem Clock.classify_of_glitch {h : Thresholds} {t e : Instant} {c : Clock} (he : c.lastEdge = some e) (hlow : t - e < h.glitch) :
    c.classify h t = .glitch := by
  unfold Clock.classify
  rw [he]
  exact if_pos hlow

theorem Clock.classify_of_measured {h : Thresholds} {t e : Instant} {c : Clock} (he : c.lastEdge = some e)
    (hlow : h.glitch ≤ t - e) (hhigh : t - e ≤ h.loss) : c.classify h t = .measured (t - e) := by
  unfold Clock.classify
  rw [he]
  dsimp only
  rw [if_neg (Nat.not_lt.mpr hlow), if_pos hhigh]

theorem Clock.classify_of_start {h : Thresholds} {t : Instant} {c : Clock}
    (hstart : ∀ e, c.lastEdge = some e → h.glitch ≤ t - e ∧ h.loss < t - e) : c.classify h t = .start := by
  unfold Clock.classify
  cases he : c.lastEdge with
  | none => rfl
  | some e =>
    obtain ⟨hlow, hhigh⟩ := hstart e he
    dsimp only
    rw [if_neg (Nat.not_lt.mpr hlow), if_neg (Nat.not_le.mpr hhigh)]

/-- Settles O5: a glitch is no edge, and a start edge leaves no measurement. -/
theorem refinGlitchAndStartEdge : Obligations.RefinGlitchAndStartEdge := by
  intro s t ord df hrun
  rw [exec_refinEdge hrun]
  refine ⟨fun e he hlow => ?glitch, fun hstart => ⟨_, rfl, ?start⟩⟩
  case glitch =>
    have hclass : (s.advance t).clock.classify (s.advance t).limits (s.advance t).now = .glitch :=
      Clock.classify_of_glitch he hlow
    rw [State.refinEdge_of_glitch hclass]
    rfl
  case start =>
    have hclass : (s.advance t).clock.classify (s.advance t).limits (s.advance t).now = .start :=
      Clock.classify_of_start hstart
    rw [State.refinEdge_ended (s := s.advance t) hrun.2 hclass nofun]
    exact (s.advance t).endSlot_of_edge .start ord df

end Sys2Proof.Machine
end

section
/-! PROOFS. What the monitor's operations do to its record: the declared set, the state last told and FAULTN (R137, R142, R146). -/

namespace Sys2Proof.Machine

open Sys2Proof

/-! ### The declared set -/

theorem Kind.bit_lt (k : Kind) : k.bit < 16 := by cases k <;> decide

theorem Kind.bit_inj {k l : Kind} : k.bit = l.bit ↔ k = l := by
  refine ⟨?_, congrArg _⟩
  cases k <;> cases l <;> decide

theorem Monitor.isDeclared_mark (k l : Kind) (m : Monitor) : (m.mark k).isDeclared l = (m.isDeclared l || decide (l = k)) := by
  simp [Monitor.isDeclared, Monitor.mark, BitVec.getLsbD_or, BitVec.getLsbD_twoPow, k.bit_lt, Kind.bit_inj, eq_comm]

theorem Monitor.isDeclared_unmark (k l : Kind) (m : Monitor) :
    (m.unmark k).isDeclared l = (m.isDeclared l && !decide (l = k)) := by
  simp [Monitor.isDeclared, Monitor.unmark, BitVec.getLsbD_and, BitVec.getLsbD_not, BitVec.getLsbD_twoPow, l.bit_lt,
    Kind.bit_inj, eq_comm]

@[simp] theorem Monitor.isDeclared_formFaultn (k : Kind) (m : Monitor) : m.formFaultn.isDeclared k = m.isDeclared k := rfl

/-! ### Submissions and placed reports change the report set alone -/

theorem offerReports_mon (n : Nat) (s : State) :
    (offerReports n s).mon = { s.mon with reports := (offerReports n s).mon.reports } := by
  induction n generalizing s with
  | zero => rfl
  | succ n ih =>
    unfold offerReports
    split
    next => rfl
    next r rest hreports =>
      have hmon : (s.submit (.condition (s.conditionFor r)) .all).1.mon = s.mon := by simp
      split
      next u hsubmit =>
        rw [hsubmit] at hmon
        rw [ih, State.setMon_mon, hmon]
      next => rfl

theorem State.offer_mon (s : State) : s.offer.mon = { s.mon with reports := s.offer.mon.reports } := by
  unfold State.offer
  split
  next => exact offerReports_mon _ s
  next => rfl

theorem State.place_mon (kind : Kind) (change : Change) (cause : Cause) (s : State) :
    (s.place kind change cause).mon = { s.mon with reports := (s.place kind change cause).mon.reports } :=
  State.offer_mon _

theorem State.raise_mon (kind : Kind) (cause : Cause) (s : State) :
    (s.raise kind cause).mon = { s.mon with reports := (s.raise kind cause).mon.reports } :=
  State.place_mon _ _ _ _

@[simp] theorem State.offer_isDeclared (k : Kind) (s : State) : s.offer.mon.isDeclared k = s.mon.isDeclared k := by
  rw [State.offer_mon]; rfl

@[simp] theorem State.place_isDeclared (k kind : Kind) (change : Change) (cause : Cause) (s : State) :
    (s.place kind change cause).mon.isDeclared k = s.mon.isDeclared k := by rw [State.place_mon]; rfl

@[simp] theorem State.raise_isDeclared (k kind : Kind) (cause : Cause) (s : State) :
    (s.raise kind cause).mon.isDeclared k = s.mon.isDeclared k := by rw [State.raise_mon]; rfl

@[simp] theorem State.offer_told (s : State) : s.offer.mon.told = s.mon.told := by rw [State.offer_mon]

@[simp] theorem State.place_told (kind : Kind) (change : Change) (cause : Cause) (s : State) :
    (s.place kind change cause).mon.told = s.mon.told := by rw [State.place_mon]

@[simp] theorem State.raise_told (kind : Kind) (cause : Cause) (s : State) : (s.raise kind cause).mon.told = s.mon.told := by
  rw [State.raise_mon]

@[simp] theorem State.offer_faultn (s : State) : s.offer.mon.faultn = s.mon.faultn := by rw [State.offer_mon]

@[simp] theorem State.place_faultn (kind : Kind) (change : Change) (cause : Cause) (s : State) :
    (s.place kind change cause).mon.faultn = s.mon.faultn := by rw [State.place_mon]

@[simp] theorem State.offer_listeningReached (s : State) : s.offer.mon.listeningReached = s.mon.listeningReached := by
  rw [State.offer_mon]

@[simp] theorem State.place_listeningReached (kind : Kind) (change : Change) (cause : Cause) (s : State) :
    (s.place kind change cause).mon.listeningReached = s.mon.listeningReached := by rw [State.place_mon]

/-! ### Requests (R137) -/

theorem State.declareCond_isDeclared (k l : Kind) (cause : Cause) (s : State) :
    (s.declareCond k cause).mon.isDeclared l = (s.mon.isDeclared l || decide (l = k)) := by
  unfold State.declareCond
  by_cases hk : s.mon.isDeclared k = true
  · by_cases hl : l = k <;> simp [hk, hl]
  · simp [hk, Monitor.isDeclared_mark]

theorem State.clearCond_isDeclared (k l : Kind) (cause : Cause) (s : State) :
    (s.clearCond k cause).mon.isDeclared l = (s.mon.isDeclared l && (!decide (l = k) || k.sticky)) := by
  unfold State.clearCond
  by_cases hk : s.mon.isDeclared k = true <;> by_cases hs : k.sticky = true <;> by_cases hl : l = k <;>
    simp [hk, hs, hl, Monitor.isDeclared_unmark]

@[simp] theorem State.declareCond_told (k : Kind) (cause : Cause) (s : State) :
    (s.declareCond k cause).mon.told = s.mon.told := by
  unfold State.declareCond
  split
  next => rfl
  next => rw [State.place_told]; rfl

@[simp] theorem State.clearCond_told (k : Kind) (cause : Cause) (s : State) : (s.clearCond k cause).mon.told = s.mon.told := by
  unfold State.clearCond
  split
  next => rw [State.place_told]; rfl
  next => rfl

/-! ### The monitor told (R143, R146) -/

@[simp] theorem State.tellMonitor_isDeclared (k : Kind) (st : StationState) (s : State) :
    (s.tellMonitor st).mon.isDeclared k = s.mon.isDeclared k := by
  unfold State.tellMonitor
  rw [State.offer_isDeclared]
  rfl

@[simp] theorem State.tellMonitor_told (st : StationState) (s : State) : (s.tellMonitor st).mon.told = st := by
  unfold State.tellMonitor
  rw [State.offer_told]
  rfl

/-! ### What leaves the monitor's record but for the reports and SLOT STARVED -/

/-- FAULTN is driven as R146 gives it. -/
def Monitor.formed (m : Monitor) : Prop := m.faultn = m.faultnLevel

theorem State.offer_formed {s : State} (h : s.mon.formed) : s.offer.mon.formed := by
  rw [State.offer_mon]
  exact h

/-- A request forms FAULTN anew where it changes a condition (R146). -/
theorem State.clearCond_formed (k : Kind) (cause : Cause) {s : State} (h : s.mon.formed) : (s.clearCond k cause).mon.formed := by
  unfold State.clearCond
  split
  next => exact State.offer_formed (s := (s.setMon (s.mon.unmark k).formFaultn).setMon _) rfl
  next => exact h

theorem State.declareCond_formed (k : Kind) (cause : Cause) {s : State} (h : s.mon.formed) : (s.declareCond k cause).mon.formed := by
  unfold State.declareCond
  split
  next => exact h
  next => exact State.offer_formed (s := (s.setMon (s.mon.mark k).formFaultn).setMon _) rfl

theorem State.tellMonitor_formed (st : StationState) (s : State) : (s.tellMonitor st).mon.formed :=
  State.offer_formed (s := s.setMon _) rfl

/-- Between two states the monitor's record moved in its reports, its counts, SLOT STARVED and FAULTN alone, and FAULTN stays as R146
gives it. -/
structure MonKept (s t : State) : Prop where
  formed : s.mon.formed → t.mon.formed
  told : t.mon.told = s.mon.told
  listening : t.mon.listeningReached = s.mon.listeningReached
  declared : ∀ k, k ≠ .slotStarved → t.mon.isDeclared k = s.mon.isDeclared k

theorem MonKept.of_mon {s t : State} (h : t.mon = s.mon) : MonKept s t :=
  ⟨fun hs => h.symm ▸ hs, congrArg _ h, congrArg _ h, fun k _ => congrArg (Monitor.isDeclared k) h⟩

theorem MonKept.refl (s : State) : MonKept s s := .of_mon rfl

theorem MonKept.trans {s t u : State} (h : MonKept s t) (k : MonKept t u) : MonKept s u :=
  ⟨fun hs => k.formed (h.formed hs), k.told.trans h.told, k.listening.trans h.listening, fun c hc => (k.declared c hc).trans (h.declared c hc)⟩

/-- The record is kept up to what follows on a state with the same record. -/
theorem MonKept.of_eq {s t u : State} (h : t.mon = s.mon) (k : MonKept t u) : MonKept s u := (MonKept.of_mon h).trans k

/-- What follows on a kept record and does not touch the monitor. -/
theorem MonKept.then {s t u : State} (h : MonKept s t) (k : u.mon = t.mon) : MonKept s u := h.trans (.of_mon k)

theorem State.offer_monKept (s : State) : MonKept s s.offer := ⟨State.offer_formed, by simp, by simp, by simp⟩

theorem State.clearStarved_monKept (s : State) : MonKept s s.clearStarved := by
  refine ⟨State.clearCond_formed _ _, State.clearCond_told _ _ s, ?_, fun k hk => ?_⟩
  · unfold State.clearStarved State.clearCond
    split
    next => rw [State.place_listeningReached]; rfl
    next => rfl
  · unfold State.clearStarved
    rw [State.clearCond_isDeclared]
    simp [hk]

theorem State.cancelPlan_monKept (s : State) : MonKept s s.cancelPlan := .of_eq (by simp) (State.clearStarved_monKept _)

theorem State.giveRequest_monKept (owner : Owner) (p : Option Pattern) (s : State) : MonKept s (s.giveRequest owner p) := by
  unfold State.giveRequest
  dsimp only
  split
  next => exact .of_mon (by simp)
  next =>
    split
    next => exact .of_mon (by simp)
    next => exact .of_eq (by simp) (State.cancelPlan_monKept _)

theorem State.settle_monKept (s : State) : MonKept s s.settle := State.giveRequest_monKept _ _ s

theorem State.cancelRequest_monKept (s : State) : MonKept s s.cancelRequest := by
  unfold State.cancelRequest
  split
  next => exact .of_eq (by simp) (State.cancelPlan_monKept _)
  next => exact .refl s

theorem State.withdrawNotice_monKept (s : State) : MonKept s s.withdrawNotice :=
  .of_eq (by simp) (State.settle_monKept _)

theorem State.withdraw_monKept (lockout : Bool) (s : State) : MonKept s (s.withdraw lockout) := by
  have hcleared : MonKept s (s.setMap s.map.emptied).clearStarved := .of_eq (by simp) (State.clearStarved_monKept _)
  exact (hcleared.then (by simp)).trans (State.withdrawNotice_monKept _)

theorem State.engineRebuild_monKept (s : State) : MonKept s s.engineRebuild := .of_eq (by simp) (State.settle_monKept _)

theorem State.engineListen_monKept (s : State) : MonKept s s.engineListen := .of_eq (by simp) (State.settle_monKept _)

theorem State.engineLockout_monKept (s : State) : MonKept s s.engineLockout := by
  let released := (s.setEngine { s.engine with tripRest := false, committedInRest := false, restThisSlot := false }).discardPrepared
  have hbuilt : s.engineLockout.mon = released.cancelRequest.mon := by simp [State.engineLockout, released]
  have hreleased : released.mon = s.mon := by simp [released]
  exact .of_eq hreleased ((State.cancelRequest_monKept released).then hbuilt)

theorem State.leaveFlight_monKept (s : State) : MonKept s s.leaveFlight :=
  .of_eq (by rfl) ((State.offer_monKept (s.setBus s.bus.clearFlight)).then (by rfl))

theorem State.busLeaveJoined_monKept (s : State) : MonKept s s.busLeaveJoined := by
  unfold State.busLeaveJoined
  dsimp only
  split
  next =>
    split
    next =>
      split
      next => exact .of_mon (by simp)
      next => exact .of_eq (by rfl) (State.leaveFlight_monKept _)
    next =>
      split
      next => exact .of_eq (by simp) (State.offer_monKept _)
      next => exact .of_mon (by simp)
  next =>
    split
    next => exact .of_eq (by simp) (State.offer_monKept _)
    next => exact .of_mon (by simp)

theorem State.dropClaims_monKept (s : State) : MonKept s s.dropClaims := by
  unfold State.dropClaims
  split
  next => exact State.busLeaveJoined_monKept s
  next =>
    have hcleared : MonKept s (s.setMap s.map.emptied).clearStarved := .of_eq (by simp) (State.clearStarved_monKept _)
    have hleft := hcleared.trans (State.busLeaveJoined_monKept _)
    exact (hleft.then (by simp)).trans (State.withdrawNotice_monKept _)

/-- The loss of JOINED tells the monitor of LISTENING, and otherwise keeps its record (R170). -/
theorem State.loseJoined_monKept (s : State) :
    MonKept (((s.setStanding .listening none).clearAligned).tellMonitor .listening) s.loseJoined :=
  (State.dropClaims_monKept _).trans (State.engineRebuild_monKept _)

end Sys2Proof.Machine
end

section
/-! PROOFS. Measured edges, the slot timer and the loss of the reference (R3 to R9). -/

namespace Sys2Proof.Machine

open Sys2Proof

/-! ### The notices of a lock -/

/-- An owed taking that needs no other one is that block's operation, whatever else is owed (log 23). -/
theorem State.takeTask_of_owed {s : State} {t : Task} (ht : t ∈ s.boundary.owed) (hneeds : taskNeeds t = []) :
    s.takeTask t = (runTask t (s.setBoundary (s.boundary.paid t))).flushClaim :=
  State.takeTask_of_met ht fun x hx => by simp [hneeds] at hx

theorem State.takeTasks_cons (t : Task) (ts : List Task) (s : State) : s.takeTasks (t :: ts) = (s.takeTask t).takeTasks ts := rfl

/-- The notices of a gained lock set reference locked and start the join count in LISTENING, and clear REFERENCE LOST (R169). -/
theorem State.endSlot_lockGained (next : Clock × Bool) (df : Bool) (s : State) :
    (s.endSlot next [.lockGainedStation, .lockGainedMonitor] [.lockGainedStation, .lockGainedMonitor] df).station
        = { s.station with
            refLocked := true, joinCount := if s.station.state = .listening then some 0 else s.station.joinCount }
      ∧ (s.endSlot next [.lockGainedStation, .lockGainedMonitor] [.lockGainedStation, .lockGainedMonitor] df).mon.isDeclared
          .referenceLost = false := by
  unfold State.endSlot
  have hclosed : (s.closeSlot next [.lockGainedStation, .lockGainedMonitor] df).station = s.station := rfl
  have howed : (s.closeSlot next [.lockGainedStation, .lockGainedMonitor] df).boundary.owed
      = [.lockGainedStation, .lockGainedMonitor] ++ boundaryTasks next.2 := rfl
  generalize s.closeSlot next [.lockGainedStation, .lockGainedMonitor] df = u at hclosed howed ⊢
  have hfirst := State.takeTask_of_owed (s := u) (t := .lockGainedStation) (by simp [howed]) rfl
  have hsecond := State.takeTask_of_owed (s := u.takeTask .lockGainedStation) (t := .lockGainedMonitor)
    (by simp [hfirst, runTask, State.lockGained, Boundary.paid, howed]) rfl
  simp only [State.takeTasks_cons, hsecond]
  simp [State.takeTasks, hfirst, runTask, State.lockGained, hclosed, State.clearCond_isDeclared, Kind.sticky]

/-- The notice of a lost lock clears reference locked, and ends the join count in LISTENING (R169, R170). -/
theorem State.endSlot_lockLost (next : Clock × Bool) (df : Bool) (s : State) :
    (s.endSlot next [.lockLost] [.lockLost] df).station
      = { s.station with
          refLocked := false, joinCount := if s.station.state = .listening then none else s.station.joinCount } := by
  unfold State.endSlot
  have hclosed : (s.closeSlot next [.lockLost] df).station = s.station := rfl
  have howed : (s.closeSlot next [.lockLost] df).boundary.owed = .lockLost :: boundaryTasks next.2 := rfl
  generalize s.closeSlot next [.lockLost] df = u at hclosed howed ⊢
  have hfirst := State.takeTask_of_owed (s := u) (t := .lockLost) (by simp [howed]) rfl
  simp [State.takeTasks, hfirst, runTask, State.lockLost, hclosed]

/-! ### Measured edges (R3, R6, R7) -/

theorem Thresholds.inTolerance_iff (h : Thresholds) (elapsed : Instant) :
    h.inTolerance elapsed = true ↔ h.bandLow ≤ elapsed ∧ elapsed ≤ h.bandHigh := by
  simp [Thresholds.inTolerance]

/-- In UNLOCKED the eighth edge in tolerance in a row locks (R6). -/
theorem Clock.edgeUnlocked_eq (h : Thresholds) (elapsed : Instant) (c : Clock) :
    c.edgeUnlocked h elapsed =
      let good := h.bandLow ≤ elapsed ∧ elapsed ≤ h.bandHigh
      let locks := good ∧ c.goodRun = 7
      ({ c with
          lock := if locks then .locked else c.lock
          goodRun := if locks then 0 else if good then c.goodRun + 1 else 0
          slotLength := if locks then slotLengthOf h (elapsed / 10) else c.slotLength },
        if locks then [.lockGainedStation, .lockGainedMonitor] else []) := by
  unfold Clock.edgeUnlocked
  have htolerance := h.inTolerance_iff elapsed
  by_cases hgood : h.bandLow ≤ elapsed ∧ elapsed ≤ h.bandHigh
  · rw [if_pos (htolerance.mpr hgood)]
    by_cases hrun : c.goodRun = 7 <;> simp [hgood, hrun]
  · rw [if_neg fun h => hgood (htolerance.mp h)]
    simp [hgood]

/-- In LOCKED the fourth edge out of tolerance in a row unlocks (R7); the slot length follows every other (R3). -/
theorem Clock.edgeLocked_eq (h : Thresholds) (elapsed : Instant) (c : Clock) :
    c.edgeLocked h elapsed =
      let good := h.bandLow ≤ elapsed ∧ elapsed ≤ h.bandHigh
      let unlocks := ¬good ∧ c.badRun = 3
      ({ c with
          lock := if unlocks then .unlocked else c.lock
          badRun := if good ∨ c.badRun = 3 then 0 else c.badRun + 1
          slotLength := if unlocks then h.nominalSlot else slotLengthOf h (elapsed / 10) },
        if unlocks then [.lockLost] else []) := by
  unfold Clock.edgeLocked
  have htolerance := h.inTolerance_iff elapsed
  by_cases hgood : h.bandLow ≤ elapsed ∧ elapsed ≤ h.bandHigh
  · rw [if_pos (htolerance.mpr hgood)]
    simp [hgood]
  · rw [if_neg fun h => hgood (htolerance.mp h)]
    by_cases hrun : c.badRun = 3 <;> simp [hgood, hrun]

/-- A measured edge ends the slot in progress (R4). -/
theorem State.refinEdge_of_measured {s : State} (hclock : s.clock.held = false) {e : Instant} (he : s.clock.lastEdge = some e)
    (hlow : s.limits.glitch ≤ s.now - e) (hhigh : s.now - e ≤ s.limits.loss) (ord : List Task) (df : Bool) :
    s.refinEdge ord df
      = s.drain.endSlot (s.drain.clock.acceptEdge s.drain.limits s.drain.now (.measured (s.now - e))).1.placeAfterEdge
        (s.drain.clock.acceptEdge s.drain.limits s.drain.now (.measured (s.now - e))).2 ord df :=
  State.refinEdge_ended hclock (Clock.classify_of_measured he hlow hhigh) nofun ord df

/-- With nothing owed of the boundary before, the edge's notices are those of the clock that stood. -/
theorem State.refinEdge_of_measured_undrained {s : State} (hclock : s.clock.held = false) {e : Instant}
    (he : s.clock.lastEdge = some e) (hlow : s.limits.glitch ≤ s.now - e) (hhigh : s.now - e ≤ s.limits.loss)
    (howed : s.boundary.owed = []) (ord : List Task) (df : Bool) :
    s.refinEdge ord df
      = s.endSlot (s.clock.acceptEdge s.limits s.now (.measured (s.now - e))).1.placeAfterEdge
        (s.clock.acceptEdge s.limits s.now (.measured (s.now - e))).2 ord df := by
  rw [State.refinEdge_of_measured hclock he hlow hhigh, State.drain_of_owed_nil howed]

/-- Settles O6, by the lock state in which the edge is measured. -/
theorem refinMeasuredEdge : Obligations.RefinMeasuredEdge := by
  refine ⟨?unlocked, ?locked⟩
  case unlocked =>
    intro s t ord df e hrun hlock he hlow hhigh good locks
    have haccept : (s.advance t).clock.acceptEdge (s.advance t).limits (s.advance t).now (.measured ((s.advance t).now - e))
        = (s.clock.measure (s.at t) (s.at t - e)).edgeUnlocked s.limits (s.at t - e) := Clock.acceptEdge_of_unlocked hlock _ _ _
    have hended := State.refinEdge_of_measured (s := s.advance t) hrun.2 he hlow hhigh ord df
    have hundrained := State.refinEdge_of_measured_undrained (s := s.advance t) hrun.2 he hlow hhigh
    have hslotEnd := (s.advance t).endSlot_of_edge (.measured ((s.advance t).now - e)) ord df
    rw [haccept, Clock.edgeUnlocked_eq] at hslotEnd
    rw [exec_refinEdge hrun]
    refine ⟨_, rfl, ?_⟩
    obtain ⟨hpending, hnow, hcore, hslot, howed⟩ := hended ▸ hslotEnd
    refine ⟨hpending, hnow, hcore.trans ?_, hslot, howed, fun hlocks hnone hord => ?_⟩
    · rw [← hlock]; rfl
    · have hgained : ((s.clock.measure (s.at t) (s.at t - e)).edgeUnlocked s.limits (s.at t - e)).2
          = [.lockGainedStation, .lockGainedMonitor] := by
        rw [Clock.edgeUnlocked_eq]
        exact if_pos hlocks
      rw [hundrained hnone ord df, haccept, hgained, hord]
      exact State.endSlot_lockGained _ df (s.advance t)
  case locked =>
    intro s t ord df e hrun hlock he hlow hhigh good unlocks
    have haccept : (s.advance t).clock.acceptEdge (s.advance t).limits (s.advance t).now (.measured ((s.advance t).now - e))
        = (s.clock.measure (s.at t) (s.at t - e)).edgeLocked s.limits (s.at t - e) := Clock.acceptEdge_of_locked hlock _ _ _
    have hended := State.refinEdge_of_measured (s := s.advance t) hrun.2 he hlow hhigh ord df
    have hundrained := State.refinEdge_of_measured_undrained (s := s.advance t) hrun.2 he hlow hhigh
    have hslotEnd := (s.advance t).endSlot_of_edge (.measured ((s.advance t).now - e)) ord df
    rw [haccept, Clock.edgeLocked_eq] at hslotEnd
    rw [exec_refinEdge hrun]
    refine ⟨_, rfl, ?_⟩
    obtain ⟨hpending, hnow, hcore, hslot, howed⟩ := hended ▸ hslotEnd
    refine ⟨hpending, hnow, hcore.trans ?_, hslot, howed, fun hunlocks hnone hord => ?_⟩
    · rw [← hlock]; rfl
    · have hlost : ((s.clock.measure (s.at t) (s.at t - e)).edgeLocked s.limits (s.at t - e)).2 = [.lockLost] := by
        rw [Clock.edgeLocked_eq]
        exact if_pos hunlocks
      rw [hundrained hnone ord df, haccept, hlost, hord]
      exact State.endSlot_lockLost _ df (s.advance t)

end Sys2Proof.Machine
end

section
/-! PROOFS. The slot timer and the loss of the reference (R4, R5, R7 to R9). -/

namespace Sys2Proof.Machine

open Sys2Proof

/-! ### The slot timer (R4) -/

theorem exec_slotTimerExpiry {s : State} (hrun : s.clockRuns) (t : Instant) (ord : List Task) (df : Bool) :
    exec (.slotTimerExpiry t ord df) s = .next ((s.advance t).slotTimer ord df) :=
  congrArg Host.Outcome.next (State.unlessHeld_of_running hrun.1 _)

theorem Clock.timerDue_iff (t : Instant) (c : Clock) : c.timerDue t = true ↔ c.slotStart + c.slotLength ≤ t := by
  simp [Clock.timerDue]

theorem Clock.endsPeriod_iff (c : Clock) : c.endsPeriod = true ↔ c.sip = 15 ∧ c.lastEdge = none := by
  simp [Clock.endsPeriod]

theorem State.slotTimer_of_undue {s : State} (h : s.clock.timerDue s.now = false) (ord : List Task) (df : Bool) :
    s.slotTimer ord df = s := by
  unfold State.slotTimer
  exact if_pos (.inr h)

/-- A stretched slot 15 waits for its edge (R4). -/
theorem State.slotTimer_of_stretched {s : State} (hsip : s.clock.sip = 15) (hedge : s.clock.lastEdge ≠ none) (ord : List Task)
    (df : Bool) : s.slotTimer ord df = s := by
  have hperiod : s.clock.endsPeriod = false := Bool.eq_false_iff.mpr fun h => hedge ((Clock.endsPeriod_iff _).mp h).2
  unfold State.slotTimer
  generalize s.drain = u
  split
  next => rfl
  next => rw [if_neg (by omega), if_neg (Bool.eq_false_iff.mp hperiod)]

theorem State.slotTimer_of_due {s : State} (hclock : s.clock.held = false) (hdue : s.clock.timerDue s.now = true)
    (hsip : s.clock.sip < 15) (ord : List Task) (df : Bool) :
    s.slotTimer ord df = s.drain.endSlot ({ s.drain.clock with sip := s.drain.clock.sip + 1 }, false) [] ord df := by
  unfold State.slotTimer
  generalize s.drain = u
  rw [if_neg (by simp [hclock, hdue]), if_pos hsip]

theorem State.slotTimer_of_periodEnd {s : State} (hclock : s.clock.held = false) (hdue : s.clock.timerDue s.now = true)
    (hsip : s.clock.sip = 15) (hedge : s.clock.lastEdge = none) (ord : List Task) (df : Bool) :
    s.slotTimer ord df = s.endPeriod ord df := by
  unfold State.slotTimer
  generalize s.endPeriod ord df = v
  generalize s.drain = u
  rw [if_neg (by simp [hclock, hdue]), if_neg (by omega), if_pos ((Clock.endsPeriod_iff _).mpr ⟨hsip, hedge⟩)]

/-- A slot before slot 15 ends at its timer and takes the next place of the period (R4). -/
theorem State.slotTimer_ended {s : State} (hclock : s.clock.held = false) (hdue : s.clock.timerDue s.now = true)
    (hsip : s.clock.sip < 15) (ord : List Task) (df : Bool) :
    EndedAt s s.now { s.clock with sip := s.clock.sip + 1, slotStart := s.now } false [] ord (s.slotTimer ord df) := by
  obtain ⟨a, tr, hc⟩ := s.drain_clock
  rw [State.slotTimer_of_due hclock hdue hsip]
  rw [hc]
  exact State.drained_endSlot s (_, false) [] ord df _ rfl

/-- The period end counts in HOLDOVER, before the eighth (R8). -/
theorem Clock.periodEnd_of_early {c : Clock} (h : ¬(c.lock = .holdover ∧ c.holdoverCount = 7)) (l : Thresholds) :
    c.periodEnd l = ({ c with holdoverCount := if c.lock = .holdover then c.holdoverCount + 1 else c.holdoverCount }, []) := by
  unfold Clock.periodEnd
  by_cases hlock : c.lock = .holdover
  · have hcount : c.holdoverCount ≠ 7 := fun hc => h ⟨hlock, hc⟩
    simp [hlock, hcount]
  · simp [hlock]

/-- The eighth period end in HOLDOVER loses the reference (R8). -/
theorem Clock.periodEnd_of_eighth {c : Clock} (hlock : c.lock = .holdover) (hcount : c.holdoverCount = 7) (l : Thresholds) :
    c.periodEnd l = ({ c with lock := .unlocked, holdoverCount := 0, slotLength := l.nominalSlot },
      [.refLostMonitor, .refLostStation, .refLostDose, .refLostMap]) := by
  unfold Clock.periodEnd
  simp [hlock, hcount]

/-- Settles O7, by what the timer meets: nothing due, a slot before the last, or a period end. -/
theorem slotTimerEndsSlots : Obligations.SlotTimerEndsSlots := by
  intro s t ord df hrun due
  have hdue : due → (s.advance t).clock.timerDue (s.advance t).now = true := (Clock.timerDue_iff _ _).mpr
  rw [exec_slotTimerExpiry hrun]
  refine ⟨fun hnothing => ?nothing, fun h hsip => ⟨_, rfl, ?slot⟩, fun h hsip hedge hearly => ⟨_, rfl, ?period⟩⟩
  case nothing =>
    rcases hnothing with hundue | ⟨hsip, hedge⟩
    · have hfalse : (s.advance t).clock.timerDue (s.advance t).now = false :=
        Bool.eq_false_iff.mpr fun h => hundue ((Clock.timerDue_iff _ _).mp h)
      rw [State.slotTimer_of_undue hfalse]
      rfl
    · rw [State.slotTimer_of_stretched (s := s.advance t) hsip hedge]
      rfl
  case slot => exact State.slotTimer_ended (s := s.advance t) hrun.2 (hdue h) hsip ord df
  case period =>
    have hended := (s.advance t).endPeriod_ended ord df
    rw [Clock.periodEnd_of_early (c := (s.advance t).clock) hearly] at hended
    rw [State.slotTimer_of_periodEnd (s := s.advance t) hrun.2 (hdue h) hsip hedge]
    exact hended

/-! ### The loss limit (R5, R7) -/

theorem exec_lossLimitExpiry {s : State} (hrun : s.clockRuns) (t : Instant) (ord : List Task) (df : Bool) :
    exec (.lossLimitExpiry t ord df) s = .next ((s.advance t).lossLimit ord df) :=
  congrArg Host.Outcome.next (State.unlessHeld_of_running hrun.1 _)

theorem Clock.lossDue_iff (h : Thresholds) (t : Instant) (c : Clock) :
    c.lossDue h t = true ↔ ∃ e, c.lastEdge = some e ∧ e + h.loss ≤ t ∧ c.sip = 15 := by
  unfold Clock.lossDue
  cases c.lastEdge with
  | none => simp
  | some e => simp

theorem State.lossLimit_of_undue {s : State} (h : s.clock.lossDue s.limits s.now = false) (ord : List Task) (df : Bool) :
    s.lossLimit ord df = s := by
  unfold State.lossLimit
  generalize s.drain = u
  exact if_neg fun hboth => Bool.eq_false_iff.mp h hboth.2

/-- The loss of the edge reads and moves neither the aligned flag nor the tracker. -/
theorem Clock.loseEdge_of_marks (c : Clock) (a : Bool) (tr : List Disagreement) :
    ({ c with aligned := a, tracker := tr } : Clock).loseEdge = { c.loseEdge with aligned := a, tracker := tr } := rfl

theorem State.lossLimit_ended {s : State} (hclock : s.clock.held = false) (hdue : s.clock.lossDue s.limits s.now = true)
    (ord : List Task) (df : Bool) :
    EndedAt s s.now { s.clock.loseEdge with sip := 0, pif := (s.clock.pif + 1) % 4, slotStart := s.now } (s.clock.pif == 3) []
      ord (s.lossLimit ord df) := by
  obtain ⟨a, tr, hc⟩ := s.drain_clock
  have htaken : s.lossLimit ord df = s.drain.endSlot s.drain.clock.loseEdge.nextPeriod [] ord df := by
    unfold State.lossLimit
    generalize s.drain = u
    exact if_pos ⟨hclock, hdue⟩
  rw [htaken, hc, Clock.loseEdge_of_marks, Clock.nextPeriod_eq]
  exact State.drained_endSlot s (_, _) [] ord df _ rfl

/-! ### The end of HOLDOVER (R8, R170) -/

theorem exec_holdoverExpiry {s : State} (hrun : s.clockRuns) (t : Instant) (ord : List Task) (df : Bool) :
    exec (.holdoverExpiry t ord df) s = .next ((s.advance t).holdoverExpiry ord df) :=
  congrArg Host.Outcome.next (State.unlessHeld_of_running hrun.1 _)

theorem State.holdoverExpiry_of_eighth {s : State} (hclock : s.clock.held = false) (hdue : s.clock.timerDue s.now = true)
    (hsip : s.clock.sip = 15) (hedge : s.clock.lastEdge = none) (hlock : s.clock.lock = .holdover)
    (hcount : s.clock.holdoverCount = 7) (ord : List Task) (df : Bool) : s.holdoverExpiry ord df = s.endPeriod ord df := by
  have hends : s.clock.holdoverEnds = true := by
    simp [Clock.holdoverEnds, hlock, hcount, (Clock.endsPeriod_iff _).mpr ⟨hsip, hedge⟩]
  unfold State.holdoverExpiry
  generalize s.endPeriod ord df = v
  exact if_pos ⟨hclock, hdue, hends⟩

/-- A reference lost clears reference locked, and moves JOINED to LISTENING with no join count (R170). -/
theorem State.refLost_station (s : State) :
    s.refLost.station.refLocked = false
      ∧ (s.station.state = .joined → s.refLost.station.state = .listening ∧ s.refLost.station.joinCount = none) := by
  unfold State.refLost
  dsimp only
  by_cases hjoined : s.station.state = .joined
  · have hstill : s.lockLost.station.state = .joined := hjoined
    rw [if_pos hstill]
    simp [State.loseJoined, State.lockLost, State.setStanding, State.clearAligned]
  · have hstill : ¬s.lockLost.station.state = .joined := hjoined
    rw [if_neg hstill]
    exact ⟨rfl, fun h => absurd h hjoined⟩

theorem State.refLost_isDeclared (k : Kind) (hk : k ≠ .slotStarved) (s : State) :
    s.refLost.mon.isDeclared k = s.mon.isDeclared k := by
  unfold State.refLost
  dsimp only
  split
  next =>
    rw [(State.loseJoined_monKept _).declared k hk, State.tellMonitor_isDeclared]
    rfl
  next => rfl

theorem ZoneFlag.bit_lt (f : ZoneFlag) : f.bit < 16 := by cases f <;> decide

theorem OpenRecord.has_set (f : ZoneFlag) (r : OpenRecord) : (r.set f).has f = true := by
  simp [OpenRecord.has, OpenRecord.set, ZoneFlag.mask, BitVec.getLsbD_or, BitVec.getLsbD_twoPow, f.bit_lt]

theorem State.flagAll_has (f : ZoneFlag) (s : State) : ∀ r ∈ (s.flagAll f).dose.records, r.has f = true := by
  intro r hr
  obtain ⟨x, _, rfl⟩ := List.mem_map.mp hr
  exact OpenRecord.has_set f x

theorem State.loseJoined_live (s : State) : s.loseJoined.map.live = s.map.live := by
  unfold State.loseJoined State.dropClaims
  split <;> simp [SlotMap.emptied]

theorem State.refLost_live (s : State) : s.refLost.map.live = s.map.live := by
  unfold State.refLost
  dsimp only
  split
  next => rw [State.loseJoined_live]; rfl
  next => rfl

/-- What a block's taking leaves owed, where it does not touch the boundary. -/
theorem State.takeTask_owed {s : State} {t : Task} (ht : t ∈ s.boundary.owed) (hneeds : taskNeeds t = [])
    (hleaves : ∀ u : State, (runTask t u).boundary = u.boundary) :
    (s.takeTask t).boundary.owed = s.boundary.owed.filter fun x => x != t := by
  rw [State.takeTask_of_owed ht hneeds]
  simp [hleaves, Boundary.paid]

theorem State.refLostMonitor_taken {s : State} (ht : .refLostMonitor ∈ s.boundary.owed) :
    (s.takeTask .refLostMonitor).mon.isDeclared .referenceLost = true
      ∧ (s.takeTask .refLostMonitor).station = s.station ∧ (s.takeTask .refLostMonitor).map.live = s.map.live
      ∧ (s.takeTask .refLostMonitor).boundary.owed = s.boundary.owed.filter fun x => x != .refLostMonitor := by
  refine ⟨?_, ?_, ?_, State.takeTask_owed ht rfl fun u => by simp [runTask]⟩ <;>
    rw [State.takeTask_of_owed ht rfl] <;> simp [runTask, State.declareCond_isDeclared]

theorem State.refLostStation_taken {s : State} (ht : .refLostStation ∈ s.boundary.owed) :
    (∀ k, k ≠ .slotStarved → (s.takeTask .refLostStation).mon.isDeclared k = s.mon.isDeclared k)
      ∧ (s.takeTask .refLostStation).station.refLocked = false
      ∧ (s.station.state = .joined →
        (s.takeTask .refLostStation).station.state = .listening ∧ (s.takeTask .refLostStation).station.joinCount = none)
      ∧ (s.takeTask .refLostStation).map.live = s.map.live
      ∧ (s.takeTask .refLostStation).boundary.owed = s.boundary.owed.filter fun x => x != .refLostStation := by
  have howed := State.takeTask_owed ht rfl fun u => by simp [runTask]
  have hstation := (s.setBoundary (s.boundary.paid .refLostStation)).refLost_station
  rw [State.takeTask_of_owed ht rfl] at howed ⊢
  refine ⟨fun k hk => ?_, ?_, fun h => ?_, ?_, howed⟩
  · simp [runTask, State.refLost_isDeclared k hk]
  · simpa [runTask] using hstation.1
  · simpa [runTask] using hstation.2 h
  · simp [runTask, State.refLost_live]

theorem State.refLostDose_taken {s : State} (ht : .refLostDose ∈ s.boundary.owed) :
    (∀ k, (s.takeTask .refLostDose).mon.isDeclared k = s.mon.isDeclared k)
      ∧ (s.takeTask .refLostDose).station = s.station
      ∧ (∀ r ∈ (s.takeTask .refLostDose).dose.records, r.has .slotLost = true)
      ∧ (s.takeTask .refLostDose).map.live = s.map.live
      ∧ (s.takeTask .refLostDose).boundary.owed = s.boundary.owed.filter fun x => x != .refLostDose := by
  have howed := State.takeTask_owed ht rfl fun u => by simp [runTask]
  have hlost := (s.setBoundary (s.boundary.paid .refLostDose)).flagAll_has .slotLost
  rw [State.takeTask_of_owed ht rfl] at howed ⊢
  refine ⟨fun k => ?_, ?_, ?_, ?_, howed⟩
  · simp [runTask]
  · simp [runTask]
  · simpa [runTask] using hlost
  · simp [runTask]

theorem State.refLostMap_taken {s : State} (ht : .refLostMap ∈ s.boundary.owed) :
    (∀ k, k ≠ .slotStarved → (s.takeTask .refLostMap).mon.isDeclared k = s.mon.isDeclared k)
      ∧ (s.takeTask .refLostMap).station = s.station ∧ (s.takeTask .refLostMap).dose = s.dose
      ∧ (s.map.live = true → (s.takeTask .refLostMap).map.active = none ∧ (s.takeTask .refLostMap).map.pending = none) := by
  rw [State.takeTask_of_owed ht rfl]
  refine ⟨fun k hk => ?_, ?_, ?_, fun hlive => ?_⟩
  · by_cases hlive : s.map.live = true
    · simp [runTask, State.refLostMap, hlive, (State.withdraw_monKept false _).declared k hk]
    · simp [runTask, State.refLostMap, hlive]
  · simp [runTask]
  · simp [runTask]
  · simp [runTask, State.refLostMap, hlive, State.withdraw_active, State.withdraw_pending]

/-- The four notices of a reference loss (R8). -/
def refLostNotices : List Task := [.refLostMonitor, .refLostStation, .refLostDose, .refLostMap]

/-- What the four notices leave, taken in their order at a boundary with nothing owed before (R8, R83, R128, R170). -/
theorem State.endSlot_refLost (next : Clock × Bool) (df : Bool) (s u : State)
    (hu : u = s.endSlot next refLostNotices refLostNotices df) :
    u.mon.isDeclared .referenceLost = true ∧ u.station.refLocked = false
      ∧ (s.station.state = .joined → u.station.state = .listening ∧ u.station.joinCount = none)
      ∧ (∀ r ∈ u.dose.records, r.has .slotLost = true)
      ∧ (s.map.live = true → u.map.active = none ∧ u.map.pending = none) := by
  unfold State.endSlot at hu
  have hstation : (s.closeSlot next refLostNotices df).station = s.station := rfl
  have hmap : (s.closeSlot next refLostNotices df).map = s.map := rfl
  have howed : (s.closeSlot next refLostNotices df).boundary.owed = refLostNotices ++ boundaryTasks next.2 := rfl
  generalize s.closeSlot next refLostNotices df = v at hu hstation hmap howed
  have hchain : u = (((v.takeTask .refLostMonitor).takeTask .refLostStation).takeTask .refLostDose).takeTask .refLostMap := hu
  obtain ⟨hmon₁, hstation₁, hlive₁, howed₁⟩ := v.refLostMonitor_taken (by simp [howed, refLostNotices])
  generalize v.takeTask .refLostMonitor = v₁ at *
  obtain ⟨hmon₂, hlocked₂, hjoined₂, hlive₂, howed₂⟩ := v₁.refLostStation_taken (by simp [howed₁, howed, refLostNotices])
  generalize v₁.takeTask .refLostStation = v₂ at *
  obtain ⟨hmon₃, hstation₃, hlost₃, hlive₃, howed₃⟩ :=
    v₂.refLostDose_taken (by simp [howed₂, howed₁, howed, refLostNotices])
  generalize v₂.takeTask .refLostDose = v₃ at *
  obtain ⟨hmon₄, hstation₄, hdose₄, hempty₄⟩ :=
    v₃.refLostMap_taken (by simp [howed₃, howed₂, howed₁, howed, refLostNotices])
  rw [hchain, hstation₄, hstation₃, hdose₄]
  refine ⟨?_, hlocked₂, fun h => hjoined₂ ?_, hlost₃, fun h => hempty₄ ?_⟩
  · rw [hmon₄ .referenceLost nofun, hmon₃, hmon₂ .referenceLost nofun, hmon₁]
  · rw [hstation₁, hstation, h]
  · rw [hlive₃, hlive₂, hlive₁, hmap, h]

/-- Settles O8: the loss limit ends a stretched slot 15, and the eighth period end in HOLDOVER loses the reference. -/
theorem lossOfTheReference : Obligations.LossOfTheReference := by
  refine ⟨fun s t ord df hrun => ?loss, fun s t ord df hrun htimer hsip hedge hlock hcount => ?holdover⟩
  case loss =>
    rw [exec_lossLimitExpiry hrun]
    refine ⟨fun hearly => ?early, fun e he hlate hsip => ⟨_, rfl, ?late⟩⟩
    case early =>
      have hundue : (s.advance t).clock.lossDue (s.advance t).limits (s.advance t).now = false := by
        refine Bool.eq_false_iff.mpr fun h => ?_
        obtain ⟨e, he, hlate, _⟩ := (Clock.lossDue_iff _ _ _).mp h
        exact Nat.not_lt.mpr hlate (hearly e he)
      rw [State.lossLimit_of_undue hundue]
      rfl
    case late =>
      have hdue : (s.advance t).clock.lossDue (s.advance t).limits (s.advance t).now = true :=
        (Clock.lossDue_iff _ _ _).mpr ⟨e, he, hlate, hsip⟩
      exact State.lossLimit_ended (s := s.advance t) hrun.2 hdue ord df
  case holdover =>
    have hdue : (s.advance t).clock.timerDue (s.advance t).now = true := (Clock.timerDue_iff _ _).mpr htimer
    have hended := (s.advance t).endPeriod_ended ord df
    have hperiod := Clock.periodEnd_of_eighth (c := (s.advance t).clock) hlock hcount (s.advance t).limits
    rw [hperiod] at hended
    rw [exec_holdoverExpiry hrun, State.holdoverExpiry_of_eighth (s := s.advance t) hrun.2 hdue hsip hedge hlock hcount]
    obtain ⟨hpending, hnow, hcore, hslot, howed⟩ := hended
    refine ⟨_, rfl, hpending, hnow, hcore, hslot, howed, fun hnone hord => ?_⟩
    refine State.endSlot_refLost ({ (s.advance t).clock with
      lock := .unlocked, holdoverCount := 0, slotLength := (s.advance t).limits.nominalSlot } : Clock).nextPeriod df
      (s.advance t) _ ?_
    unfold State.endPeriod
    rw [State.drain_of_owed_nil (s := s.advance t) hnone]
    dsimp only
    rw [hperiod, hord]
    rfl

end Sys2Proof.Machine
end

section
/-! PROOFS. Stamps: their verdicts, alignment, the disagreement tracker and slip (R10 to R14). -/

namespace Sys2Proof.Machine

open Sys2Proof

/-! ### Verdicts (R10) -/

theorem verdictOf_agree_iff {d : Nat} : verdictOf d = .agree ↔ d = 0 ∨ d = 1 := by
  unfold verdictOf
  (repeat' split) <;> simp <;> omega

theorem verdictOf_early_iff {d : Nat} : verdictOf d = .early ↔ d = 63 := by
  unfold verdictOf
  (repeat' split) <;> simp <;> omega

theorem verdictOf_reject_iff {d : Nat} (hd : d < 64) : verdictOf d = .reject ↔ 2 ≤ d % 16 ∧ d % 16 ≤ 14 := by
  unfold verdictOf
  (repeat' split) <;> simp <;> omega

theorem verdictOf_disagree_iff {d q : Nat} : verdictOf d = .disagree q ↔
    d ≠ 0 ∧ d ≠ 1 ∧ d ≠ 63 ∧ (d % 16 = 0 ∧ q = d ∨ d % 16 = 1 ∧ q = d - 1 ∨ d % 16 = 15 ∧ q = (d + 1) % 64) := by
  unfold verdictOf
  (repeat' split) <;> simp <;> omega

/-- Settles O9: the classes of the offset, which is the difference of the two numbers modulo 64. -/
theorem stampVerdicts : Obligations.StampVerdicts := by
  intro own stamp hown hstamp
  refine ⟨stampOffset own stamp, stampOffset_lt own stamp, ?_, rfl, verdictOf_agree_iff, verdictOf_early_iff,
    verdictOf_reject_iff (stampOffset_lt own stamp), fun q => verdictOf_disagree_iff⟩
  unfold stampOffset
  omega

end Sys2Proof.Machine
end

section
/-! PROOFS. What the engine's operations make of its record: plan requests and the two contexts (R88, R89, R95 to R97). -/

namespace Sys2Proof.Machine

open Sys2Proof

/-! ### Plan requests move the owner and the request alone (R97) -/

theorem State.giveRequest_engine (owner : Owner) (p : Option Pattern) (s : State) :
    (s.giveRequest owner p).engine = { s.engine with owner := owner, requested := p } := by
  unfold State.giveRequest
  dsimp only
  split
  next => rfl
  next => split <;> simp

theorem State.settle_engine (s : State) :
    s.settle.engine = { s.engine with owner := s.settled.1, requested := s.settled.2 } := State.giveRequest_engine _ _ s

@[simp] theorem State.settle_engine_active (s : State) : s.settle.engine.active = s.engine.active := by rw [State.settle_engine]

@[simp] theorem State.settle_engine_prepared (s : State) : s.settle.engine.prepared = s.engine.prepared := by
  rw [State.settle_engine]

/-! ### The ACTIVE context (R88, R89) -/

@[simp] theorem State.putActive_engine (c : Context) (s : State) : (s.putActive c).engine = { s.engine with active := c } := by
  simp [State.putActive]

theorem State.buildActive_engine (carrier : Option Nat) (s : State) :
    (s.buildActive carrier).engine
      = { s.engine with active := if s.engine.tripRest then Context.bare .rest carrier else s.contextFor carrier } := by
  unfold State.buildActive
  split <;> simp

/-- Without the own active part a context with reverse runs is FORWARD-ONLY (R89). -/
theorem State.decideMode_of_noPart {s : State} (hmap : s.map.active = none) {c : Context} {p : Pattern} (hp : c.pattern = some p) :
    s.decideMode c = { c with mode := .forwardOnly, offset := homeOffset s.cfg c.cycle, scale := 0, ceilings := [] } := by
  have hnone : s.usablePart p = none := by simp [State.usablePart, State.matching, hmap]
  unfold State.decideMode
  rw [hp]
  dsimp only
  rw [hnone]

theorem State.contextFor_of_recipe {s : State} (hstate : s.station.state.setpoints = true) {tag : Nat} {r : Recipe}
    (hr : s.carrierRecipe tag = some r) : s.contextFor (some tag) = s.recipeContext tag r := by
  unfold State.contextFor
  rw [if_pos hstate]
  dsimp only
  rw [hr]

/-- A carrier in the table that waits for no recipe is plated under the held recipe it names (R88). -/
theorem State.carrierRecipe_of_entry {s : State} {tag : Nat} {e : Entry} {k : Key} (he : s.entry? tag = some e)
    (hpending : e.recipePending = false) (hk : e.record.recipe = some k) :
    s.carrierRecipe tag = s.cache.recipe? k := by
  unfold State.carrierRecipe
  rw [State.carrier?_of_entry he]
  simp [hpending, State.recipeOf, hk]

/-- The context of a recipe with reverse runs while the own active part is gone: FORWARD-ONLY, under that recipe (R88, R89). -/
theorem State.recipeContext_of_noPart {s : State} (hmap : s.map.active = none) (carrier : Nat) {r : Recipe}
    (hp : r.pattern ≠ none) :
    (s.recipeContext carrier r).mode = .forwardOnly ∧ (s.recipeContext carrier r).carrier = some carrier
      ∧ (s.recipeContext carrier r).key = some r.key ∧ (s.recipeContext carrier r).pattern = r.pattern := by
  obtain ⟨p, hp⟩ := Option.ne_none_iff_exists'.mp hp
  unfold State.recipeContext
  rw [State.decideMode_of_noPart hmap hp]
  exact ⟨rfl, rfl, rfl, rfl⟩

/-! ### Slip as the engine takes it (R101) -/

theorem State.engineSlip_of_plain {s : State} (h : s.engine.active.pattern = none) : s.engineSlip = s := by
  unfold State.engineSlip
  exact if_neg (by simp [h])

theorem State.engineSlip_of_reverse {s : State} (h : s.engine.active.pattern ≠ none) (hrest : s.engine.tripRest = false) :
    s.engineSlip.engine.active = s.contextFor s.engine.active.carrier := by
  have hsome : s.engine.active.pattern.isSome = true := Option.isSome_iff_ne_none.mpr h
  unfold State.engineSlip
  rw [if_pos hsome, State.settle_engine_active, State.buildActive_engine]
  simp [hrest]

end Sys2Proof.Machine
end

section
/-! PROOFS. What the slot clock does with a peer's stamp (R10 to R14). -/

namespace Sys2Proof.Machine

open Sys2Proof

theorem State.judgeStamp_of_aligned {s : State} (h : s.clock.aligned = true) (address stamp : Nat) :
    s.judgeStamp address stamp
      = (s.trackVerdict address (verdictOf (stampOffset s.clock.slot stamp)), verdictOf (stampOffset s.clock.slot stamp)) :=
  if_pos h

theorem State.judgeStamp_of_unaligned {s : State} (h : s.clock.aligned = false) (address stamp : Nat) :
    s.judgeStamp address stamp
      = s.alignTo (verdictOf (stampOffset s.clock.slot stamp)) (stampOffset s.clock.slot stamp) :=
  if_neg (Bool.eq_false_iff.mp h)

@[simp] theorem State.renumber_leaves_map (q : Nat) (s : State) : (s.renumber q).map = s.map := rfl

@[simp] theorem State.renumber_clock (q : Nat) (s : State) : (s.renumber q).clock = s.clock.renumbered q := rfl

/-- What a slip leaves: the renumbered clock, no peer and no own part, a hold of at least 8, and SLOT LOST on every open record (R14). -/
theorem State.slip_spec (q : Nat) (s : State) :
    (s.slip q).clock = s.clock.renumbered q ∧ (s.slip q).map.peers = [] ∧ (s.slip q).map.active = none
      ∧ (s.slip q).map.pending = none ∧ (s.slip q).map.hold = max s.map.hold 8
      ∧ ∀ r ∈ (s.slip q).dose.records, r.has .slotLost = true := by
  have hlost := ((((s.renumber q).raise .slip .shift).mapSlip).engineSlip).flagAll_has .slotLost
  have hpending : ((s.renumber q).raise .slip .shift).mapSlip.map.pending = none := by
    simp [State.mapSlip, State.withdraw_pending]
  refine ⟨?_, ?_, ?_, ?_, ?_, hlost⟩
  · simp [State.slip]
  · simp [State.slip, State.mapSlip, State.withdraw, SlotMap.forgetPeers, SlotMap.emptied]
  · simp [State.slip, State.mapSlip, State.withdraw_active]
  · simp [State.slip, hpending]
  · simp [State.slip, State.mapSlip, State.withdraw, SlotMap.forgetPeers, SlotMap.emptied]

/-- Renumbered by the rounded offset, a disagreeing stamp is in step (R12). -/
theorem verdictOf_after_renumber {d q : Nat} (hd : d < 64) (h : verdictOf d = .disagree q) :
    verdictOf ((d + 64 - q) % 64) = .agree ∨ verdictOf ((d + 64 - q) % 64) = .early := by
  rw [verdictOf_agree_iff, verdictOf_early_iff]
  obtain ⟨h0, h1, h63, hround⟩ := verdictOf_disagree_iff.mp h
  omega

theorem Clock.slips_iff (q : Nat) (c : Clock) : c.slips q = true ↔ 3 ≤ (c.tracker.filter fun x => x.offset == q).length := by
  simp [Clock.slips]

/-- Settles O10: by the verdict, in an aligned and in an unaligned clock; and the engine's part of a slip. -/
theorem peerStampsAreJudged : Obligations.PeerStampsAreJudged := by
  refine ⟨?stamps, fun s => ⟨State.engineSlip_of_plain, ?engine⟩⟩
  case' stamps =>
    intro s address stamp d tracked
    have hverdict {v : Verdict} (h : verdictOf d = v) : verdictOf (stampOffset s.clock.slot stamp) = v := h
    refine ⟨fun haligned => ?aligned, fun hunaligned => ?unaligned⟩
  case aligned =>
    rw [State.judgeStamp_of_aligned haligned]
    refine ⟨fun h => ?agree, fun h => ?early, fun h => ?reject, fun q h => ⟨fun hfew => ?tracked, fun hthree => ?slip⟩⟩
    case agree => rw [hverdict h]; rfl
    case early => rw [hverdict h]; rfl
    case reject => rw [hverdict h]; rfl
    case tracked =>
      have hnoslip : ¬(s.clock.disagreed address q).slips q = true := fun hslips =>
        absurd ((Clock.slips_iff _ _).mp hslips) (Nat.not_le.mpr hfew)
      rw [hverdict h]
      exact congrArg (·, _) (if_neg hnoslip)
    case slip =>
      have hslips : (s.clock.disagreed address q).slips q = true := (Clock.slips_iff _ _).mpr hthree
      have htaken : s.trackVerdict address (.disagree q) = s.slip q := if_pos hslips
      rw [hverdict h]
      dsimp only
      rw [htaken]
      exact ⟨rfl, rfl, s.slip_spec q⟩
  case unaligned =>
    rw [State.judgeStamp_of_unaligned hunaligned]
    refine ⟨fun h => ?instep, fun h => ?reject, fun q h => ?disagree⟩
    case instep =>
      rcases h with h | h <;> rw [hverdict h] <;> rfl
    case reject => rw [hverdict h]; rfl
    case disagree =>
      rw [hverdict h]
      exact ⟨verdictOf_after_renumber (stampOffset_lt _ _) h, rfl, rfl⟩
  case engine =>
    intro hpattern hmap hstate hrest tag e k r hcarrier he hpending hk hr hreverse
    have hrecipe : s.carrierRecipe tag = some r := (State.carrierRecipe_of_entry he hpending hk).trans hr
    rw [State.engineSlip_of_reverse hpattern hrest, hcarrier, State.contextFor_of_recipe hstate hrecipe]
    exact State.recipeContext_of_noPart hmap tag hreverse

end Sys2Proof.Machine
end

section
/-! PROOFS. Reception on the zone bus: symbols, abandoned and complete frames, and the filter (R148, R156 to R163). -/

namespace Sys2Proof.Machine

open Sys2Proof

/-! ### The receiver's operations -/

/-- The state in which the line has been active to an instant (R148). -/
def State.busyTo (t : Instant) (s : State) : State := s.setBus { s.bus with lastActivity := some (s.quietFrom t) }

theorem State.activeUntil_of_on {s : State} (h : s.bus.rx ≠ .off) (t : Instant) : s.activeUntil t = s.busyTo t := if_neg h

theorem State.symbolActive_of_on {s : State} (h : s.bus.rx ≠ .off) : s.symbolActive = s.busyTo (s.now + symbolTime s.cfg.busRate) :=
  State.activeUntil_of_on h _

theorem State.lineActive_of_receiving {s : State} {r : Reception} (h : s.bus.rx = .receiving r) : s.lineActive = s.busyTo s.now := by
  unfold State.lineActive
  rw [h]
  exact State.activeUntil_of_on (by rw [h]; nofun) s.now

theorem State.lineActive_of_hunting {s : State} (h : s.bus.rx = .hunting) :
    s.lineActive = s.busyTo (s.now + symbolTime s.cfg.busRate) := by
  unfold State.lineActive
  rw [h]
  exact State.symbolActive_of_on (by rw [h]; nofun)

/-- A drop reports to the station controller on the internal loop, and else adds the fault (R156, R162, R163). -/
theorem State.dropRx_eq (k : RxFault) (s : State) :
    s.dropRx k =
      if s.bus.loop then
        { s with bus := { s.bus with rx := .hunting }, station := { s.station with selfFault := true } }
      else
        { s with
          bus :=
            { s.bus with
              rx := .hunting
              faults :=
                { check := s.bus.faults.check || k == .check, timeout := s.bus.faults.timeout || k == .timeout
                  overrun := s.bus.faults.overrun || k == .overrun, collisions := s.bus.faults.collisions } } } := by
  by_cases hloop : s.bus.loop = true
  · rw [if_pos hloop]
    exact if_pos hloop
  · have hother {a b : RxFault} (h : a ≠ b) : (a == b) = false := beq_false_of_ne h
    rw [if_neg hloop]
    refine (if_neg hloop).trans ?_
    cases k <;> simp [Faults.add, State.setBus, State.updateBus, Bus.hunt, hother]

theorem State.dropQuiet_eq (s : State) :
    s.dropQuiet = { s with
      bus := { s.bus with rx := .hunting }
      station := { s.station with selfFault := s.station.selfFault || s.bus.loop } } := by
  by_cases hloop : s.bus.loop = true
  · refine (if_pos hloop).trans ?_
    simp [State.selfFault, State.setBus, State.setStation, State.updateBus, Bus.hunt, hloop]
  · refine (if_neg hloop).trans ?_
    simp [State.setBus, State.updateBus, Bus.hunt, hloop]

theorem State.receiveStart_of_hunting {s : State} (h : s.bus.rx = .hunting) :
    s.receiveStart = s.setBus { s.bus with rx := .receiving ⟨[], s.now, s.bus.ownStart⟩, ownStart := false } := by
  unfold State.receiveStart
  rw [h]
  rfl

theorem State.receiveStart_of_receiving {s : State} {r : Reception} (h : s.bus.rx = .receiving r) :
    s.receiveStart = (s.dropRx .check).setBus
      { (s.dropRx .check).bus with
        rx := .receiving ⟨[], (s.dropRx .check).now, (s.dropRx .check).bus.ownStart⟩, ownStart := false } := by
  unfold State.receiveStart
  rw [h]
  rfl

theorem State.receiveData_of_hunting {s : State} (h : s.bus.rx = .hunting) (x : Byte) : s.receiveData x = s := by
  unfold State.receiveData
  rw [h]

/-- The receiver drops the frame at a data symbol that the frame does not expect, or with whose header its stated length is too great. -/
def Reception.refuses (x : Byte) (r : Reception) : Prop :=
  expectsData r.bytes = false ∨ (r.bytes.length = 5 ∧ 1200 < statedLength (r.bytes ++ [x]))

theorem State.receiveData_of_receiving {s : State} {r : Reception} (h : s.bus.rx = .receiving r) (x : Byte) :
    (r.refuses x → s.receiveData x = s.dropRx .check)
      ∧ (¬r.refuses x → s.receiveData x = s.setBus { s.bus with rx := .receiving { r with bytes := r.bytes ++ [x] } }) := by
  unfold State.receiveData Reception.refuses
  rw [h]
  dsimp only
  have hlong : (r.bytes ++ [x]).length = 6 ∧ 1200 < statedLength (r.bytes ++ [x])
      ↔ r.bytes.length = 5 ∧ 1200 < statedLength (r.bytes ++ [x]) := by simp
  by_cases hexpects : expectsData r.bytes = true
  · rw [if_pos hexpects]
    by_cases htoo : r.bytes.length = 5 ∧ 1200 < statedLength (r.bytes ++ [x])
    · rw [if_pos (hlong.mpr htoo)]
      exact ⟨fun _ => rfl, fun hnot => absurd (.inr htoo) hnot⟩
    · rw [if_neg fun h => htoo (hlong.mp h)]
      exact ⟨fun hrefuses => by simp [hexpects, htoo] at hrefuses, fun _ => rfl⟩
  · rw [if_neg hexpects]
    exact ⟨fun _ => rfl, fun hnot => absurd (.inl (Bool.eq_false_iff.mpr hexpects)) hnot⟩

theorem State.receiveEnd_of_hunting {s : State} (h : s.bus.rx = .hunting) (df : Bool) : s.receiveEnd df = s := by
  unfold State.receiveEnd
  rw [h]

theorem State.receiveEnd_of_bad {s : State} {r : Reception} (h : s.bus.rx = .receiving r)
    (hbad : expectsData r.bytes = true ∨ checkFrame s.bus.loop r.bytes = none) (df : Bool) : s.receiveEnd df = s.dropRx .check := by
  unfold State.receiveEnd
  rw [h]
  dsimp only
  by_cases hexpects : expectsData r.bytes = true
  · rw [if_pos hexpects]
  · rw [if_neg hexpects, hbad.resolve_left hexpects]

theorem State.receiveEnd_of_good {s : State} {r : Reception} {f : RxFrame} (h : s.bus.rx = .receiving r)
    (hexpects : expectsData r.bytes = false) (hf : checkFrame s.bus.loop r.bytes = some f) (df : Bool) :
    s.receiveEnd df = (s.setBus { s.bus with rx := .hunting }).deliver f r.own df := by
  unfold State.receiveEnd
  rw [h]
  dsimp only
  rw [if_neg (Bool.eq_false_iff.mp hexpects), hf]
  rfl

theorem State.receiveBad_of_hunting {s : State} (h : s.bus.rx = .hunting) : s.receiveBad = s := by
  unfold State.receiveBad
  rw [h]

theorem State.receiveBad_of_receiving {s : State} {r : Reception} (h : s.bus.rx = .receiving r) : s.receiveBad = s.dropQuiet := by
  unfold State.receiveBad
  rw [h]

theorem State.receiveSymbol_of_bad {x : Symbol} (hx : readSymbol x = .abort ∨ readSymbol x = .invalid) (df : Bool) (s : State) :
    s.receiveSymbol x df = s.lineActive.receiveBad := by
  unfold State.receiveSymbol
  rcases hx with hx | hx <;> rw [hx]

/-! ### What the receiver hears (R163) -/

theorem Bus.hears_of_receiving {b : Bus} {r : Reception} (h : b.rx = .receiving r) : b.hears = true := by
  simp [Bus.hears, h]

theorem Bus.hears_of_hunting {b : Bus} (h : b.rx = .hunting) : b.hears = true ↔ b.loop = false ∨ b.tx = .sending := by
  simp [Bus.hears, h]

/-- A symbol's command is the symbol as the receiver takes it, at the instant of the event. -/
theorem exec_symbol_of_heard {s : State} (hrun : s.running) (t : Instant) (hheard : s.bus.hears = true) (f : State → State) :
    s.unlessHeld (fun s => (s.advance t).ifHeard f) = f (s.advance t) := by
  rw [State.unlessHeld_of_running hrun]
  exact if_pos hheard

theorem exec_symbol_of_deaf {s : State} (hrun : s.running) (t : Instant) (hdeaf : ¬s.bus.hears = true) (f : State → State) :
    s.unlessHeld (fun s => (s.advance t).ifHeard f) = s.advance t := by
  rw [State.unlessHeld_of_running hrun]
  exact if_neg hdeaf

/-- Settles O11: what a drop does, and the two events that abandon a frame in reception. -/
theorem receptionIsAbandoned : Obligations.ReceptionIsAbandoned := by
  refine ⟨State.dropRx_eq, fun s t r hrun hr => ⟨fun x hx => ?bad, fun hlate => ?late, fun hearly => ?early⟩⟩
  case bad =>
    have htaken : (s.advance t).receiveSymbol x true = ((s.advance t).busyTo (s.at t)).dropQuiet := by
      rw [State.receiveSymbol_of_bad hx, State.lineActive_of_receiving (s := s.advance t) hr]
      exact State.receiveBad_of_receiving (s := (s.advance t).busyTo _) hr
    refine congrArg Host.Outcome.next ((exec_symbol_of_heard hrun t (Bus.hears_of_receiving hr) _).trans ?_)
    rw [htaken, State.dropQuiet_eq]
    rfl
  case late =>
    refine congrArg Host.Outcome.next ((State.unlessHeld_of_running hrun _).trans ?_)
    unfold State.rxTimeout
    rw [show (s.advance t).bus.rx = _ from hr]
    exact if_pos hlate
  case early =>
    refine congrArg Host.Outcome.next ((State.unlessHeld_of_running hrun _).trans ?_)
    unfold State.rxTimeout
    rw [show (s.advance t).bus.rx = _ from hr]
    exact if_neg (Nat.not_le.mpr hearly)

/-- Settles O12, by whether the receiver hunts or has a frame in reception. -/
theorem startAndDataSymbolsBuildTheFrame : Obligations.StartAndDataSymbolsBuildTheFrame := by
  intro s t hrun hon busyTo heard started fresh
  refine ⟨fun hhunts hloop htx => ?deaf, fun hhunts hhears => ?hunting, fun r hr => ⟨?start, fun x => ⟨fun hexpects hshort => ?data, fun hrefuses => ?refused⟩⟩⟩
  case deaf =>
    have hdeaf : ¬s.bus.hears = true := fun h => by simpa [hloop, htx] using (Bus.hears_of_hunting hhunts).mp h
    exact ⟨congrArg Host.Outcome.next (exec_symbol_of_deaf hrun t hdeaf _),
      fun x => congrArg Host.Outcome.next (exec_symbol_of_deaf hrun t hdeaf _)⟩
  case hunting =>
    have hhears := (Bus.hears_of_hunting hhunts).mpr hhears
    have hline : (s.advance t).lineActive = started := State.lineActive_of_hunting (s := s.advance t) hhunts
    have hsymbol : (s.advance t).symbolActive = started := State.symbolActive_of_on (s := s.advance t) hon
    have hstill : started.bus.rx = .hunting := hhunts
    refine ⟨?_, fun x => ?_, fun df => ?_, fun x hx => ?_⟩ <;>
      refine congrArg Host.Outcome.next ((exec_symbol_of_heard hrun t hhears _).trans ?_)
    · rw [hsymbol]
      exact State.receiveStart_of_hunting hstill
    · rw [hline]
      exact State.receiveData_of_hunting hstill x
    · rw [hline]
      exact State.receiveEnd_of_hunting hstill df
    · rw [State.receiveSymbol_of_bad hx, hline]
      exact State.receiveBad_of_hunting hstill
  case start =>
    have hsymbol : (s.advance t).symbolActive = started := State.symbolActive_of_on (s := s.advance t) hon
    have hstill : started.bus.rx = .receiving r := hr
    refine congrArg Host.Outcome.next ((exec_symbol_of_heard hrun t (Bus.hears_of_receiving hr) _).trans ?_)
    rw [hsymbol, State.receiveStart_of_receiving hstill, State.dropRx_eq]
    simp only [fresh, State.dropRx_eq]
    split <;> rfl
  case data =>
    have hline : (s.advance t).lineActive = heard := State.lineActive_of_receiving (s := s.advance t) hr
    have hstill : heard.bus.rx = .receiving r := hr
    have htakes : ¬r.refuses x := fun h => h.elim (fun hnot => by simp [hexpects] at hnot) hshort
    refine congrArg Host.Outcome.next ((exec_symbol_of_heard hrun t (Bus.hears_of_receiving hr) _).trans ?_)
    rw [hline]
    exact (State.receiveData_of_receiving hstill x).2 htakes
  case refused =>
    have hline : (s.advance t).lineActive = heard := State.lineActive_of_receiving (s := s.advance t) hr
    have hstill : heard.bus.rx = .receiving r := hr
    refine congrArg Host.Outcome.next ((exec_symbol_of_heard hrun t (Bus.hears_of_receiving hr) _).trans ?_)
    rw [hline]
    exact (State.receiveData_of_receiving hstill x).1 hrefuses

end Sys2Proof.Machine
end

section
/-! PROOFS. Complete frames: the checks, the filter and the TEST frames of the internal loop (R158 to R163, R167). -/

namespace Sys2Proof.Machine

open Sys2Proof

/-- Settles O13: the checks are taken in turn, and a frame that passes them all is delivered as its header names it. -/
theorem completeFrameChecks : Obligations.CompleteFrameChecks := by
  intro loop bs f n
  unfold checkFrame
  dsimp only
  by_cases hcheck : checkBytes (bs.take (n + 6)) = bs.drop (n + 6)
  · rw [if_pos hcheck]
    cases hkind : kindOfCode (byteAt bs 0) with
    | none => simp
    | some kind =>
      cases hdest : destOf (byteAt bs 2) (byteAt bs 3) with
      | none => simp
      | some dest =>
        obtain ⟨fkind, fsource, fdest, fpayload⟩ := f
        simp only [FrameKind.lengthOk, Bool.and_eq_true, decide_eq_true_eq, Option.ite_none_left_eq_some,
          Option.ite_none_right_eq_some, Option.some.injEq, RxFrame.mk.injEq]
        constructor
        · rintro ⟨htest, ⟨hmin, hmax⟩, ⟨hlow, hhigh⟩, rfl, rfl, rfl, rfl⟩
          refine ⟨hcheck, rfl, fun h => ?_, hmin, hmax, hlow, hhigh, rfl, rfl, rfl⟩
          simpa [h] using htest
        · rintro ⟨_, rfl, htest, hmin, hmax, hlow, hhigh, rfl, rfl, rfl⟩
          refine ⟨fun ⟨h, hloop⟩ => ?_, ⟨hmin, hmax⟩, ⟨hlow, hhigh⟩, rfl, rfl, rfl, rfl⟩
          simp [htest h] at hloop
  · rw [if_neg hcheck]
    exact ⟨nofun, fun h => absurd h.1 hcheck⟩

/-! ### An END (R156, R158 to R163) -/

/-- The state with no frame in reception after a line that was active up to now. -/
def State.heardOut (t : Instant) (s : State) : State :=
  { s with now := s.at t, bus := { s.bus with lastActivity := some (s.quietFrom (s.at t)), rx := .hunting } }

theorem exec_frameEndReceived_of_bad {s : State} {r : Reception} (hrun : s.running) (hr : s.bus.rx = .receiving r)
    (hbad : expectsData r.bytes = true ∨ checkFrame s.bus.loop r.bytes = none) (t : Instant) (df : Bool) :
    exec (.frameEndReceived t df) s = .next (((s.advance t).busyTo (s.at t)).dropRx .check) := by
  have hline : (s.advance t).lineActive = (s.advance t).busyTo (s.at t) := State.lineActive_of_receiving (s := s.advance t) hr
  refine congrArg Host.Outcome.next ((exec_symbol_of_heard hrun t (Bus.hears_of_receiving hr) _).trans ?_)
  rw [hline]
  exact State.receiveEnd_of_bad (s := (s.advance t).busyTo (s.at t)) hr hbad df

/-- A complete frame is delivered, and the receiver hunts (R158). -/
theorem exec_frameEndReceived_of_good {s : State} {r : Reception} {f : RxFrame} (hrun : s.running) (hr : s.bus.rx = .receiving r)
    (hexpects : expectsData r.bytes = false) (hf : checkFrame s.bus.loop r.bytes = some f) (t : Instant) (df : Bool) :
    exec (.frameEndReceived t df) s = .next ((s.heardOut t).deliver f r.own df) := by
  have hline : (s.advance t).lineActive = (s.advance t).busyTo (s.at t) := State.lineActive_of_receiving (s := s.advance t) hr
  refine congrArg Host.Outcome.next ((exec_symbol_of_heard hrun t (Bus.hears_of_receiving hr) _).trans ?_)
  rw [hline]
  exact State.receiveEnd_of_good (s := (s.advance t).busyTo (s.at t)) hr hexpects hf df

/-! ### The filter (R159 to R161) -/

theorem State.deliver_of_bus {s : State} (h : s.bus.loop = false) (f : RxFrame) (own df : Bool) :
    s.deliver f own df = s.filterFrame f own df := if_neg (Bool.eq_false_iff.mp h)

theorem State.addressed_iff (d : Dest) (s : State) :
    s.addressed d = true ↔ d = .all ∨ d = .station s.cfg.stationAddress ∨ d = .zone s.cfg.zoneIndex := by
  simp [State.addressed, or_assoc]

theorem State.filterFrame_of_echo {s : State} {f : RxFrame} (h : f.source = s.cfg.stationAddress) (df : Bool) :
    s.filterFrame f true df = s := by
  unfold State.filterFrame
  rw [if_pos h]
  rfl

theorem State.filterFrame_of_stray {s : State} {f : RxFrame} (h : f.source = s.cfg.stationAddress) (df : Bool) :
    s.filterFrame f false df = s.clash .addressClash df := by
  unfold State.filterFrame
  rw [if_pos h]
  rfl

/-- CONDITION frames, and frames for others, go no further (R159). -/
theorem State.filterFrame_of_other {s : State} {f : RxFrame} (hsource : f.source ≠ s.cfg.stationAddress)
    (h : f.kind = .condition ∨ ¬s.addressed f.dest = true) (own df : Bool) : s.filterFrame f own df = s := by
  unfold State.filterFrame
  rw [if_neg hsource]
  by_cases hcondition : f.kind = .condition
  · rw [if_pos hcondition]
  · rw [if_neg hcondition, if_neg (h.resolve_left hcondition)]

theorem State.filterFrame_of_claim {s : State} {f : RxFrame} (hsource : f.source ≠ s.cfg.stationAddress)
    (hkind : f.kind = .claim) (haddressed : s.addressed f.dest = true) (own df : Bool) :
    s.filterFrame f own df = s.takeClaim f df := by
  unfold State.filterFrame
  rw [if_neg hsource, if_neg (by rw [hkind]; nofun), if_pos haddressed, if_pos hkind]

theorem State.filterFrame_of_queued {s : State} {f : RxFrame} (hsource : f.source ≠ s.cfg.stationAddress)
    (hcondition : f.kind ≠ .condition) (hclaim : f.kind ≠ .claim) (haddressed : s.addressed f.dest = true) (own df : Bool) :
    s.filterFrame f own df = s.enqueueRx f := by
  unfold State.filterFrame
  rw [if_neg hsource, if_neg hcondition, if_pos haddressed, if_neg hclaim]

/-- A delivered frame waits at the tail of the receive queue, or adds OVERRUN on the bus (R161). -/
theorem State.enqueueRx_of_bus {s : State} (h : s.bus.loop = false) (f : RxFrame) :
    s.enqueueRx f =
      if s.bus.rxQueue.length < 8 then { s with bus := { s.bus with rxQueue := s.bus.rxQueue ++ [f] } }
      else { s with bus := { s.bus with faults := { s.bus.faults with overrun := true } } } := by
  unfold State.enqueueRx
  by_cases hroom : s.bus.rxQueue.length < 8
  · rw [if_pos hroom, if_pos hroom]
    rfl
  · rw [if_neg hroom, if_neg hroom]
    exact if_neg (Bool.eq_false_iff.mp h)

/-- Settles O14: an END drops the frame or filters it. -/
theorem frameEndIsFiltered : Obligations.FrameEndIsFiltered := by
  intro s t df r hrun hr heard hunts
  refine ⟨fun hbad => exec_frameEndReceived_of_bad hrun hr hbad t df, ?_⟩
  intro f hexpects hf hloop ours
  have hbus : (s.heardOut t).bus.loop = false := hloop
  have hours : (s.heardOut t).addressed f.dest = true ↔ ours := State.addressed_iff f.dest s
  rw [exec_frameEndReceived_of_good hrun hr hexpects hf, State.deliver_of_bus hbus]
  refine ⟨fun hsource hown => ?echo, fun hsource hother => ?other, fun hsource hcondition hclaim hmine => ?queued⟩
  case echo =>
    rw [hown]
    exact congrArg _ (State.filterFrame_of_echo (s := s.heardOut t) hsource df)
  case other =>
    have hnot : f.kind = .condition ∨ ¬(s.heardOut t).addressed f.dest = true := hother.imp_right fun h => mt hours.mp h
    exact congrArg _ (State.filterFrame_of_other (s := s.heardOut t) hsource hnot r.own df)
  case queued =>
    rw [State.filterFrame_of_queued (s := s.heardOut t) hsource hcondition hclaim (hours.mpr hmine), State.enqueueRx_of_bus hbus]
    rfl

/-! ### TEST frames (R167) -/

theorem State.expectedTest_iff {s : State} {f : RxFrame} (hkind : f.kind = .test) :
    s.expectedTest f = true ↔ f.source = s.cfg.stationAddress ∧ f.dest = .station s.cfg.stationAddress
      ∧ s.station.selfNext ≤ 3 ∧ f.payload = testPayload s.station.selfNext := by
  simp [State.expectedTest, hkind, and_assoc]

/-- Settles O15: the TEST frame read back is the expected one or a fault seen. -/
theorem testFrameReturns : Obligations.TestFrameReturns := by
  intro s t df r f hrun hr hexpects hf hloop hkind n expected
  have hexpected : (s.heardOut t).expectedTest f = true ↔ expected := State.expectedTest_iff hkind
  have htaken : (s.heardOut t).deliver f r.own df = (s.heardOut t).takeTest f := by
    unfold State.deliver
    exact (if_pos hloop).trans (if_pos hkind)
  rw [exec_frameEndReceived_of_good hrun hr hexpects hf, htaken]
  unfold State.takeTest
  by_cases h : expected
  · rw [if_pos (hexpected.mpr h), if_pos h, if_pos h]
    rfl
  · rw [if_neg (mt hexpected.mp h), if_neg h, if_neg h]
    rfl

end Sys2Proof.Machine
end

section
/-! PROOFS. What reports, claims and plan requests do to the bus, and what the contexts' pins do to the scheduled answers. -/

namespace Sys2Proof.Machine

open Sys2Proof

/-! ### What every submission keeps, the operations that only submit keep -/

/-- A property of the bus that no submission breaks, whatever the station state answers (R149 to R152). -/
def KeptBySubmissions (p : Bus → Prop) : Prop := ∀ st body dest b, p b → p (b.submit st body dest).1

theorem KeptBySubmissions.submit {p : Bus → Prop} (k : KeptBySubmissions p) (body : Body) (dest : Dest) {s : State} (hs : p s.bus) :
    p (s.submit body dest).1.bus := k _ _ _ _ hs

theorem KeptBySubmissions.offerReports {p : Bus → Prop} (k : KeptBySubmissions p) (n : Nat) :
    ∀ {s : State}, p s.bus → p (offerReports n s).bus := by
  induction n with
  | zero => exact fun hs => hs
  | succ n ih =>
    intro s hs
    unfold Machine.offerReports
    split
    next => exact hs
    next r rest hreports =>
      have hsubmit := k.submit (.condition (s.conditionFor r)) .all hs
      split
      next u heq =>
        rw [heq] at hsubmit
        exact ih hsubmit
      next => exact hs

theorem KeptBySubmissions.offer {p : Bus → Prop} (k : KeptBySubmissions p) {s : State} (hs : p s.bus) : p s.offer.bus := by
  unfold State.offer
  split
  next => exact k.offerReports _ hs
  next => exact hs

theorem KeptBySubmissions.place {p : Bus → Prop} (k : KeptBySubmissions p) (kind : Kind) (change : Change) (cause : Cause) {s : State}
    (hs : p s.bus) : p (s.place kind change cause).bus := k.offer (s := s.setMon _) hs

theorem KeptBySubmissions.declareCond {p : Bus → Prop} (k : KeptBySubmissions p) (kind : Kind) (cause : Cause) {s : State}
    (hs : p s.bus) : p (s.declareCond kind cause).bus := by
  unfold State.declareCond
  split
  next => exact hs
  next => exact k.place _ _ _ (s := s.setMon _) hs

theorem KeptBySubmissions.clearCond {p : Bus → Prop} (k : KeptBySubmissions p) (kind : Kind) (cause : Cause) {s : State}
    (hs : p s.bus) : p (s.clearCond kind cause).bus := by
  unfold State.clearCond
  split
  next => exact k.place _ _ _ (s := s.setMon _) hs
  next => exact hs

theorem KeptBySubmissions.tellMonitor {p : Bus → Prop} (k : KeptBySubmissions p) (st : StationState) {s : State} (hs : p s.bus) :
    p (s.tellMonitor st).bus := k.offer (s := s.setMon _) hs

theorem KeptBySubmissions.cancelPlan {p : Bus → Prop} (k : KeptBySubmissions p) {s : State} (hs : p s.bus) : p s.cancelPlan.bus :=
  k.clearCond _ _ (s := s.setMap _) hs

theorem KeptBySubmissions.settle {p : Bus → Prop} (k : KeptBySubmissions p) {s : State} (hs : p s.bus) : p s.settle.bus := by
  unfold State.settle State.giveRequest
  dsimp only
  split
  next => exact hs
  next =>
    split
    next => simpa using hs
    next => exact k.cancelPlan (s := s.setEngine _) hs

theorem KeptBySubmissions.withdrawNotice {p : Bus → Prop} (k : KeptBySubmissions p) {s : State} (hs : p s.bus) :
    p s.withdrawNotice.bus := k.settle (by simpa using hs)

theorem KeptBySubmissions.engineRebuild {p : Bus → Prop} (k : KeptBySubmissions p) {s : State} (hs : p s.bus) :
    p s.engineRebuild.bus := k.settle (by simpa using hs)

/-- A withdrawal outside JOINED takes the queued CLAIM back (R81, R151). -/
theorem KeptBySubmissions.withdraw {p : Bus → Prop} (k : KeptBySubmissions p) (hback : ∀ b, p b → p b.takeBackClaim) {s : State}
    (hstate : s.station.state ≠ .joined) (hs : p s.bus) : p (s.withdraw false).bus := by
  have hcleared : p (s.setMap s.map.emptied).clearStarved.bus := k.clearCond _ _ (s := s.setMap _) hs
  have hclaim : p ((s.setMap s.map.emptied).clearStarved.withdrawalClaim false).bus := by
    unfold State.withdrawalClaim
    rw [if_neg (by simpa using hstate)]
    exact hback _ hcleared
  exact k.withdrawNotice hclaim

/-! ### The transmitter begins to send at TX_START alone (R152, R153) -/

/-- The transmitter does not send. -/
def Bus.still (b : Bus) : Prop := b.tx ≠ .sending

theorem Bus.pick_still {b : Bus} (h : b.still) : b.pick.still := by
  unfold Bus.pick Bus.still
  split
  next =>
    split
    next => nofun
    next =>
      split
      next => nofun
      next => exact h
  next => exact h

theorem Bus.enqueueNormal_tx (f : TxFrame) (b : Bus) : (b.enqueueNormal f).1.tx = b.tx := by
  unfold Bus.enqueueNormal
  split <;> rfl

theorem Bus.enqueueUrgent_tx (f : TxFrame) (b : Bus) : (b.enqueueUrgent f).1.tx = b.tx := by
  unfold Bus.enqueueUrgent
  split <;> rfl

theorem Bus.enqueueClaim_tx (c : ClaimBody) (b : Bus) : (b.enqueueClaim c).1.tx = b.tx := by
  have hqueued : (if b.urgent.any TxFrame.isClaim then ({ b with urgent := b.urgent.map (TxFrame.replaceClaim c) }, true)
      else b.enqueueUrgent (freshFrame (.claim c) .all)).1.tx = b.tx := by
    split
    next => rfl
    next => exact Bus.enqueueUrgent_tx _ b
  unfold Bus.enqueueClaim
  split
  next =>
    split
    next => split <;> rfl
    next => exact hqueued
  next => exact hqueued

theorem Bus.enqueue_tx (body : Body) (dest : Dest) (b : Bus) : (b.enqueue body dest).1.tx = b.tx := by
  cases body with
  | claim c => exact Bus.enqueueClaim_tx c b
  | handover rec => exact Bus.enqueueUrgent_tx _ b
  | carrierQuery zone ids => exact Bus.enqueueNormal_tx _ b
  | recipe r => exact Bus.enqueueNormal_tx _ b
  | recipeQuery key zone => exact Bus.enqueueNormal_tx _ b
  | condition p => exact Bus.enqueueNormal_tx _ b
  | test n => exact Bus.enqueueNormal_tx _ b

theorem Bus.still_keptBySubmissions : KeptBySubmissions Bus.still := by
  intro st body dest b h
  unfold Bus.submit
  split
  next => exact Bus.pick_still (by unfold Bus.still; rw [Bus.enqueue_tx]; exact h)
  next => exact h

theorem Bus.takeBackClaim_still {b : Bus} (h : b.still) : b.takeBackClaim.still := by
  unfold Bus.takeBackClaim
  split
  next =>
    split
    next => exact Bus.pick_still nofun
    next => exact h
  next => exact h

/-! ### The scheduled answers, once gone, stay gone (R32, R33) -/

theorem Cache.unpin_answers_nil (k : Key) {c : Cache} (h : c.answers = []) : (c.unpin k).answers = [] := by
  unfold Cache.unpin
  dsimp only
  split <;> simp [Cache.discard, Cache.dropPin, h]

theorem State.unpinContext_answers_nil (key : Option Key) {s : State} (h : s.cache.answers = []) :
    (s.unpinContext key).cache.answers = [] := by
  unfold State.unpinContext
  split
  next k => exact Cache.unpin_answers_nil k h
  next => exact h

theorem State.pinContext_answers (key : Option Key) (s : State) : (s.pinContext key).cache.answers = s.cache.answers := by
  unfold State.pinContext
  split <;> rfl

theorem State.touchContext_answers (key : Option Key) (s : State) : (s.touchContext key).cache.answers = s.cache.answers := by
  unfold State.touchContext
  split <;> rfl

theorem State.putActive_answers_nil (c : Context) {s : State} (h : s.cache.answers = []) : (s.putActive c).cache.answers = [] := by
  refine State.unpinContext_answers_nil _ ?_
  rw [State.setEngine_cache, State.touchContext_answers, State.pinContext_answers, h]

theorem State.buildActive_answers_nil (carrier : Option Nat) {s : State} (h : s.cache.answers = []) :
    (s.buildActive carrier).cache.answers = [] := by
  unfold State.buildActive
  split
  next => exact State.putActive_answers_nil _ h
  next => exact State.putActive_answers_nil _ h

theorem State.buildPrepared_answers_nil (carrier : Nat) {s : State} (h : s.cache.answers = []) :
    (s.buildPrepared carrier).cache.answers = [] := by
  refine State.unpinContext_answers_nil _ ?_
  rw [State.setEngine_cache, State.pinContext_answers, h]

theorem State.rebuildPrepared_answers_nil {s : State} (h : s.cache.answers = []) : s.rebuildPrepared.cache.answers = [] := by
  unfold State.rebuildPrepared
  split
  next tag _ => exact State.buildPrepared_answers_nil tag h
  next => exact h

theorem State.engineRebuild_answers_nil {s : State} (h : s.cache.answers = []) : s.engineRebuild.cache.answers = [] := by
  have hbuilt := State.rebuildPrepared_answers_nil (State.buildActive_answers_nil s.engine.rebuildCarrier h)
  simpa [State.engineRebuild] using hbuilt

end Sys2Proof.Machine
end

section
/-! PROOFS. A clash isolates the station (R33, R83, R143, R146, R155, R171). -/

namespace Sys2Proof.Machine

open Sys2Proof

/-! ### FAULTN formed anew (R146) -/

/-- A monitor told of ISOLATED asserts FAULTN (R146). -/
theorem Monitor.faultnLevel_of_isolated {m : Monitor} (h : m.told = .isolated) : m.faultnLevel = true := by
  simp [Monitor.faultnLevel, h]

theorem State.tellMonitor_faultn (st : StationState) (s : State) :
    (s.tellMonitor st).mon.faultn
      = Monitor.faultnLevel { s.mon with told := st, listeningReached := s.mon.listeningReached || st == .listening } := by
  unfold State.tellMonitor
  rw [State.offer_faultn]
  rfl

/-- While the monitor was last told of ISOLATED, a declare request leaves FAULTN asserted (R146). -/
theorem State.declareCond_faultn_of_isolated {s : State} (htold : s.mon.told = .isolated) (hfaultn : s.mon.faultn = true)
    (kind : Kind) (cause : Cause) : (s.declareCond kind cause).mon.faultn = true := by
  unfold State.declareCond
  split
  next => exact hfaultn
  next =>
    rw [State.place_faultn]
    exact Monitor.faultnLevel_of_isolated htold

/-! ### Where the bus refuses, reports wait (R143, R149) -/

theorem State.offer_of_offBus {s : State} (h : s.mon.told.onBus = false) : s.offer = s := if_neg (Bool.eq_false_iff.mp h)

theorem State.place_bus_of_offBus {s : State} (h : s.mon.told.onBus = false) (kind : Kind) (change : Change) (cause : Cause) :
    (s.place kind change cause).bus = s.bus := by
  have hwaits := State.offer_of_offBus (s := s.setMon { s.mon with reports := placeIn ⟨kind, change, cause, 0⟩ s.mon.reports }) h
  unfold State.place
  rw [hwaits]
  rfl

theorem State.declareCond_bus_of_offBus {s : State} (h : s.mon.told.onBus = false) (kind : Kind) (cause : Cause) :
    (s.declareCond kind cause).bus = s.bus := by
  unfold State.declareCond
  split
  next => rfl
  next => exact State.place_bus_of_offBus (by exact h) kind .declared cause

/-! ### Entry to ISOLATED -/

/-- What isolation leaves of the bus: nothing waits, and a transmitter that does not send is IDLE (R155). -/
theorem Bus.isolate_spec (b : Bus) :
    b.isolate.urgent = [] ∧ b.isolate.normal = [] ∧ b.isolate.followOn = none
      ∧ (b.still → b.isolate.tx = .idle ∧ b.isolate.inFlight = none) := by
  unfold Bus.isolate
  dsimp only
  by_cases h : b.tx = .sending
  · rw [if_pos h]
    exact ⟨rfl, rfl, rfl, fun hstill => absurd h hstill⟩
  · rw [if_neg h]
    exact ⟨rfl, rfl, rfl, fun _ => ⟨rfl, rfl⟩⟩

theorem State.isolateBlocks_still {s : State} (h : s.bus.still) : s.isolateBlocks.bus.still := by
  have hwithdrawn : (((s.setStanding .isolated none).enliven).withdraw false).bus.still :=
    Bus.still_keptBySubmissions.withdraw (fun _ => Bus.takeBackClaim_still) (by simp [State.setStanding, State.enliven])
      (by simpa [State.setStanding, State.enliven] using h)
  exact Bus.still_keptBySubmissions.engineRebuild hwithdrawn

theorem State.isolateBlocks_monKept (s : State) : MonKept s s.isolateBlocks := by
  have hwithdrawn : MonKept s (((s.setStanding .isolated none).enliven).withdraw false) :=
    .of_eq (by simp) (State.withdraw_monKept false _)
  unfold State.isolateBlocks
  dsimp only
  generalize ((s.setStanding .isolated none).enliven).withdraw false = u at hwithdrawn ⊢
  exact (hwithdrawn.then (u := u.setCache { u.cache with answers := [] }) rfl).trans (State.engineRebuild_monKept _)

theorem State.isolateBlocks_spec (s : State) :
    s.isolateBlocks.station.state = .isolated ∧ s.isolateBlocks.station.joinCount = none
      ∧ s.isolateBlocks.map.active = none ∧ s.isolateBlocks.map.pending = none ∧ s.isolateBlocks.cache.answers = [] := by
  refine ⟨?_, ?_, ?_, ?_, ?_⟩
  · simp [State.isolateBlocks, State.setStanding]
  · simp [State.isolateBlocks, State.setStanding]
  · simp [State.isolateBlocks, State.withdraw_active]
  · refine State.engineRebuild_pending ?_
    rw [State.setCache_map]
    exact State.withdraw_pending _ _
  · exact State.engineRebuild_answers_nil rfl

/-- The station is isolated: nothing waits to be sent, the own pair and the scheduled answers are gone, and FAULTN is asserted. -/
structure Isolated (u : State) : Prop where
  state : u.station.state = .isolated
  join : u.station.joinCount = none
  told : u.mon.told = .isolated
  faultn : u.mon.faultn = true
  active : u.map.active = none
  pending : u.map.pending = none
  answers : u.cache.answers = []
  urgent : u.bus.urgent = []
  normal : u.bus.normal = []
  followOn : u.bus.followOn = none

theorem State.enterIsolated_isolated (s : State) : Isolated s.enterIsolated := by
  obtain ⟨hstate, hjoin, hactive, hpending, hanswers⟩ := s.isolateBlocks_spec
  obtain ⟨hurgent, hnormal, hfollow, _⟩ := s.isolateBlocks.bus.isolate_spec
  have htold : s.enterIsolated.mon.told = .isolated := State.tellMonitor_told _ _
  have hbus : s.enterIsolated.bus = s.isolateBlocks.bus.isolate :=
    congrArg State.bus (State.tellMonitor_of_offBus rfl (s.isolateBlocks.setBus s.isolateBlocks.bus.isolate))
  constructor
  case told => exact htold
  case faultn => exact (State.tellMonitor_faultn _ _).trans (Monitor.faultnLevel_of_isolated rfl)
  case state => simpa [State.enterIsolated] using hstate
  case join => simpa [State.enterIsolated] using hjoin
  case active => simpa [State.enterIsolated] using hactive
  case pending => simpa [State.enterIsolated] using hpending
  case answers => simpa [State.enterIsolated] using hanswers
  case urgent => rw [hbus]; exact hurgent
  case normal => rw [hbus]; exact hnormal
  case followOn => rw [hbus]; exact hfollow

theorem State.enterIsolated_idle {s : State} (h : s.bus.still) :
    s.enterIsolated.bus.tx = .idle ∧ s.enterIsolated.bus.inFlight = none := by
  have hbus : s.enterIsolated.bus = s.isolateBlocks.bus.isolate :=
    congrArg State.bus (State.tellMonitor_of_offBus rfl (s.isolateBlocks.setBus s.isolateBlocks.bus.isolate))
  rw [hbus]
  exact s.isolateBlocks.bus.isolate_spec.2.2.2 (State.isolateBlocks_still h)

theorem State.enterIsolated_isDeclared {k : Kind} (hk : k ≠ .slotStarved) (s : State) :
    s.enterIsolated.mon.isDeclared k = s.mon.isDeclared k := by
  unfold State.enterIsolated
  rw [State.tellMonitor_isDeclared]
  exact s.isolateBlocks_monKept.declared k hk

/-- An isolated station declares and stays isolated. -/
theorem Isolated.declareCond {u : State} (h : Isolated u) (kind : Kind) (cause : Cause) : Isolated (u.declareCond kind cause) := by
  have hbus := State.declareCond_bus_of_offBus (s := u) (by rw [h.told]; rfl) kind cause
  constructor
  case told => rw [State.declareCond_told, h.told]
  case faultn => exact State.declareCond_faultn_of_isolated h.told h.faultn kind cause
  case state => simpa using h.state
  case join => simpa using h.join
  case active => simpa using h.active
  case pending => simpa using h.pending
  case answers => simpa using h.answers
  case urgent => rw [hbus]; exact h.urgent
  case normal => rw [hbus]; exact h.normal
  case followOn => rw [hbus]; exact h.followOn

/-- A clash on the bus declares its kind and isolates the station, in either order (R137, R171; log 5). -/
theorem State.clash_spec {s : State} (hbus : s.station.state.onBus = true) {kind : Kind} (hkind : kind ≠ .slotStarved) (df : Bool) :
    Isolated (s.clash kind df) ∧ (s.clash kind df).mon.isDeclared kind = true
      ∧ (s.bus.still → (s.clash kind df).bus.tx = .idle ∧ (s.clash kind df).bus.inFlight = none) := by
  unfold State.clash
  cases df with
  | true =>
    have hasked : (s.declareCond kind .clash).askIsolated = (s.declareCond kind .clash).enterIsolated :=
      if_pos (by simpa using hbus)
    rw [if_pos rfl, hasked]
    refine ⟨State.enterIsolated_isolated _, ?_, fun h => ?_⟩
    · rw [State.enterIsolated_isDeclared hkind, State.declareCond_isDeclared]
      simp
    · exact State.enterIsolated_idle (Bus.still_keptBySubmissions.declareCond kind .clash h)
  | false =>
    have hasked : s.askIsolated = s.enterIsolated := if_pos hbus
    have hisolated := s.enterIsolated_isolated
    rw [if_neg nofun, hasked]
    refine ⟨hisolated.declareCond kind .clash, ?_, fun h => ?_⟩
    · rw [State.declareCond_isDeclared]
      simp
    · rw [State.declareCond_bus_of_offBus (by rw [hisolated.told]; rfl)]
      exact State.enterIsolated_idle h

/-- Settles O16: an own address that the station did not send, or a CLAIM for the own zone, is a clash. -/
theorem clashIsolatesTheStation : Obligations.ClashIsolatesTheStation := by
  intro s t df r f hrun hr hexpects hf hloop address zone hclash hstate
  have hbus : (s.heardOut t).bus.loop = false := hloop
  have hon : (s.heardOut t).station.state.onBus = true := by
    rcases hstate with h | h | h <;> simp [State.heardOut, h, StationState.onBus]
  obtain ⟨kind, htaken, hkind, haddress, hzone⟩ : ∃ kind, (s.heardOut t).filterFrame f r.own df = (s.heardOut t).clash kind df
      ∧ kind ≠ .slotStarved ∧ (address → kind = .addressClash) ∧ (zone → kind = .zoneClash) := by
    rcases hclash with ⟨hsource, hown⟩ | ⟨hsource, hclaim, hto, hzone⟩
    · refine ⟨.addressClash, ?_, nofun, fun _ => rfl, fun h => absurd hsource h.1⟩
      rw [hown]
      exact State.filterFrame_of_stray (s := s.heardOut t) hsource df
    · refine ⟨.zoneClash, ?_, nofun, fun h => absurd h.1 hsource, fun _ => rfl⟩
      rw [State.filterFrame_of_claim (s := s.heardOut t) hsource hclaim hto]
      exact if_pos hzone
  rw [exec_frameEndReceived_of_good hrun hr hexpects hf, State.deliver_of_bus hbus, htaken]
  obtain ⟨h, hdeclared, hidle⟩ := State.clash_spec hon hkind df
  refine ⟨_, rfl, h.state, h.join, fun ha => haddress ha ▸ hdeclared, fun hz => hzone hz ▸ hdeclared, h.told, h.faultn, h.active,
    h.pending, h.answers, h.urgent, h.normal, h.followOn, hidle, ?_, ?_, ?_⟩
  · simp [State.heardOut]
  · simp [State.heardOut]
  · simp [State.heardOut]

end Sys2Proof.Machine
end

section
/-! PROOFS. The transmitter and the transmit queue: starts, sent frames, collisions and submissions (R148 to R155). -/

namespace Sys2Proof.Machine

open Sys2Proof

/-! ### Starts and waits (R152 to R154) -/

theorem Bus.idleAt_iff (rate : BusRate) (t : Instant) (b : Bus) :
    b.idleAt rate t = true ↔ ∃ a, b.lastActivity = some a ∧ a + idleGap rate ≤ t := by
  unfold Bus.idleAt
  cases b.lastActivity <;> simp

theorem State.lineIdle_iff (underWay : Bool) (s : State) :
    s.lineIdle underWay = true ↔
      (∃ a, s.bus.lastActivity = some a ∧ a + idleGap s.cfg.busRate ≤ s.now) ∧ (s.bus.loop = true ∨ underWay = false) := by
  simp [State.lineIdle, Bus.idleAt_iff]

theorem TxFrame.isClaim_iff (f : TxFrame) : f.isClaim = true ↔ f.body.kind = .claim := by simp [TxFrame.isClaim]

/-- Settles O18: TX_START and BACKOFF_EXPIRY change the transmitter where it waits for them, and nothing elsewhere. -/
theorem transmitterStartsAndWaits : Obligations.TransmitterStartsAndWaits := by
  refine ⟨?start, fun s t hrun => ⟨fun hbackoff hend => ?ends, fun hnot => ?stays⟩⟩
  case start =>
    intro s t hrun idle
    have hline (underWay : Bool) : (s.advance t).lineIdle underWay = true ↔ idle ∧ (s.bus.loop = true ∨ underWay = false) :=
      State.lineIdle_iff underWay (s.advance t)
    refine ⟨fun underWay hwaits hidle hfree => ?go, fun underWay hnot => ?nothing⟩
    case go =>
      refine congrArg Host.Outcome.next ((State.unlessHeld_of_running hrun _).trans ?_)
      refine (if_pos ⟨hwaits, (hline underWay).mpr ⟨hidle, hfree⟩⟩).trans ?_
      simp only [State.updateBus, TxFrame.isClaim_iff]
      rfl
    case nothing =>
      refine congrArg Host.Outcome.next ((State.unlessHeld_of_running hrun _).trans (if_neg ?_))
      rintro ⟨hwaits, hquiet⟩
      obtain ⟨hidle, hfree⟩ := (hline underWay).mp hquiet
      rcases hnot with hbusy | hnoise | ⟨hbus, hway⟩
      · exact hbusy hwaits
      · exact hnoise hidle
      · rcases hfree with h | h
        · rw [h] at hbus; exact absurd hbus nofun
        · rw [h] at hway; exact absurd hway nofun
  case ends =>
    refine congrArg Host.Outcome.next ((State.unlessHeld_of_running hrun _).trans ?_)
    exact if_pos ⟨hbackoff, hend⟩
  case stays =>
    refine congrArg Host.Outcome.next ((State.unlessHeld_of_running hrun _).trans (if_neg ?_))
    rintro ⟨hbackoff, hend⟩
    rcases hnot with h | h
    · exact h hbackoff
    · exact Nat.not_le.mpr h hend

/-! ### A frame that leaves (R68, R151, R153 to R155) -/

/-- The window of the own pending part opens at the first CLAIM that carries it (R68). -/
theorem SlotMap.claimSent_eq (c : ClaimBody) (m : SlotMap) :
    m.claimSent c
      = { m with window := if c.pending.isSome = true ∧ c.pending = m.pending ∧ m.window = none then some 0 else m.window } := by
  unfold SlotMap.claimSent
  by_cases h : c.pending.isSome = true ∧ c.pending = m.pending ∧ m.window = none
  · rw [if_pos h, if_pos (by simpa using h)]
  · rw [if_neg h, if_neg (by simpa using h)]

theorem SlotMap.claimDropped_eq (c : ClaimBody) (m : SlotMap) :
    m.claimDropped c =
      if c.pending.isSome = true ∧ c.pending = m.pending ∧ m.window = none then { m with pending := none }
      else { m with sendDue := true, dueAtFrame := true } := by
  unfold SlotMap.claimDropped
  by_cases h : c.pending.isSome = true ∧ c.pending = m.pending ∧ m.window = none
  · rw [if_pos h, if_pos (by simpa using h)]
  · rw [if_neg h, if_neg (by simpa using h)]

/-- The line-up behind the frame that leaves: the urgent frames held, and the follow-on as a CLAIM behind them (R151). -/
def Bus.lineUp (b : Bus) : List TxFrame := b.urgent ++ (b.followOn.toList.map fun c => freshFrame (.claim c) .all)

theorem Bus.promoteFollowOn_eq (b : Bus) : b.promoteFollowOn = { b with urgent := b.lineUp, followOn := none } := by
  unfold Bus.promoteFollowOn Bus.lineUp
  split
  next c h => simp [h]
  next h =>
    simp only [h, Option.toList_none, List.map_nil, List.append_nil]
    rw [← h]

/-- The next frame to be picked (R152). -/
theorem Bus.restart_eq (b : Bus) :
    b.restart =
      match b.lineUp, b.normal with
      | f :: rest, _ => { b with tx := .waiting, inFlight := some f, attempts := 0, urgent := rest, followOn := none }
      | [], f :: rest =>
        { b with tx := .waiting, inFlight := some f, attempts := 0, urgent := [], normal := rest, followOn := none }
      | [], [] => { b with tx := .idle, urgent := [], followOn := none } := by
  unfold Bus.restart
  rw [Bus.promoteFollowOn_eq]
  unfold Bus.pick
  dsimp only
  rw [if_pos rfl]
  split
  next h => rw [h]
  next h =>
    split
    next h' => rw [h, h']
    next h' => rw [h, h']

theorem Bus.lineUp_eq_nil {b : Bus} (h : b.lineUp = []) : b.urgent = [] := (List.append_eq_nil_iff.mp h).1

theorem exec_txFrameSent {s : State} {f : TxFrame} (hrun : s.running) (t : Instant) (hsending : s.bus.tx = .sending)
    (hflight : s.bus.inFlight = some f) :
    exec (.txFrameSent t) s
      = .next (((s.advance t).setBus { s.bus with lastActivity := some (s.at t) }).reportClaim f true).leaveFlight := by
  refine congrArg Host.Outcome.next ((State.unlessHeld_of_running hrun _).trans ?_)
  unfold State.frameSent
  rw [show (s.advance t).bus.inFlight = _ from hflight]
  exact if_pos hsending

/-- Settles O19: the CLAIM's end is reported, the frame leaves, and the next one is picked. -/
theorem sentFrameLeavesTheQueue : Obligations.SentFrameLeavesTheQueue := by
  refine ⟨?sent, ?restart⟩
  case sent =>
    intro s t f hrun hsending hflight opens window gone
    have hgone : (((s.advance t).setBus { s.bus with lastActivity := some (s.at t) }).reportClaim f true).setBus
        (((s.advance t).setBus { s.bus with lastActivity := some (s.at t) }).reportClaim f true).bus.clearFlight = gone := by
      cases hbody : f.body with
      | claim c =>
        have hopens : opens c ↔ f.lastRun = false
          ∧ c.pending.isSome = true ∧ c.pending = s.map.pending ∧ s.map.window = none := Iff.rfl
        by_cases hlast : f.lastRun = true
        · have hclosed : window = s.map.window := by simp [window, hbody, hopens, hlast]
          simp only [State.reportClaim, hbody, if_pos hlast, gone, hclosed]
          rfl
        · have hopened : window = if c.pending.isSome = true ∧ c.pending = s.map.pending ∧ s.map.window = none then some 0
              else s.map.window := by simp [window, hbody, hopens, hlast]
          simp only [State.reportClaim, hbody, if_neg hlast, if_true, SlotMap.claimSent_eq, gone, hopened]
          rfl
      | handover _ | carrierQuery _ _ | recipe _ | recipeQuery _ _ | condition _ | test _ =>
        have hclosed : window = s.map.window := by simp [window, hbody]
        simp only [State.reportClaim, hbody, gone, hclosed]
        rfl
    rw [exec_txFrameSent hrun t hsending hflight, ← hgone]
    rfl
  case restart =>
    intro b hflight urgent
    have hline : b.lineUp = urgent := rfl
    rw [Bus.restart_eq, hline]
    refine ⟨?_, fun f rest h => ?_, fun hnone f rest h => ?_, fun hnone h => ?_⟩
    · cases urgent with
      | cons f rest => rfl
      | nil => cases b.normal <;> rfl
    · rw [h]
    · have hurgent := Bus.lineUp_eq_nil (hline.trans hnone)
      rw [hnone, h, hurgent]
    · have hurgent := Bus.lineUp_eq_nil (hline.trans hnone)
      rw [hnone, h, hurgent]

/-! ### Collisions (R154) -/

theorem exec_collision {s : State} {f : TxFrame} (hrun : s.running) (t : Instant) (hsending : s.bus.tx = .sending)
    (hflight : s.bus.inFlight = some f) (hlast : f.lastRun = false) (hbus : s.bus.loop = false) :
    let u := (s.advance t).setBus
      { s.bus with ownStart := false, lastActivity := some (s.at t + symbolTime s.cfg.busRate) }
    exec (.collision t) s
      = .next (if s.bus.attempts + 1 = 8 then ((u.updateBus Bus.noteCollisions).reportClaim f false).leaveFlight
          else u.startBackoff (s.bus.attempts + 1)) := by
  intro u
  refine congrArg Host.Outcome.next ((State.unlessHeld_of_running hrun _).trans ?_)
  simp [State.collide, hflight, hsending, hlast, hbus, State.updateBus, u]
  rfl

/-- Settles O20: below the eighth collision the frame backs off; at the eighth it leaves, and a CLAIM's drop is reported. -/
theorem collisionBacksOff : Obligations.CollisionBacksOff := by
  intro s t f hrun hsending hflight hlast hbus abortEnd n
  rw [exec_collision hrun t hsending hflight hlast hbus]
  refine ⟨fun hfew => ?backoff, ?dropped⟩
  case backoff =>
    rw [if_neg (show ¬s.bus.attempts + 1 = 8 from Nat.ne_of_lt hfew)]
    refine congrArg Host.Outcome.next ?_
    simp only [State.startBackoff, backoffWait, ← Nat.add_assoc]
    rfl
  case dropped =>
    intro heighth map gone
    let u := (s.advance t).setBus
      { s.bus with ownStart := false, lastActivity := some (s.at t + symbolTime s.cfg.busRate) }
    have hnoted : u.updateBus Bus.noteCollisions
        = u.setBus { u.bus with faults := { s.bus.faults with collisions := true } } := by
      simp [State.updateBus, Bus.noteCollisions, u, hbus]
    have hgone : (((u.updateBus Bus.noteCollisions).reportClaim f false).setBus
        ((u.updateBus Bus.noteCollisions).reportClaim f false).bus.clearFlight) = gone := by
      rw [hnoted]
      cases hbody : f.body with
      | claim c =>
        have hmap : map = s.map.claimDropped c := by simp only [map, hbody, SlotMap.claimDropped_eq]
        simp only [State.reportClaim, hbody, hlast, gone, hmap]
        rfl
      | handover _ | carrierQuery _ _ | recipe _ | recipeQuery _ _ | condition _ | test _ =>
        have hmap : map = s.map := by simp only [map, hbody]
        simp only [State.reportClaim, hbody, gone, hmap]
        rfl
    rw [if_pos (show s.bus.attempts + 1 = 8 from heighth), ← hgone]
    rfl

/-! ### Submissions (R149 to R151) -/

theorem Body.isTest_iff (body : Body) : (body.kind == .test) = true ↔ ∃ n, body = .test n := by
  cases body <;> simp [Body.kind]

theorem StationState.takes_iff (st : StationState) (body : Body) :
    st.takes body = true ↔ st = .listening ∨ st = .joined ∨ st = .lockout ∨ (st = .selfTest ∧ ∃ n, body = .test n) := by
  rw [← Body.isTest_iff]
  cases st <;> simp [StationState.takes]

theorem Bus.submit_of_taken {st : StationState} {body : Body} (h : st.takes body = true) (dest : Dest) (b : Bus) :
    b.submit st body dest = ((b.enqueue body dest).1.pick, (b.enqueue body dest).2) := if_pos h

theorem Bus.submit_of_refused {st : StationState} {body : Body} (h : st.takes body = false) (dest : Dest) (b : Bus) :
    b.submit st body dest = (b, false) := if_neg (Bool.eq_false_iff.mp h)

theorem Bus.enqueue_of_normal {body : Body} (h : body.urgent = false) (dest : Dest) (b : Bus) :
    b.enqueue body dest = b.enqueueNormal (freshFrame body dest) := by
  cases body <;> simp_all [Bus.enqueue, Body.urgent]

theorem TxFrame.isClaim_eq_false {f : TxFrame} (h : f.body.kind ≠ .claim) : f.isClaim = false :=
  Bool.eq_false_iff.mpr fun hclaim => h (f.isClaim_iff.mp hclaim)

theorem TxFrame.replaceClaim_of_claim {f : TxFrame} (h : f.body.kind = .claim) (c : ClaimBody) :
    f.replaceClaim c = { f with body := .claim c } := if_pos (f.isClaim_iff.mpr h)

theorem TxFrame.replaceClaim_of_other {f : TxFrame} (h : f.body.kind ≠ .claim) (c : ClaimBody) : f.replaceClaim c = f :=
  if_neg (Bool.eq_false_iff.mp (TxFrame.isClaim_eq_false h))

theorem Bus.enqueueClaim_of_started {b : Bus} (h : b.startedClaim = true) (c : ClaimBody) :
    b.enqueueClaim c = ({ b with followOn := some c }, true) := by
  obtain ⟨f, hf, hclaim, hstarted⟩ : ∃ f, b.inFlight = some f ∧ f.isClaim = true ∧ f.started = true := by
    unfold Bus.startedClaim at h
    cases hf : b.inFlight with
    | none => simp [hf] at h
    | some f => simpa [hf] using h
  unfold Bus.enqueueClaim
  rw [hf]
  dsimp only
  rw [if_pos hclaim, if_pos hstarted]

theorem Bus.enqueueClaim_of_unstarted {b : Bus} {f : TxFrame} (hf : b.inFlight = some f) (hclaim : f.body.kind = .claim)
    (hstarted : f.started = false) (c : ClaimBody) :
    b.enqueueClaim c = ({ b with inFlight := some { f with body := .claim c } }, true) := by
  unfold Bus.enqueueClaim
  rw [hf]
  dsimp only
  rw [if_pos (f.isClaim_iff.mpr hclaim), if_neg (Bool.eq_false_iff.mp hstarted), TxFrame.replaceClaim_of_claim hclaim]

/-- With no CLAIM in flight a CLAIM goes to the one that waits, or to the queue (R151). -/
theorem Bus.enqueueClaim_of_queue {b : Bus} (h : ∀ g, b.inFlight = some g → g.body.kind ≠ .claim) (c : ClaimBody) :
    b.enqueueClaim c =
      if b.urgent.any TxFrame.isClaim then ({ b with urgent := b.urgent.map (TxFrame.replaceClaim c) }, true)
      else b.enqueueUrgent (freshFrame (.claim c) .all) := by
  unfold Bus.enqueueClaim
  split
  next g hg => rw [if_neg (Bool.eq_false_iff.mp (TxFrame.isClaim_eq_false (h g hg)))]
  next => rfl

theorem map_replaceClaim_of_one {pre post : List TxFrame} {f : TxFrame} (hclaim : f.body.kind = .claim)
    (hothers : ∀ g ∈ pre ++ post, g.body.kind ≠ .claim) (c : ClaimBody) :
    (pre ++ f :: post).map (TxFrame.replaceClaim c) = pre ++ { f with body := .claim c } :: post := by
  have hkept {l : List TxFrame} (hl : ∀ g ∈ l, g.body.kind ≠ .claim) : l.map (TxFrame.replaceClaim c) = l :=
    (List.map_congr_left fun g hg => TxFrame.replaceClaim_of_other (hl g hg) c).trans (List.map_id' l)
  rw [List.map_append, List.map_cons, TxFrame.replaceClaim_of_claim hclaim,
    hkept fun g hg => hothers g (List.mem_append_left post hg), hkept fun g hg => hothers g (List.mem_append_right pre hg)]

/-- Settles O21, by the class of the frame and, for a CLAIM, by where one is held. -/
theorem submissionsByClass : Obligations.SubmissionsByClass := by
  intro st body dest b free
  have hfree : b.free = free := rfl
  have hurgent (f : TxFrame) : ((b.enqueueUrgent f).1.pick, (b.enqueueUrgent f).2)
      = if 1 ≤ free then (Bus.pick { b with urgent := b.urgent ++ [f] }, true) else (b.pick, false) := by
    unfold Bus.enqueueUrgent
    rw [hfree]
    split <;> rfl
  refine ⟨StationState.takes_iff st body, fun h => Bus.submit_of_refused h dest b, fun htakes => ?_⟩
  rw [Bus.submit_of_taken htakes]
  refine ⟨fun hnormal => ?normal, ?handover, ?claim⟩
  case normal =>
    rw [Bus.enqueue_of_normal hnormal]
    unfold Bus.enqueueNormal
    rw [hfree]
    split <;> rfl
  case handover =>
    rintro rec rfl
    exact hurgent _
  case claim =>
    rintro c rfl
    have hclaim : b.enqueue (.claim c) dest = b.enqueueClaim c := rfl
    rw [hclaim]
    refine ⟨fun h => ?started, fun f hf hkind hstarted => ?unstarted, fun pre f post hflight hqueue hkind hothers => ?waiting,
      fun hflight hqueue => ?fresh⟩
    case started => rw [Bus.enqueueClaim_of_started h]
    case unstarted => rw [Bus.enqueueClaim_of_unstarted hf hkind hstarted]
    case waiting =>
      have hany : b.urgent.any TxFrame.isClaim = true := by simp [hqueue, f.isClaim_iff.mpr hkind]
      rw [Bus.enqueueClaim_of_queue hflight, if_pos hany, hqueue, map_replaceClaim_of_one hkind hothers]
    case fresh =>
      have hnone : ¬b.urgent.any TxFrame.isClaim = true := by
        simpa using fun g hg => TxFrame.isClaim_eq_false (hqueue g hg)
      rw [Bus.enqueueClaim_of_queue hflight, if_neg hnone]
      exact hurgent _

end Sys2Proof.Machine
end

section
/-! PROOFS. What a carrier's record does on arrival: the pin request, the entry it takes or makes, and the dose record it closes (R19, R28,
R36 to R39). -/

namespace Sys2Proof.Machine

open Sys2Proof

/-! ### Taking the head frame -/

/-- An owner's operation that leaves the slot map alone calls for no CLAIM (log 23). -/
theorem State.takeFrame_of_quiet {kind : FrameKind} {s : State} {f : RxFrame} {rest : List RxFrame} (act : RxFrame → State → State)
    (hrun : s.running) (hflushed : s.claimsFlushed) (hq : s.bus.rxQueue = f :: rest) (hk : f.kind = kind)
    (hmap : (act f (s.withRxRest rest)).map = s.map) : s.takeFrame kind act = act f (s.withRxRest rest) := by
  rw [State.takeFrame_of_head act hrun hq hk]
  exact State.flushClaim_of_claimsFlushed (by unfold State.claimsFlushed; rw [hmap]; exact hflushed)

theorem exec_takeAdmit_of_head {s : State} {f : RxFrame} {rest : List RxFrame} (hrun : s.running) (hflushed : s.claimsFlushed)
    (hq : s.bus.rxQueue = f :: rest) (hk : f.kind = .admission) :
    exec .takeAdmit s = .next ((s.withRxRest rest).takeAdmitFrame f) :=
  congrArg Host.Outcome.next (State.takeFrame_of_quiet _ hrun hflushed hq hk (by simp [State.withRxRest]))

theorem exec_takeHandover_of_head {s : State} {f : RxFrame} {rest : List RxFrame} (hrun : s.running) (hflushed : s.claimsFlushed)
    (hq : s.bus.rxQueue = f :: rest) (hk : f.kind = .handover) :
    exec .takeHandover s = .next ((s.withRxRest rest).takeHandoverFrame f) :=
  congrArg Host.Outcome.next (State.takeFrame_of_quiet _ hrun hflushed hq hk (by simp [State.withRxRest]))

theorem exec_takeCarrierQuery_of_head {s : State} {f : RxFrame} {rest : List RxFrame} (hrun : s.running)
    (hflushed : s.claimsFlushed) (hq : s.bus.rxQueue = f :: rest) (hk : f.kind = .carrierQuery) :
    exec .takeCarrierQuery s = .next ((s.withRxRest rest).takeQueryFrame f) :=
  congrArg Host.Outcome.next (State.takeFrame_of_quiet _ hrun hflushed hq hk (by simp [State.withRxRest]))

theorem State.ownZone_iff (f : RxFrame) (s : State) : s.ownZone f = true ↔ f.dest = .zone s.cfg.zoneIndex := by
  simp [State.ownZone]

/-! ### A pin request reads and moves neither the table nor the open records (R19, R28) -/

/-- The state with another tracker and another dose record. -/
def State.withCarriers (x : Tracker) (y : Dose) (s : State) : State := { s with tracker := x, dose := y }

theorem State.sendWanted_withCarriers (w : Wanted) (x : Tracker) (y : Dose) (s : State) :
    (s.withCarriers x y).sendWanted w = (s.sendWanted w).withCarriers x y := by
  have hsubmit : (s.withCarriers x y).submitRecipeQuery w.key
      = ((s.submitRecipeQuery w.key).1.withCarriers x y, (s.submitRecipeQuery w.key).2) := rfl
  unfold State.sendWanted
  rw [hsubmit]
  obtain ⟨u, accepted⟩ := s.submitRecipeQuery w.key
  cases accepted <;> rfl

/-- A wanted record as a pin request makes it (R28). -/
def Wanted.asked (k : Key) : Wanted :=
  { key := k, waiting := 1, sends := 0, unavailable := false, framesToNext := 0, sendDue := true }

theorem State.pinCarrier_of_held {s : State} {k : Key} (h : s.cache.holds k = true) :
    s.pinCarrier k = (s.setCache ((s.cache.addPin k).touch k), true) := if_pos h

theorem State.pinCarrier_of_wanted {s : State} {k : Key} (h : ¬s.cache.holds k = true) (hwants : s.cache.wants k = true) :
    s.pinCarrier k = (s.setCache
      { s.cache with wanted := updateWhere (fun w => w.key == k) (fun w => { w with waiting := w.waiting + 1 }) s.cache.wanted },
      false) := (if_neg h).trans (if_pos hwants)

theorem State.pinCarrier_of_missing {s : State} {k : Key} (h : ¬s.cache.holds k = true) (hwants : ¬s.cache.wants k = true) :
    s.pinCarrier k
      = ((s.setCache { s.cache with wanted := s.cache.wanted ++ [Wanted.asked k] }).sendWanted (Wanted.asked k), false) :=
  (if_neg h).trans (if_neg hwants)

theorem State.pinCarrier_withCarriers (k : Key) (x : Tracker) (y : Dose) (s : State) :
    (s.withCarriers x y).pinCarrier k = ((s.pinCarrier k).1.withCarriers x y, (s.pinCarrier k).2) := by
  by_cases hholds : s.cache.holds k = true
  · rw [State.pinCarrier_of_held hholds]
    exact State.pinCarrier_of_held (s := s.withCarriers x y) hholds
  · by_cases hwants : s.cache.wants k = true
    · rw [State.pinCarrier_of_wanted hholds hwants]
      exact State.pinCarrier_of_wanted (s := s.withCarriers x y) hholds hwants
    · rw [State.pinCarrier_of_missing hholds hwants]
      refine (State.pinCarrier_of_missing (s := s.withCarriers x y) hholds hwants).trans ?_
      rw [← State.sendWanted_withCarriers]
      rfl

theorem State.pinCarrier_answer (k : Key) (s : State) : (s.pinCarrier k).2 = s.cache.holds k := by
  by_cases hholds : s.cache.holds k = true
  · rw [State.pinCarrier_of_held hholds, hholds]
  · by_cases hwants : s.cache.wants k = true
    · rw [State.pinCarrier_of_wanted hholds hwants, Bool.eq_false_iff.mpr hholds]
    · rw [State.pinCarrier_of_missing hholds hwants, Bool.eq_false_iff.mpr hholds]

/-- A pin request for a key that may be none; without one the entry waits for nothing. -/
def State.pinFor (key : Option Key) (s : State) : State × Bool := (key.map s.pinCarrier).getD (s, true)

theorem State.pinFor_withCarriers (key : Option Key) (x : Tracker) (y : Dose) (s : State) :
    (s.withCarriers x y).pinFor key = ((s.pinFor key).1.withCarriers x y, (s.pinFor key).2) := by
  cases key with
  | none => rfl
  | some k => exact State.pinCarrier_withCarriers k x y s

theorem State.pinFor_answer (key : Option Key) (s : State) :
    (s.pinFor key).2 = !((key.map fun k => !s.cache.holds k).getD false) := by
  cases key with
  | none => rfl
  | some k => simp [State.pinFor, State.pinCarrier_answer]

@[simp] theorem State.pinFor_leaves (key : Option Key) (s : State) :
    (s.pinFor key).1.pending = s.pending ∧ (s.pinFor key).1.now = s.now ∧ (s.pinFor key).1.station = s.station
      ∧ (s.pinFor key).1.clock = s.clock ∧ (s.pinFor key).1.tracker = s.tracker ∧ (s.pinFor key).1.map = s.map
      ∧ (s.pinFor key).1.engine = s.engine ∧ (s.pinFor key).1.bridge = s.bridge ∧ (s.pinFor key).1.dose = s.dose
      ∧ (s.pinFor key).1.mon = s.mon ∧ (s.pinFor key).1.boundary = s.boundary := by
  cases key with
  | none => simp [State.pinFor]
  | some k => simp [State.pinFor]

/-- The entry's recipe pending flag follows the answer to its pin request (R19, R37, R39). -/
theorem State.pinEntry_eq (tag : Nat) (key : Option Key) (s : State) :
    s.pinEntry tag key = (s.pinFor key).1.updateEntry tag fun e => { e with recipePending := !(s.pinFor key).2 } := by
  cases key with
  | none => rfl
  | some k => rfl

/-! ### The table by tags (R35, R50) -/

theorem updateWhere_updateWhere {α : Type} {p : α → Bool} {f g : α → α} (h : ∀ x, p (f x) = p x) (xs : List α) :
    updateWhere p g (updateWhere p f xs) = updateWhere p (fun x => g (f x)) xs := by
  unfold updateWhere
  rw [List.map_map]
  refine List.map_congr_left fun x _ => ?_
  by_cases hp : p x = true
  · simp [hp, h]
  · simp [hp]

/-- The table with the entry of a tag changed, looked up by a tag. -/
theorem find_tag_updateWhere {f : Entry → Entry} (hf : ∀ e, (f e).tag = e.tag) (tag x : Nat) (table : List Entry) :
    (updateWhere (fun e => e.tag == tag) f table).find? (fun e => e.tag == x)
      = (table.find? fun e => e.tag == x).map fun e => if x = tag then f e else e := by
  induction table with
  | nil => rfl
  | cons e rest ih =>
    unfold updateWhere at ih ⊢
    rw [List.map_cons, List.find?_cons, List.find?_cons, ih]
    have htag : (if (e.tag == tag) = true then f e else e).tag = e.tag := by split <;> simp [hf]
    rw [htag]
    by_cases hx : e.tag = x
    · have : (e.tag == x) = true := beq_iff_eq.mpr hx
      rw [this]
      subst hx
      simp
    · have : (e.tag == x) = false := beq_false_of_ne hx
      rw [this]

/-- With no tag given twice, an entry of the table is the one its tag finds. -/
theorem State.entry?_of_mem {s : State} (h : s.tracker.table.Pairwise fun a b => a.tag ≠ b.tag) {e : Entry} (he : e ∈ s.tracker.table) :
    s.entry? e.tag = some e := by
  unfold State.entry?
  revert h he
  generalize s.tracker.table = table
  intro h he
  induction h with
  | nil => cases he
  | cons hhead _ ih =>
    rcases List.mem_cons.mp he with rfl | htail
    · simp
    · rw [List.find?_cons_of_neg (by simpa using hhead e htail)]
      exact ih htail

end Sys2Proof.Machine
end

section
/-! PROOFS. Flags of open records (R128). -/

namespace Sys2Proof.Machine

open Sys2Proof

theorem ZoneFlag.bit_inj {f g : ZoneFlag} : f.bit = g.bit ↔ f = g := by
  refine ⟨?_, congrArg _⟩
  cases f <;> cases g <;> decide

theorem OpenRecord.has_set_iff (f g : ZoneFlag) (r : OpenRecord) : (r.set f).has g = (r.has g || decide (g = f)) := by
  simp [OpenRecord.has, OpenRecord.set, ZoneFlag.mask, BitVec.getLsbD_or, BitVec.getLsbD_twoPow, f.bit_lt, ZoneFlag.bit_inj,
    eq_comm]

theorem OpenRecord.has_clear_iff (f g : ZoneFlag) (r : OpenRecord) : (r.clear f).has g = (r.has g && !decide (g = f)) := by
  simp [OpenRecord.has, OpenRecord.clear, ZoneFlag.mask, BitVec.getLsbD_and, BitVec.getLsbD_not, BitVec.getLsbD_twoPow, g.bit_lt,
    ZoneFlag.bit_inj, eq_comm]

@[simp] theorem OpenRecord.set_tag (f : ZoneFlag) (r : OpenRecord) : (r.set f).tag = r.tag := rfl

@[simp] theorem OpenRecord.clear_tag (f : ZoneFlag) (r : OpenRecord) : (r.clear f).tag = r.tag := rfl

theorem OpenRecord.fix_flags (zone area : Nat) (recipe : Option Recipe) (r : OpenRecord) :
    (r.fix zone area recipe).flags = r.flags ∧ (r.fix zone area recipe).tag = r.tag := by
  unfold OpenRecord.fix
  split
  next => split <;> exact ⟨rfl, rfl⟩
  next => exact ⟨rfl, rfl⟩

/-- The open records of a tag after they have taken an operation that keeps the tag. -/
theorem Dose.mem_markTag {tag : Nat} {f : OpenRecord → OpenRecord} (hf : ∀ r, (f r).tag = r.tag) {d : Dose} {r : OpenRecord}
    (hr : r ∈ (d.markTag tag f).records) (htag : r.tag = tag) : ∃ o ∈ d.records, o.tag = tag ∧ r = f o := by
  obtain ⟨o, ho, rfl⟩ := List.mem_map.mp hr
  by_cases h : (o.tag == tag) = true
  · rw [if_pos h]
    exact ⟨o, ho, beq_iff_eq.mp h, rfl⟩
  · rw [if_neg h] at htag
    exact absurd (beq_iff_eq.mpr htag) h

end Sys2Proof.Machine
end

section
/-! PROOFS. Records arriving from the line: an expected entry at the tail, or an identity match (R36 to R39). -/

namespace Sys2Proof.Machine

open Sys2Proof

/-! ### An expected entry (R37, R38) -/

/-- Entries of other tags stay where the entry of a tag is changed. -/
theorem updateWhere_of_fresh_tag {tag : Nat} (f : Entry → Entry) {table : List Entry} (h : ∀ e ∈ table, e.tag < tag) (e : Entry)
    (he : e.tag = tag) : updateWhere (fun x => x.tag == tag) f (table ++ [e]) = table ++ [f e] := by
  have hothers : ∀ x ∈ table ++ [], (x.tag == tag) = false := fun x hx => by
    have := h x (by simpa using hx)
    exact beq_false_of_ne (by omega)
  have hone := updateWhere_of_one (fun x : Entry => x.tag == tag) f (a := e) (pre := table) (post := []) (beq_iff_eq.mpr he) hothers
  exact hone

/-- A record announced: the pin request for its key, and an EXPECTED entry at the tail under the next tag. -/
theorem State.announce_eq {s : State} (h : ∀ e ∈ s.tracker.table, e.tag < s.tracker.nextTag) (d : DoseRecord) :
    s.announce d = (s.pinFor d.recipe).1.setTracker
      { s.tracker with
        table := s.tracker.table ++ [{ s.tracker.expected d with recipePending := !(s.pinFor d.recipe).2 }]
        nextTag := s.tracker.nextTag + 1 } := by
  have happend : s.appendEntry (s.tracker.expected d)
      = s.withCarriers { s.tracker with table := s.tracker.table ++ [s.tracker.expected d], nextTag := s.tracker.nextTag + 1 }
        s.dose := rfl
  have hdose : (s.pinFor d.recipe).1.dose = s.dose := by simp
  unfold State.announce
  dsimp only
  rw [State.pinEntry_eq, happend, State.pinFor_withCarriers]
  unfold State.updateEntry State.setTable State.withCarriers
  dsimp only
  rw [updateWhere_of_fresh_tag _ h _ rfl, ← hdose]
  rfl

/-! ### An identity match (R39) -/

/-- The table in which the entry of a tag has taken a record (R39). -/
def State.matchedWith (tag : Nat) (d : DoseRecord) (s : State) : State := s.updateEntry tag (Entry.matched d)

/-- The match with its length check, before the pin request (R39; log 43). -/
def State.measuredWith (e : Entry) (d : DoseRecord) (s : State) : State :=
  if e.trailingSeen = true ∧ (e.entryTravel + 25 < d.length ∨ d.length + 25 < e.entryTravel)
  then ((s.matchedWith e.tag d).flagTag e.tag .trackError).raise .tracking .length else s.matchedWith e.tag d

theorem State.matchLength_eq (e : Entry) (d : DoseRecord) (s : State) : (s.matchedWith e.tag d).matchLength e d = s.measuredWith e d := by
  have htest : (e.trailingSeen && farApart e.entryTravel d.length) = true
      ↔ e.trailingSeen = true ∧ (e.entryTravel + 25 < d.length ∨ d.length + 25 < e.entryTravel) := by
    unfold farApart gateTolerance
    rw [Bool.and_eq_true, Bool.or_eq_true, decide_eq_true_iff, decide_eq_true_iff]
  unfold State.matchLength State.measuredWith
  by_cases h : e.trailingSeen = true ∧ (e.entryTravel + 25 < d.length ∨ d.length + 25 < e.entryTravel)
  · rw [if_pos (htest.mpr h), if_pos h]
    rfl
  · rw [if_neg (mt htest.mp h), if_neg h]

@[simp] theorem State.measuredWith_leaves (e : Entry) (d : DoseRecord) (s : State) :
    (s.measuredWith e d).station = s.station ∧ (s.measuredWith e d).cache = s.cache
      ∧ (s.measuredWith e d).tracker = (s.matchedWith e.tag d).tracker := by
  unfold State.measuredWith
  split <;> simp [State.matchedWith, State.updateEntry, State.setTable]

/-- Where no entry is past the forced departure limit, the limit takes none (R47). -/
theorem State.settleTable_of_inside {s : State} (h : ∀ x ∈ s.tracker.table, x.leading ≤ s.cfg.zoneLength) :
    s.settleTable = s.formDominant := by
  have hnone : s.formDominant.tracker.table.filter (Entry.pastLimit s.formDominant.cfg.zoneLength) = [] := by
    refine List.filter_eq_nil_iff.mpr fun x hx => ?_
    have hinside := h x hx
    have hcfg : s.formDominant.cfg = s.cfg := rfl
    simp only [Entry.pastLimit, hcfg, Bool.and_eq_true, decide_eq_true_eq, not_and]
    intro _
    omega
  unfold State.settleTable State.checkLimit
  rw [hnone]
  rfl

/-- The target of a tag's record is fixed in the integrator alone (R125). -/
theorem State.fixTargetOf_eq (tag : Nat) (s : State) : ∃ f : OpenRecord → OpenRecord,
    (∀ r, (f r).flags = r.flags ∧ (f r).tag = r.tag) ∧ s.fixTargetOf tag = s.setDose (s.dose.markTag tag f) := by
  unfold State.fixTargetOf
  cases he : s.entry? tag with
  | none =>
    refine ⟨id, fun r => ⟨rfl, rfl⟩, ?_⟩
    have hsame : s.dose.markTag tag id = s.dose := by
      unfold Dose.markTag updateWhere
      have hid : (fun r : OpenRecord => if (r.tag == tag) = true then id r else r) = id := by funext r; split <;> rfl
      rw [hid, List.map_id]
    rw [hsame]
    rfl
  | some e =>
    obtain rfl : e.tag = tag := by simpa using List.find?_some he
    exact ⟨_, fun r => OpenRecord.fix_flags _ _ _ r, rfl⟩

/-- The answer that a matched entry waits for (R19, R39). -/
def State.waitsFor (d : DoseRecord) (s : State) : Bool := (d.recipe.map fun k => !s.cache.holds k).getD false

/-- The match through its pin request: the table as record and answer make it, the marks on the open record, and the bus and the cache as
the request leaves them (R39). -/
theorem State.pinMatched_eq (e : Entry) (d : DoseRecord) (s : State) :
    ((s.measuredWith e d).markIdentified e.tag).pinEntry e.tag d.recipe
      = ((s.measuredWith e d).pinFor d.recipe).1.withCarriers
        { s.tracker with
          table := updateWhere (fun x => x.tag == e.tag) (fun x => { Entry.matched d x with recipePending := s.waitsFor d })
            s.tracker.table }
        ((s.measuredWith e d).dose.markTag e.tag fun r => (r.set .lateIdentity).clear .unidentified) := by
  obtain ⟨_, hcache, htracker⟩ := s.measuredWith_leaves e d
  generalize s.measuredWith e d = measured at hcache htracker ⊢
  have hmarked : measured.markIdentified e.tag = measured.withCarriers measured.tracker
      (measured.dose.markTag e.tag fun r => (r.set .lateIdentity).clear .unidentified) := rfl
  have hanswer : (!(measured.pinFor d.recipe).2) = s.waitsFor d := by
    rw [State.pinFor_answer, hcache, Bool.not_not]
    rfl
  have htable : updateWhere (fun x => x.tag == e.tag) (fun x : Entry => { x with recipePending := s.waitsFor d }) measured.tracker.table
      = updateWhere (fun x => x.tag == e.tag) (fun x => { Entry.matched d x with recipePending := s.waitsFor d })
        s.tracker.table := by
    rw [htracker]
    exact updateWhere_updateWhere (p := fun x : Entry => x.tag == e.tag) (f := Entry.matched d) (fun _ => rfl) s.tracker.table
  rw [State.pinEntry_eq, hmarked, State.pinFor_withCarriers]
  dsimp only
  rw [hanswer, ← htable, htracker]
  rfl

theorem State.examineOrder_of_inOrder {s : State} {d : DoseRecord} (h : d.outOfOrder s.cfg.zoneIndex = false) (tag : Nat) :
    s.examineOrder tag d = s := if_neg (Bool.eq_false_iff.mp h)

/-- An identity match with no record out of order and no entry past the limit. -/
theorem State.identify_eq {s : State} {e : Entry} (hinside : ∀ x ∈ s.tracker.table, x.leading ≤ s.cfg.zoneLength) {d : DoseRecord}
    {examine : Bool} (horder : examine = true → d.outOfOrder s.cfg.zoneIndex = false) :
    s.identify examine e d
      = ((((s.measuredWith e d).markIdentified e.tag).pinEntry e.tag d.recipe).fixTargetOf e.tag).formDominant := by
  have hpinned := s.pinMatched_eq e d
  have hmatched : (s.updateEntry e.tag (Entry.matched d)).matchLength e d = s.measuredWith e d := s.matchLength_eq e d
  have hstation : (s.measuredWith e d).station = s.station := (s.measuredWith_leaves e d).1
  unfold State.identify
  dsimp only
  rw [hmatched]
  generalize ((s.measuredWith e d).markIdentified e.tag).pinEntry e.tag d.recipe = pinned at hpinned ⊢
  obtain ⟨fix, hfix, hfixed⟩ := pinned.fixTargetOf_eq e.tag
  have hcfg : (pinned.fixTargetOf e.tag).cfg = s.cfg := by
    rw [hfixed, hpinned]
    simp [State.cfg, State.withCarriers, hstation]
  have hexamined : (if examine = true then (pinned.fixTargetOf e.tag).examineOrder e.tag d else pinned.fixTargetOf e.tag)
      = pinned.fixTargetOf e.tag := by
    cases examine with
    | false => rfl
    | true => exact State.examineOrder_of_inOrder (by rw [hcfg]; exact horder rfl) e.tag
  rw [hexamined]
  refine State.settleTable_of_inside fun x hx => ?_
  rw [hcfg]
  rw [hfixed, hpinned] at hx
  obtain ⟨y, hy, rfl⟩ := List.mem_map.mp hx
  have hleading := hinside y hy
  split <;> exact hleading

/-- What an identity match leaves: the entry with the record and the answer to its pin request, the other entries, the monitor and the bus
as the length check and the pin request leave them, and LATE IDENTITY for UNIDENTIFIED on the open record (R39). -/
theorem State.identify_spec {s : State} (htags : s.tracker.table.Pairwise fun a b => a.tag ≠ b.tag) {e : Entry}
    (he : e ∈ s.tracker.table) (hinside : ∀ x ∈ s.tracker.table, x.leading ≤ s.cfg.zoneLength) {d : DoseRecord} {examine : Bool}
    (horder : examine = true → d.outOfOrder s.cfg.zoneIndex = false) :
    (s.identify examine e d).entry? e.tag = some { Entry.matched d e with recipePending := s.waitsFor d }
      ∧ (∀ x, x ≠ e.tag → (s.identify examine e d).entry? x = s.entry? x)
      ∧ (s.identify examine e d).tracker.retained = s.tracker.retained
      ∧ (s.identify examine e d).mon = (s.measuredWith e d).mon
      ∧ (s.identify examine e d).bus = ((s.measuredWith e d).pinFor d.recipe).1.bus
      ∧ ∀ r ∈ (s.identify examine e d).dose.records, r.tag = e.tag → r.has .lateIdentity = true ∧ r.has .unidentified = false
        ∧ (e.trailingSeen = true ∧ (e.entryTravel + 25 < d.length ∨ d.length + 25 < e.entryTravel) → r.has .trackError = true) := by
  have hmon : ((s.measuredWith e d).pinFor d.recipe).1.mon = (s.measuredWith e d).mon := by simp
  rw [State.identify_eq hinside horder]
  have hpinned := s.pinMatched_eq e d
  generalize ((s.measuredWith e d).markIdentified e.tag).pinEntry e.tag d.recipe = pinned at hpinned ⊢
  obtain ⟨fix, hfix, hfixed⟩ := pinned.fixTargetOf_eq e.tag
  have hentry (x : Nat) : (pinned.fixTargetOf e.tag).formDominant.entry? x
      = (s.entry? x).map fun y => if x = e.tag then { Entry.matched d y with recipePending := s.waitsFor d } else y := by
    rw [hfixed, hpinned]
    exact find_tag_updateWhere (f := fun x => { Entry.matched d x with recipePending := s.waitsFor d }) (fun _ => rfl) e.tag x
      s.tracker.table
  refine ⟨?_, fun x hx => ?_, ?_, ?_, ?_, fun r hr htag => ?_⟩
  · rw [hentry, State.entry?_of_mem htags he]
    simp
  · rw [hentry]
    simp [hx]
  · rw [hfixed, hpinned]
    rfl
  · rw [hfixed, hpinned]
    exact hmon
  · rw [hfixed, hpinned]
    rfl
  · rw [hfixed] at hr
    obtain ⟨o, ho, hotag, rfl⟩ := Dose.mem_markTag (fun r => (hfix r).2) hr htag
    rw [hpinned] at ho
    obtain ⟨q, hq, hqtag, rfl⟩ := Dose.mem_markTag (f := fun r => (r.set .lateIdentity).clear .unidentified)
      (fun _ => rfl) ho hotag
    have hflags (g : ZoneFlag) : (fix ((q.set .lateIdentity).clear .unidentified)).has g
        = ((q.has g || decide (g = .lateIdentity)) && !decide (g = .unidentified)) := by
      rw [OpenRecord.has, (hfix _).1, ← OpenRecord.has, OpenRecord.has_clear_iff, OpenRecord.has_set_iff]
    refine ⟨by simp [hflags], by simp [hflags], fun hfar => ?_⟩
    have hmeasured : (s.measuredWith e d).dose = (s.matchedWith e.tag d).dose.markTag e.tag (OpenRecord.set .trackError) := by
      unfold State.measuredWith
      rw [if_pos hfar]
      simp [State.flagTag]
    rw [hmeasured] at hq
    obtain ⟨p, _, _, rfl⟩ := Dose.mem_markTag (f := OpenRecord.set .trackError) (fun _ => rfl) hq hqtag
    simp [hflags, OpenRecord.has_set_iff]

end Sys2Proof.Machine
end

section
/-! PROOFS. Reading a payload by fields: runs of records, dose records and carrier queries (R36, R58; chapter 11). -/

namespace Sys2Proof.Machine

open Sys2Proof

/-! ### Bytes and fields behind an offset -/

theorem getD_drop (bs : List Byte) (m i : Nat) : (bs.drop m).getD i 0 = bs.getD (m + i) 0 := by
  simp [List.getD_eq_getElem?_getD, List.getElem?_drop]

theorem getD_take {n i : Nat} (h : i < n) (bs : List Byte) : (bs.take n).getD i 0 = bs.getD i 0 := by
  simp [List.getD_eq_getElem?_getD, List.getElem?_take, h]

theorem fieldAt32_drop (bs : List Byte) (m i : Nat) : fieldAt32 (bs.drop m) i = fieldAt32 bs (m + i) := by
  simp [fieldAt32, getD_drop, Nat.add_assoc]

theorem byteAt_le (bs : List Byte) (i : Nat) : byteAt bs i ≤ 255 := by
  unfold byteAt
  have := (bs.getD i 0).isLt
  omega

theorem fieldAt16_le (bs : List Byte) (i : Nat) : fieldAt16 bs i ≤ 65535 := by
  unfold fieldAt16 be16
  have := (bs.getD i 0).isLt
  have := (bs.getD (i + 1) 0).isLt
  omega

theorem ofNat_byteAt (bs : List Byte) (i : Nat) : BitVec.ofNat 8 (byteAt bs i) = bs.getD i 0 := by
  unfold byteAt
  rw [BitVec.ofNat_toNat, BitVec.setWidth_eq]

/-! ### A dose record (R36) -/

/-- Zone record `i` of a dose record's payload (R179). -/
def zoneRecordAt (payload : List Byte) (i : Nat) : ZoneRecord :=
  { zone := byteAt payload (13 + 24 * i + 0), station := byteAt payload (13 + 24 * i + 1)
    recipeId := fieldAt16 payload (13 + 24 * i + 2), recipeRev := byteAt payload (13 + 24 * i + 4)
    minScale := byteAt payload (13 + 24 * i + 5) / 16, fill := byteAt payload (13 + 24 * i + 5) % 16
    flags := BitVec.ofNat 16 (fieldAt16 payload (13 + 24 * i + 6)), forward := fieldAt32 payload (13 + 24 * i + 8)
    reverse := fieldAt32 payload (13 + 24 * i + 12), target := fieldAt32 payload (13 + 24 * i + 16)
    frames := fieldAt16 payload (13 + 24 * i + 20), deviations := byteAt payload (13 + 24 * i + 22)
    history := BitVec.ofNat 8 (byteAt payload (13 + 24 * i + 23)) }

theorem readZoneRecord_take_drop (payload : List Byte) (i : Nat) :
    readZoneRecord ((payload.drop (13 + 24 * i)).take 24) = zoneRecordAt payload i := by
  have hbyte (k : Nat) (hk : k < 24) : ((payload.drop (13 + 24 * i)).take 24).getD k 0 = payload.getD (13 + 24 * i + k) 0 := by
    rw [getD_take hk, getD_drop]
  unfold readZoneRecord zoneRecordAt
  rw [ofNat_byteAt]
  simp [byteAt, fieldAt16, fieldAt32, hbyte, Nat.add_assoc]

theorem readZoneRecords_eq (n : Nat) (bs : List Byte) :
    readZoneRecords n bs = (List.range n).map fun i => readZoneRecord ((bs.drop (24 * i)).take 24) := by
  induction n generalizing bs with
  | zero => rfl
  | succ n ih =>
    rw [List.range_succ_eq_map, List.map_cons, List.map_map]
    unfold readZoneRecords
    rw [ih]
    congr 1
    refine List.map_congr_left fun i _ => ?_
    simp [Nat.mul_add, Nat.add_comm]

theorem readZoneRecords_drop (n : Nat) (payload : List Byte) :
    readZoneRecords n (payload.drop 13) = (List.range n).map (zoneRecordAt payload) := by
  rw [readZoneRecords_eq]
  refine List.map_congr_left fun i _ => ?_
  rw [List.drop_drop, readZoneRecord_take_drop]

theorem risingZones_iff (last : Nat) (zones : List ZoneRecord) : risingZones last zones = true
    ↔ (∀ z ∈ zones, last < z.zone ∧ z.zone ≤ 48) ∧ zones.Pairwise fun a b => a.zone < b.zone := by
  induction zones generalizing last with
  | nil => simp [risingZones]
  | cons z rest ih =>
    simp only [risingZones, Bool.and_eq_true, decide_eq_true_eq, ih, List.forall_mem_cons, List.pairwise_cons]
    constructor
    · rintro ⟨⟨hlast, hmost⟩, hrest, hrises⟩
      exact ⟨⟨⟨hlast, hmost⟩, fun x hx => ⟨Nat.lt_trans hlast (hrest x hx).1, (hrest x hx).2⟩⟩, fun x hx => (hrest x hx).1, hrises⟩
    · rintro ⟨⟨⟨hlast, hmost⟩, hrest⟩, habove, hrises⟩
      exact ⟨⟨hlast, hmost⟩, fun x hx => ⟨habove x hx, (hrest x hx).2⟩, hrises⟩

/-- The dose record that a payload lays out (R36, R179). -/
def doseRecordAt (payload : List Byte) : DoseRecord :=
  ⟨fieldAt32 payload 0, keyOf (fieldAt16 payload 4) (byteAt payload 6), fieldAt16 payload 8, fieldAt16 payload 10,
    (byteAt payload 7).testBit 0, (byteAt payload 7).testBit 1, (byteAt payload 7).testBit 2,
    (List.range (byteAt payload 12)).map (zoneRecordAt payload)⟩

theorem readDoseRecord_eq_some (payload : List Byte) (d : DoseRecord) :
    readDoseRecord payload = some d ↔ payload.length = 13 + 24 * byteAt payload 12 ∧ d = doseRecordAt payload := by
  unfold readDoseRecord
  dsimp only
  rw [readZoneRecords_drop]
  by_cases hlen : payload.length = 13 + 24 * byteAt payload 12
  · rw [if_pos hlen, Option.some_inj, eq_comm]
    exact (and_iff_right hlen).symm
  · rw [if_neg hlen]
    simp [hlen]

theorem validKeyField_iff (key : Option Key) (h : ∀ k, key = some k → k.id ≤ 65535 ∧ k.rev ≤ 255) :
    validKeyField key = true ↔ ∀ k, key = some k → 1 ≤ k.id ∧ 1 ≤ k.rev := by
  cases key with
  | none => simp [validKeyField]
  | some k =>
    obtain ⟨hid, hrev⟩ := h k rfl
    simp [validKeyField, hid, hrev]

theorem DoseRecord.valid_iff (kind : FrameKind) (d : DoseRecord) (h : ∀ k, d.recipe = some k → k.id ≤ 65535 ∧ k.rev ≤ 255) :
    d.valid kind = true ↔ (kind = .admission → 1 ≤ d.carrierId ∧ d.zones = []) ∧ (∀ k, d.recipe = some k → 1 ≤ k.id ∧ 1 ≤ k.rev)
      ∧ 1 ≤ d.area ∧ d.area ≤ 20000 ∧ 100 ≤ d.length ∧ d.length ≤ 3000 ∧ d.zones.length ≤ 48
      ∧ (∀ z ∈ d.zones, 1 ≤ z.zone ∧ z.zone ≤ 48) ∧ d.zones.Pairwise fun a b => a.zone < b.zone := by
  have hkind : (if kind = .admission then decide (1 ≤ d.carrierId) && d.zones.isEmpty else true) = true
      ↔ (kind = .admission → 1 ≤ d.carrierId ∧ d.zones = []) := by
    by_cases hk : kind = .admission <;> simp [hk]
  unfold DoseRecord.valid
  simp only [Bool.and_eq_true, hkind, validKeyField_iff d.recipe h, risingZones_iff, decide_eq_true_eq]
  simp only [and_assoc]
  exact Iff.rfl

theorem doseRecordAt_recipe_within (payload : List Byte) (k : Key) (h : (doseRecordAt payload).recipe = some k) :
    k.id ≤ 65535 ∧ k.rev ≤ 255 := by
  have hkey : (if fieldAt16 payload 4 = 0 ∧ byteAt payload 6 = 0 then none else some (⟨fieldAt16 payload 4, byteAt payload 6⟩ : Key))
      = some k := h
  split at hkey
  · cases hkey
  · obtain rfl := Option.some.inj hkey
    exact ⟨fieldAt16_le payload 4, byteAt_le payload 6⟩

theorem checkedDoseRecord_eq_some (kind : FrameKind) (payload : List Byte) (d : DoseRecord) :
    checkedDoseRecord kind payload = some d ↔ readDoseRecord payload = some d ∧ d.valid kind = true := by
  unfold checkedDoseRecord
  cases readDoseRecord payload with
  | none => simp
  | some x =>
    by_cases hx : x.valid kind = true
    · simp only [hx, if_true, Option.some_inj]
      exact ⟨fun h => ⟨h, h ▸ hx⟩, fun h => h.1⟩
    · simp only [hx, Option.some_inj]
      constructor
      · intro h
        simp at h
      · rintro ⟨rfl, h⟩
        exact absurd h hx

/-! ### A carrier query (R58) -/

theorem queryIds_eq (n : Nat) (bs : List Byte) : queryIds n bs = (List.range n).map fun i => fieldAt32 bs (4 * i) := by
  induction n generalizing bs with
  | zero => rfl
  | succ n ih =>
    rw [List.range_succ_eq_map, List.map_cons, List.map_map]
    unfold queryIds
    rw [ih]
    have hfield (i : Nat) : fieldAt32 (bs.drop 4) (4 * i) = fieldAt32 bs (4 * i.succ) := by
      rw [fieldAt32_drop, Nat.mul_succ, Nat.add_comm]
    simp only [hfield, Nat.mul_zero]
    rfl

theorem readCarrierQuery_eq_some (own : Nat) (payload : List Byte) (zone : Nat) (ids : List Nat) :
    readCarrierQuery own payload = some (zone, ids) ↔
      zone = byteAt payload 0 ∧ zone ≤ 48 ∧ zone ≠ own ∧ byteAt payload 1 ≤ 6 ∧ payload.length = 2 + 4 * byteAt payload 1
        ∧ ids = (List.range (byteAt payload 1)).map (fun i => fieldAt32 payload (2 + 4 * i)) ∧ 0 ∉ ids := by
  have hids : queryIds (byteAt payload 1) (payload.drop 2)
      = (List.range (byteAt payload 1)).map fun i => fieldAt32 payload (2 + 4 * i) := by
    simp only [queryIds_eq, fieldAt32_drop]
  unfold readCarrierQuery
  dsimp only
  rw [hids]
  generalize (List.range (byteAt payload 1)).map (fun i => fieldAt32 payload (2 + 4 * i)) = listed
  constructor
  · intro h
    split at h
    next hread =>
      obtain ⟨hlen, hmost, hown, hcount, hnone⟩ := hread
      obtain ⟨rfl, rfl⟩ := Prod.mk.inj (Option.some.inj h)
      exact ⟨rfl, hmost, hown, hcount, hlen, rfl, by simpa using hnone⟩
    next => cases h
  · rintro ⟨rfl, hmost, hown, hcount, hlen, rfl, hnone⟩
    exact if_pos ⟨hlen, hmost, hown, hcount, by simpa using hnone⟩

end Sys2Proof.Machine
end

section
/-! PROOFS. Settles O22 to O24: ADMIT, HANDOVER and CARRIER QUERY taken by the tracker. -/

namespace Sys2Proof.Machine

open Sys2Proof

theorem Tracker.hasId_iff (id : Nat) (t : Tracker) : t.hasId id = true ↔ ∃ e ∈ t.table, e.record.carrierId = id := by
  simp [Tracker.hasId]

theorem Tracker.retainsId_iff (id : Nat) (t : Tracker) : t.retainsId id = true ↔ ∃ d ∈ t.retained, d.carrierId = id := by
  simp [Tracker.retainsId]

/-- No entry is unannounced, or the first of them is the one an identity match takes. -/
theorem Tracker.unannounced?_eq_none {t : Tracker} : t.unannounced? = none ↔ ∀ e ∈ t.table, e.unannounced = false := by
  simp [Tracker.unannounced?]

/-- A table within its bounds is full at 6 entries. -/
theorem Tracker.full_iff {t : Tracker} (h : t.inBounds) : t.full = true ↔ t.table.length = 6 := by
  have := h.1
  simp only [Tracker.full, decide_eq_true_eq]
  omega

/-! ### ADMIT (R37) -/

/-- The retained list without the records of an id (R37). -/
def State.dropRetained (id : Nat) (s : State) : State :=
  s.setTracker { s.tracker with retained := s.tracker.retained.filter fun x => x.carrierId != id }

theorem State.takeAdmission_of_known {s : State} {d : DoseRecord} (h : ∃ e ∈ s.tracker.table, e.record.carrierId = d.carrierId) :
    s.takeAdmission d = s.dropRetained d.carrierId := if_pos ((Tracker.hasId_iff _ s.tracker).mpr h)

theorem State.takeAdmission_of_noUnannounced {s : State} {d : DoseRecord}
    (h : ¬∃ e ∈ s.tracker.table, e.record.carrierId = d.carrierId) (hnone : s.tracker.unannounced? = none) :
    s.takeAdmission d = if s.tracker.full then (s.dropRetained d.carrierId).tracking .tableFull
      else (s.dropRetained d.carrierId).announce d := by
  refine (if_neg (mt (Tracker.hasId_iff _ s.tracker).mp h)).trans ?_
  have hnone' : (s.dropRetained d.carrierId).tracker.unannounced? = none := hnone
  unfold State.dropRetained at hnone' ⊢
  rw [hnone']
  rfl

theorem State.takeAdmission_of_unannounced {s : State} {d : DoseRecord} {e : Entry}
    (h : ¬∃ e ∈ s.tracker.table, e.record.carrierId = d.carrierId) (hsome : s.tracker.unannounced? = some e) :
    s.takeAdmission d = (s.dropRetained d.carrierId).identify false e d := by
  refine (if_neg (mt (Tracker.hasId_iff _ s.tracker).mp h)).trans ?_
  have hsome' : (s.dropRetained d.carrierId).tracker.unannounced? = some e := hsome
  unfold State.dropRetained at hsome' ⊢
  rw [hsome']

theorem State.announce_dropRetained {s : State} (h : ∀ e ∈ s.tracker.table, e.tag < s.tracker.nextTag) (d : DoseRecord) :
    (s.dropRetained d.carrierId).announce d = (s.pinFor d.recipe).1.setTracker
      { s.tracker with
        retained := s.tracker.retained.filter fun x => x.carrierId != d.carrierId
        table := s.tracker.table ++ [{ s.tracker.expected d with recipePending := !(s.pinFor d.recipe).2 }]
        nextTag := s.tracker.nextTag + 1 } := by
  have hdose : (s.pinFor d.recipe).1.dose = s.dose := by simp
  have hdropped : s.dropRetained d.carrierId
      = s.withCarriers (s.dropRetained d.carrierId).tracker s.dose := rfl
  rw [State.announce_eq (s := s.dropRetained d.carrierId) h, hdropped, State.pinFor_withCarriers, ← hdose]
  rfl

/-- Settles O22: an ADMIT by the cases of R37, the identity match by `State.identify_spec`; the intake check by fields. -/
theorem admitMakesAnExpectedEntry : Obligations.AdmitMakesAnExpectedEntry := by
  refine ⟨fun s f rest hrun hflushed hq hkind hbounds => ?line, fun kind payload d => ?intake⟩
  case line =>
    intro left
    obtain ⟨_, htags, hfresh, _⟩ := id hbounds
    have hexec := exec_takeAdmit_of_head hrun hflushed hq hkind
    have hown : (s.withRxRest rest).ownZone f = true ↔ f.dest = .zone s.cfg.zoneIndex := State.ownZone_iff f _
    refine ⟨fun hdest => ?other, fun hdest hbad => ?bad, fun d hdest hgood => ?record⟩
    case other => exact hexec.trans (congrArg Host.Outcome.next (if_neg (mt hown.mp hdest)))
    case bad =>
      refine hexec.trans (congrArg Host.Outcome.next ((if_pos (hown.mpr hdest)).trans ?_))
      rw [hbad]
      rfl
    case record =>
      intro kept dropped known pin entry
      have htaken : exec .takeAdmit s = .next ((s.withRxRest rest).takeAdmission d) := by
        refine hexec.trans (congrArg Host.Outcome.next ((if_pos (hown.mpr hdest)).trans ?_))
        rw [hgood]
      refine ⟨fun hknown => ?_, fun hknown hnone => ?_, fun hknown e he hinside => ?_⟩
      · exact htaken.trans (congrArg Host.Outcome.next (State.takeAdmission_of_known hknown))
      · have hcases := State.takeAdmission_of_noUnannounced (s := s.withRxRest rest) hknown (Tracker.unannounced?_eq_none.mpr hnone)
        refine ⟨fun hlength => ?_, fun hlength => ?_⟩
        · refine htaken.trans (congrArg Host.Outcome.next (hcases.trans (if_pos ?_)))
          exact (Tracker.full_iff hbounds).mpr hlength
        · refine htaken.trans (congrArg Host.Outcome.next (hcases.trans ((if_neg ?_).trans ?_)))
          · exact fun h => absurd ((Tracker.full_iff hbounds).mp h) (by omega)
          · exact State.announce_dropRetained (s := s.withRxRest rest) hfresh d
      · intro far taken measured
        have hmatch := State.takeAdmission_of_unannounced (s := s.withRxRest rest) hknown he
        obtain ⟨hentry, hothers, hretained, hmon, hbus, hrecords⟩ := State.identify_spec (s := (s.withRxRest rest).dropRetained d.carrierId)
          (examine := false) htags (List.mem_of_find?_eq_some he) hinside (d := d) (fun h => by cases h)
        exact ⟨_, htaken.trans (congrArg Host.Outcome.next hmatch), hentry, hothers, hretained, hmon, hbus, hrecords⟩
  case intake =>
    intro n key zone
    rw [checkedDoseRecord_eq_some, readDoseRecord_eq_some]
    have hzones : (doseRecordAt payload).zones.length = n := by simp [doseRecordAt, n]
    have hempty : (doseRecordAt payload).zones = [] ↔ n = 0 := by rw [← hzones]; exact List.length_eq_zero_iff.symm
    constructor
    · rintro ⟨⟨hlen, rfl⟩, hvalid⟩
      rw [DoseRecord.valid_iff _ _ (doseRecordAt_recipe_within payload), hempty, hzones] at hvalid
      obtain ⟨hadmit, hkey, hareaMin, hareaMax, hlenMin, hlenMax, hcount, hin, hrise⟩ := hvalid
      exact ⟨hlen, hcount, rfl, hadmit, hkey, hareaMin, hareaMax, hlenMin, hlenMax, hin, hrise⟩
    · rintro ⟨hlen, hcount, hd, hadmit, hkey, hareaMin, hareaMax, hlenMin, hlenMax, hin, hrise⟩
      obtain rfl : d = doseRecordAt payload := hd
      refine ⟨⟨hlen, rfl⟩, ?_⟩
      rw [DoseRecord.valid_iff _ _ (doseRecordAt_recipe_within payload), hempty, hzones]
      exact ⟨hadmit, hkey, hareaMin, hareaMax, hlenMin, hlenMax, hcount, hin, hrise⟩

/-! ### HANDOVER (R38) -/

theorem State.takeRecord_of_known {s : State} {d : DoseRecord} (hid : d.carrierId ≠ 0)
    (h : (∃ x ∈ s.tracker.retained, x.carrierId = d.carrierId) ∨ ∃ e ∈ s.tracker.table, e.record.carrierId = d.carrierId) :
    s.takeRecord d = s :=
  if_pos ⟨hid, h.imp (Tracker.retainsId_iff _ s.tracker).mpr (Tracker.hasId_iff _ s.tracker).mpr⟩

/-- A record that is not known takes the oldest unannounced entry, or is appended. -/
theorem State.takeRecord_of_unknown {s : State} {d : DoseRecord} (h : ¬(d.carrierId ≠ 0
      ∧ ((∃ x ∈ s.tracker.retained, x.carrierId = d.carrierId) ∨ ∃ e ∈ s.tracker.table, e.record.carrierId = d.carrierId))) :
    (d.carrierId ≠ 0 → ∀ e, s.tracker.unannounced? = some e → s.takeRecord d = s.identify true e d)
      ∧ (s.tracker.unannounced? = none ∨ d.carrierId = 0 →
        s.takeRecord d = if d.resent then s else s.appendHandover d) := by
  have hunknown : ¬(d.carrierId ≠ 0 ∧ (s.tracker.retainsId d.carrierId ∨ s.tracker.hasId d.carrierId)) := fun hknown =>
    h (hknown.imp_right (Or.imp (Tracker.retainsId_iff _ s.tracker).mp (Tracker.hasId_iff _ s.tracker).mp))
  unfold State.takeRecord
  rw [if_neg hunknown]
  refine ⟨fun hid e he => ?_, fun hunmatched => ?_⟩
  · rw [he]
    exact if_pos hid
  · cases hcase : s.tracker.unannounced? with
    | none => rfl
    | some e =>
      have hzero : d.carrierId = 0 := hunmatched.resolve_left (by simp [hcase])
      exact if_neg (by simp [hzero])

theorem DoseRecord.outOfOrder_iff (zone : Nat) (d : DoseRecord) :
    d.outOfOrder zone = true ↔ ∃ z, d.zones.getLast? = some z ∧ zone ≤ z.zone := by
  unfold DoseRecord.outOfOrder
  cases d.zones.getLast? with
  | none => simp
  | some z => simp

/-- A record appended, with the order examination on the entry it makes (R38). -/
theorem State.announce_examined {s : State} (h : ∀ e ∈ s.tracker.table, e.tag < s.tracker.nextTag) (d : DoseRecord) :
    (s.announce d).examineOrder s.tracker.nextTag d =
      let appended := (s.pinFor d.recipe).1.setTracker
        { s.tracker with
          table := s.tracker.table
            ++ [{ s.tracker.expected d with
              recipePending := !(s.pinFor d.recipe).2
              record := { d with resent := false, orderError := d.orderError || d.outOfOrder s.cfg.zoneIndex } }]
          nextTag := s.tracker.nextTag + 1 }
      if d.outOfOrder s.cfg.zoneIndex then appended.tracking .order else appended := by
  have hcfg : (s.announce d).cfg = s.cfg := by
    rw [State.announce_eq h]
    simp [State.cfg]
  unfold State.examineOrder
  rw [hcfg, State.announce_eq h]
  by_cases horder : d.outOfOrder s.cfg.zoneIndex = true
  · simp only [horder, if_true, Bool.or_true]
    refine congrArg (State.tracking .order) ?_
    have htable := updateWhere_of_fresh_tag (fun e : Entry => { e with record := { e.record with orderError := true } }) h
      { s.tracker.expected d with recipePending := !(s.pinFor d.recipe).2 } rfl
    unfold State.updateEntry State.setTable
    exact congrArg (fun table => (s.pinFor d.recipe).1.setTracker
      { s.tracker with table := table, nextTag := s.tracker.nextTag + 1 }) htable
  · rw [Bool.not_eq_true] at horder
    simp only [horder, Bool.false_eq_true, if_false, Bool.or_false]
    rfl

/-- Settles O23, by the cases of R38; the identity match by `State.identify_spec`. -/
theorem handoverIsMatchedOrAppended : Obligations.HandoverIsMatchedOrAppended := by
  intro s f rest d hrun hflushed hq hkind hdest hgood hbounds left known unannounced? reaches unmatched
  obtain ⟨_, htags, hfresh, _⟩ := id hbounds
  have htaken : exec .takeHandover s = .next ((s.withRxRest rest).takeRecord d) := by
    refine (exec_takeHandover_of_head hrun hflushed hq hkind).trans (congrArg Host.Outcome.next ?_)
    refine (if_pos ((State.ownZone_iff f _).mpr hdest)).trans ?_
    rw [hgood]
  have horder : d.outOfOrder s.cfg.zoneIndex = true ↔ reaches := DoseRecord.outOfOrder_iff _ d
  refine ⟨fun hknown => ?known, fun hknown hunmatched => ?append, fun hknown hid e he hreaches hinside => ?identity⟩
  case known =>
    obtain ⟨hid, hheld⟩ := hknown
    exact htaken.trans (congrArg Host.Outcome.next (State.takeRecord_of_known hid hheld))
  case append =>
    have happended := (State.takeRecord_of_unknown (s := s.withRxRest rest) hknown).2 hunmatched
    refine ⟨fun hresent => ?_, fun hresent => ?_⟩
    · exact htaken.trans (congrArg Host.Outcome.next (happended.trans (if_pos hresent)))
    · have hfirst : (s.withRxRest rest).takeRecord d = (s.withRxRest rest).appendHandover d :=
        happended.trans (if_neg (by simp [hresent]))
      rw [htaken, hfirst]
      refine ⟨fun hlength => ?_, fun hlength => ?_⟩
      · exact congrArg Host.Outcome.next (if_pos ((Tracker.full_iff hbounds).mpr hlength))
      · intro pin entry appended
        have hroom : (s.withRxRest rest).appendHandover d = _ :=
          (if_neg fun h => absurd ((Tracker.full_iff hbounds).mp h) (by omega)).trans
            (State.announce_examined (s := s.withRxRest rest) hfresh d)
        rw [hroom]
        refine ⟨fun hreaches => ?_, fun hreaches => ?_⟩
        · exact congrArg Host.Outcome.next (if_neg (mt horder.mp hreaches))
        · exact congrArg Host.Outcome.next (if_pos (horder.mpr hreaches))
  case identity =>
    intro far taken measured
    have hmatch := (State.takeRecord_of_unknown (s := s.withRxRest rest) hknown).1 hid e he
    obtain ⟨hentry, hothers, _, hmon, hbus, hrecords⟩ := State.identify_spec (s := s.withRxRest rest) (examine := true) htags
      (List.mem_of_find?_eq_some he) hinside (d := d) (fun _ => Bool.eq_false_iff.mpr (mt horder.mp hreaches))
    exact ⟨_, htaken.trans (congrArg Host.Outcome.next hmatch), hentry, hothers, hmon, hbus, hrecords⟩

/-! ### CARRIER QUERY (R58) -/

/-- Settles O24: the youngest retained record outside the list is the last that its test finds. -/
theorem carrierQueryIsAnswered : Obligations.CarrierQueryIsAnswered := by
  refine ⟨fun s f rest hrun hflushed hq hkind => ?line, fun own payload zone ids => ?fields⟩
  case line =>
    intro left
    have hexec := exec_takeCarrierQuery_of_head hrun hflushed hq hkind
    have hown : (s.withRxRest rest).ownZone f = true ↔ f.dest = .zone s.cfg.zoneIndex := State.ownZone_iff f _
    refine ⟨fun hignored => ?ignored, fun zone ids hdest hread => ?read⟩
    case ignored =>
      refine hexec.trans (congrArg Host.Outcome.next ?_)
      by_cases hdest : f.dest = .zone s.cfg.zoneIndex
      · refine (if_pos (hown.mpr hdest)).trans ?_
        have hnone : readCarrierQuery (s.withRxRest rest).cfg.zoneIndex f.payload = none :=
          hignored.resolve_left (not_not_intro hdest)
        rw [hnone]
        rfl
      · exact if_neg (mt hown.mp hdest)
    case read =>
      have hanswer : (s.withRxRest rest).takeQueryFrame f
          = match findLast (fun d => !ids.contains d.carrierId) s.tracker.retained with
            | some d => ((s.withRxRest rest).submit (.handover { d with resent := true }) (.zone zone)).1
            | none => s.withRxRest rest := by
        refine (if_pos (hown.mpr hdest)).trans ?_
        have hread' : readCarrierQuery (s.withRxRest rest).cfg.zoneIndex f.payload = some (zone, ids) := hread
        rw [hread']
        rfl
      refine ⟨fun hall => ?_, fun older d younger hretained hd hyounger => ?_⟩
      · rw [hexec, hanswer, findLast_eq_none fun x hx => by simpa using hall x hx]
        rfl
      · rw [hexec, hanswer, hretained, findLast_of_split (by simpa using hd) fun x hx => by simpa using hyounger x hx]
        rfl
  case fields => exact readCarrierQuery_eq_some own payload zone ids

end Sys2Proof.Machine
end

section
/-! PROOFS. Settles O26, O27 and O29 to O31: pin requests, the placement of a revision, RELEASE, and what falls due in the cache. -/

namespace Sys2Proof.Machine

open Sys2Proof

/-! ### Entries by key -/

theorem CacheEntry.keyed_iff (k : Key) (e : CacheEntry) : e.keyed k = true ↔ e.recipe.key = k := by simp [CacheEntry.keyed]

theorem CacheEntry.keyed_of_ne {k : Key} {e : CacheEntry} (h : e.recipe.key ≠ k) : e.keyed k = false :=
  Bool.eq_false_iff.mpr (mt (CacheEntry.keyed_iff k e).mp h)

/-- The one entry of a key touched: it goes to rank 1 (R18). -/
theorem Cache.touch_of_one {c : Cache} {k : Key} {pre post : List CacheEntry} {e : CacheEntry} (hc : c.entries = pre ++ e :: post)
    (he : e.recipe.key = k) (hothers : ∀ x ∈ pre ++ post, x.recipe.key ≠ k) :
    c.touch k = { c with entries := e :: (pre ++ post) } := by
  have hpre : ∀ x ∈ pre, x.keyed k = false := fun x hx => CacheEntry.keyed_of_ne (hothers x (List.mem_append_left post hx))
  have hpost : ∀ x ∈ post, x.keyed k = false := fun x hx => CacheEntry.keyed_of_ne (hothers x (List.mem_append_right pre hx))
  have hkeyed : (pre ++ e :: post).filter (CacheEntry.keyed k) = [e] := by
    have hpreNil : pre.filter (CacheEntry.keyed k) = [] := List.filter_eq_nil_iff.mpr fun x hx => by simp [hpre x hx]
    have hpostNil : post.filter (CacheEntry.keyed k) = [] := List.filter_eq_nil_iff.mpr fun x hx => by simp [hpost x hx]
    rw [List.filter_append, List.filter_cons_of_pos ((CacheEntry.keyed_iff k e).mpr he), hpreNil, hpostNil]
    rfl
  have hrest : (pre ++ e :: post).filter (fun x => !x.keyed k) = pre ++ post := by
    rw [List.filter_append, List.filter_cons_of_neg (by simp [(CacheEntry.keyed_iff k e).mpr he]),
      List.filter_eq_self.mpr fun x hx => by simp [hpre x hx], List.filter_eq_self.mpr fun x hx => by simp [hpost x hx]]
  unfold Cache.touch
  rw [hc, hkeyed, hrest]
  rfl

/-! ### A pin request (R19, R28) -/

/-- A wanted record that the cache has made asks the line: the bus takes the query or refuses it, and the record keeps that. -/
theorem State.sendWanted_eq (w : Wanted) (s : State) :
    s.sendWanted w =
      let asked := s.bus.submit s.station.state (.recipeQuery w.key s.cfg.zoneIndex) .all
      { s with bus := asked.1, cache := s.cache.putWanted (if asked.2 then w.accepted else { w with sendDue := true }) } := by
  have hsubmit : s.submitRecipeQuery w.key
      = (s.setBus (s.bus.submit s.station.state (.recipeQuery w.key s.cfg.zoneIndex) .all).1,
        (s.bus.submit s.station.state (.recipeQuery w.key s.cfg.zoneIndex) .all).2) := rfl
  unfold State.sendWanted
  rw [hsubmit]
  obtain ⟨bus, taken⟩ := s.bus.submit s.station.state (.recipeQuery w.key s.cfg.zoneIndex) .all
  cases taken <;> rfl

/-- Settles O26, by the three answers of a pin request. -/
theorem pinRequestIsAnswered : Obligations.PinRequestIsAnswered := by
  intro s k
  refine ⟨fun pre e post hc he hothers => ?held, fun hholds => ⟨fun pre w post hc hw hothers => ?wanted, fun hwants => ?missing⟩⟩
  case held =>
    have hholds : s.cache.holds k = true :=
      List.any_eq_true.mpr ⟨e, by simp [hc], (CacheEntry.keyed_iff k e).mpr he⟩
    have hpinned : (s.cache.addPin k).entries = pre ++ { e with pins := e.pins + 1 } :: post := by
      unfold Cache.addPin
      rw [hc]
      exact updateWhere_of_one (CacheEntry.keyed k) _ ((CacheEntry.keyed_iff k e).mpr he)
        fun x hx => CacheEntry.keyed_of_ne (hothers x hx)
    rw [State.pinCarrier_of_held hholds, Cache.touch_of_one hpinned he hothers]
    rfl
  case wanted =>
    have hwants : s.cache.wants k = true := List.any_eq_true.mpr ⟨w, by simp [hc], beq_iff_eq.mpr hw⟩
    have hone := updateWhere_of_one (fun x : Wanted => x.key == k) (fun x => { x with waiting := x.waiting + 1 }) (beq_iff_eq.mpr hw)
      fun x hx => beq_false_of_ne (hothers x hx)
    rw [State.pinCarrier_of_wanted (Bool.eq_false_iff.mp hholds) hwants, hc, hone]
    rfl
  case missing =>
    intro asked record
    have hothers : ∀ x ∈ s.cache.wanted ++ [], (x.key == k) = false := fun x hx => by
      have hnone := List.any_eq_false.mp hwants x (by simpa using hx)
      simpa using hnone
    have hput (w : Wanted) (hw : w.key = k) : Cache.putWanted w { s.cache with wanted := s.cache.wanted ++ [Wanted.asked k] }
        = { s.cache with wanted := s.cache.wanted ++ [w] } := by
      unfold Cache.putWanted
      rw [hw]
      exact congrArg (fun wanted => { s.cache with wanted := wanted })
        (updateWhere_of_one (fun x : Wanted => x.key == k) (fun _ => w) (a := Wanted.asked k) (by simp [Wanted.asked]) hothers)
    rw [State.pinCarrier_of_missing (Bool.eq_false_iff.mp hholds) (Bool.eq_false_iff.mp hwants), State.sendWanted_eq]
    have hsame : (s.setCache { s.cache with wanted := s.cache.wanted ++ [Wanted.asked k] }).bus.submit
        (s.setCache { s.cache with wanted := s.cache.wanted ++ [Wanted.asked k] }).station.state
        (.recipeQuery (Wanted.asked k).key (s.setCache { s.cache with wanted := s.cache.wanted ++ [Wanted.asked k] }).cfg.zoneIndex)
        .all = asked := rfl
    dsimp only
    rw [hsame]
    cases htaken : asked.2 with
    | true =>
      have haccepted := hput (Wanted.asked k).accepted rfl
      simp only [record, htaken, if_true]
      refine Prod.ext ?_ rfl
      exact congrArg (fun cache => { s with bus := asked.1, cache := cache }) haccepted
    | false =>
      have hrefused := hput { Wanted.asked k with sendDue := true } rfl
      simp only [record, htaken, Bool.false_eq_true, if_false]
      refine Prod.ext ?_ rfl
      exact congrArg (fun cache => { s with bus := asked.1, cache := cache }) hrefused

/-! ### The placement of a revision (R23 to R25) -/

theorem Cache.recipe?_of_first {c : Cache} {k : Key} {pre post : List CacheEntry} {e : CacheEntry} (hc : c.entries = pre ++ e :: post)
    (he : e.recipe.key = k) (hpre : ∀ x ∈ pre, x.recipe.key ≠ k) : c.recipe? k = some e.recipe := by
  have hnone : pre.find? (CacheEntry.keyed k) = none :=
    List.find?_eq_none.mpr fun x hx => Bool.eq_false_iff.mp (CacheEntry.keyed_of_ne (hpre x hx))
  unfold Cache.recipe?
  rw [hc, List.find?_append, hnone, List.find?_cons_of_pos ((CacheEntry.keyed_iff k e).mpr he)]
  rfl

/-- A key that no entry of its id has is not held. -/
theorem Cache.recipe?_of_revisions {c : Cache} {k : Key} (h : ∀ e ∈ c.revisions k.id, e.recipe.key ≠ k) : c.recipe? k = none := by
  have hnone : c.entries.find? (CacheEntry.keyed k) = none := by
    refine List.find?_eq_none.mpr fun x hx hkeyed => ?_
    have hkey := (CacheEntry.keyed_iff k x).mp hkeyed
    exact h x (List.mem_filter.mpr ⟨hx, by simp [hkey]⟩) hkey
  unfold Cache.recipe?
  rw [hnone]
  rfl

/-- The placement by the newest held revision of the id, where the key itself is not held. -/
theorem Cache.placement_of_newest {c : Cache} {r : Recipe} {e : CacheEntry} (h : c.recipe? r.key = none)
    (hnewest : newestOf (c.revisions r.key.id) = some e) :
    c.placement r =
      if e.recipe.key.rev < r.key.rev then
        if e.pins = 0 then .new (some e.recipe.key) else if (c.revisions r.key.id).length = 1 then .new none else .limit
      else if c.wants r.key then if (c.revisions r.key.id).length = 1 then .new none else .limit else .ignored := by
  unfold Cache.placement
  simp only [h, hnewest]

/-- Settles O27: the newest of the held revisions and their number decide. -/
theorem revisionsDecideThePlacement : Obligations.RevisionsDecideThePlacement := by
  intro c r revs
  refine ⟨fun pre e post hc he hpre => ?held, fun hnone => ?_⟩
  case held =>
    unfold Cache.placement
    rw [Cache.recipe?_of_first hc he hpre]
  have hkey : c.recipe? r.key = none := Cache.recipe?_of_revisions hnone
  refine ⟨fun hrevs => ?unknown, fun e hrevs hnewer => ?newerThanOne, fun e hrevs holder => ?olderThanOne,
    fun e g hrevs hrev => ?_⟩
  case unknown =>
    have hnil : c.revisions r.key.id = [] := hrevs
    unfold Cache.placement
    simp only [hkey, hnil, newestOf]
  case newerThanOne =>
    have hone : c.revisions r.key.id = [e] := hrevs
    rw [Cache.placement_of_newest hkey (by rw [hone]; rfl), if_pos hnewer, hone]
    by_cases hpins : e.pins = 0 <;> simp [hpins]
  case olderThanOne =>
    have hone : c.revisions r.key.id = [e] := hrevs
    rw [Cache.placement_of_newest hkey (by rw [hone]; rfl), if_neg (by omega), hone]
    rfl
  have hnewest : newestOf (c.revisions r.key.id) = some e := by
    rcases hrevs with hrevs | hrevs
    · have htwo : c.revisions r.key.id = [e, g] := hrevs
      rw [htwo]
      exact if_neg (by omega)
    · have htwo : c.revisions r.key.id = [g, e] := hrevs
      rw [htwo]
      exact if_pos hrev
  have hlength : (c.revisions r.key.id).length ≠ 1 := by
    have htwo : revs.length = 2 := by rcases hrevs with hrevs | hrevs <;> rw [hrevs] <;> rfl
    have : (c.revisions r.key.id).length = 2 := htwo
    omega
  rw [Cache.placement_of_newest hkey hnewest]
  refine ⟨fun hnewer => ?_, fun holder => ?_⟩
  · rw [if_pos hnewer, if_neg hlength]
  · rw [if_neg (by omega), if_neg hlength]

/-! ### RELEASE (R173) -/

/-- The bridge asked to leave OFF with neither an OFF nor a SETPOINT waiting: the REST that leaves OFF stands at the tail (R107, R121). -/
theorem Bridge.leaveOff_of_off {b : Bridge} (hstate : b.state = .off) (hoff : ∀ m ∈ b.buffer, m ≠ .off)
    (hset : b.buffer.all (fun m => !m.isSetpoint) = true) :
    b.leaveOff = { b with leaving := .placed, buffer := b.buffer ++ [.setpoint ⟨.rest, 0⟩] } := by
  have hnoOff : ¬(b.buffer.any LaneMsg.isOff = true) := by
    rw [List.any_eq_true]
    rintro ⟨m, hm, hisOff⟩
    have := hoff m hm
    cases m <;> simp_all [LaneMsg.isOff]
  have hnoSet : ¬(b.buffer.any LaneMsg.isSetpoint = true) := by
    rw [List.any_eq_true]
    rintro ⟨m, hm, hisSet⟩
    have := List.all_eq_true.mp hset m hm
    simp [hisSet] at this
  unfold Bridge.leaveOff Bridge.placeSetpoint
  rw [if_pos hstate, if_neg hnoOff, if_neg hnoOff, if_neg hnoSet]
  rfl

@[simp] theorem Bridge.leaveOff_trips (b : Bridge) : b.leaveOff.tripCount = b.tripCount ∧ b.leaveOff.tripWindow = b.tripWindow := by
  unfold Bridge.leaveOff Bridge.placeSetpoint
  split
  next =>
    split
    next => exact ⟨rfl, rfl⟩
    next => split <;> exact ⟨rfl, rfl⟩
  next => exact ⟨rfl, rfl⟩

theorem Bridge.release_trips (b : Bridge) : b.release.tripCount = 0 ∧ b.release.tripWindow = 0 :=
  Bridge.leaveOff_trips { b with tripCount := 0, tripWindow := 0 }

theorem State.setAligned_aligned (s : State) : s.setAligned.clock.aligned = true := rfl

/-- The state in which a release has changed the bridge and the LOCKOUT condition, before the change of station state. -/
def State.released (s : State) : State := (s.setBridge s.bridge.release).clearCond .lockout .release

theorem State.release_eq (s : State) :
    s.release = if s.station.refLocked then s.released.enterJoined else s.released.releaseToListening := by
  have hstation : s.released.station = s.station := by simp [State.released]
  unfold State.release
  dsimp only
  rw [← hstation]
  rfl

/-- What an entry to JOINED or to LISTENING from LOCKOUT leaves (R173). -/
theorem State.release_spec (s : State) :
    s.release.station = { s.station with state := if s.station.refLocked then .joined else .listening, joinCount := none }
      ∧ s.release.mon.told = s.release.station.state ∧ s.release.mon.isDeclared .lockout = false
      ∧ s.release.bridge = s.bridge.release ∧ s.release.clock.aligned = s.station.refLocked
      ∧ s.release.tracker = s.tracker ∧ s.release.map.peers = s.map.peers ∧ s.release.map.yieldCount = s.map.yieldCount
      ∧ s.release.pending = s.pending := by
  have hcleared : s.released.mon.isDeclared .lockout = false := by
    unfold State.released
    rw [State.clearCond_isDeclared]
    simp [Kind.sticky]
  have hkept : s.released.station = s.station ∧ s.released.bridge = s.bridge.release ∧ s.released.tracker = s.tracker
      ∧ s.released.map = s.map ∧ s.released.pending = s.pending := by simp [State.released]
  obtain ⟨hstation, hbridge, htracker, hmap, hpending⟩ := hkept
  rw [State.release_eq]
  by_cases hlocked : s.station.refLocked = true
  · rw [if_pos hlocked, if_pos hlocked]
    have hrebuilt := State.engineRebuild_monKept (s.released.setStanding .joined none).setAligned
    refine ⟨?_, ?_, ?_, ?_, ?_, ?_, ?_, ?_, ?_⟩ <;> unfold State.enterJoined
    · simp [State.setStanding, hstation]
    · simp [State.setStanding]
    · rw [State.tellMonitor_isDeclared, hrebuilt.declared .lockout (by decide)]
      simpa using hcleared
    · simp [hbridge]
    · simp [State.setAligned_aligned, hlocked]
    · simp [htracker]
    · simp [hmap]
    · simp [hmap]
    · simp [hpending]
  · rw [if_neg hlocked, if_neg hlocked]
    have hlistens := State.engineListen_monKept (s.released.setStanding .listening s.released.station.freshJoin).clearAligned
    have hjoin : s.station.freshJoin = none := if_neg hlocked
    refine ⟨?_, ?_, ?_, ?_, ?_, ?_, ?_, ?_, ?_⟩ <;> unfold State.releaseToListening
    · simp [State.setStanding, hjoin, hstation]
    · simp [State.setStanding]
    · rw [State.tellMonitor_isDeclared, hlistens.declared .lockout (by decide)]
      simpa using hcleared
    · simp [hbridge]
    · simp [State.clearAligned, hlocked]
    · simp [htracker]
    · simp [hmap]
    · simp [hmap]
    · simp [hpending]

/-- Settles O29, by `State.release_spec`; the CLAIM that may follow moves the bus and the slot map's own part alone. -/
theorem releaseEndsALockout : Obligations.ReleaseEndsALockout := by
  intro s f rest hrun hflushed hq hkind
  refine ⟨fun hstate => ?other, fun hstate => ?lockout⟩
  case other =>
    refine congrArg Host.Outcome.next ((State.takeFrame_of_head _ hrun hq hkind).trans ?_)
    have hsame : (s.withRxRest rest).takeReleaseFrame = s.withRxRest rest := if_neg hstate
    rw [hsame]
    exact State.flushClaim_of_claimsFlushed hflushed
  case lockout =>
    have hreleased : (s.withRxRest rest).takeReleaseFrame = (s.withRxRest rest).release := if_pos hstate
    have hexec : exec .takeRelease s = .next (s.withRxRest rest).release.flushClaim :=
      congrArg Host.Outcome.next ((State.takeFrame_of_head _ hrun hq hkind).trans (congrArg State.flushClaim hreleased))
    obtain ⟨hstation, htold, hdeclared, hbridge, haligned, htracker, hpeers, hyields, hpending⟩ := (s.withRxRest rest).release_spec
    obtain ⟨hcount, hwindow⟩ := s.bridge.release_trips
    refine ⟨_, hexec, ?_⟩
    refine ⟨?_, ?_, ?_, ?_, ?_, ?_, fun hoff hbuffer hset => ?_, ?_, ?_, ?_, ?_⟩
    · simp only [State.flushClaim_leaves]
      exact hstation
    · simp only [State.flushClaim_leaves]
      exact htold
    · simp only [State.flushClaim_leaves]
      exact hdeclared
    · simp only [State.flushClaim_leaves, hbridge]
      exact hcount
    · simp only [State.flushClaim_leaves, hbridge]
      exact hwindow
    · simp only [State.flushClaim_leaves]
      exact haligned
    · simp only [State.flushClaim_leaves, hbridge]
      exact Bridge.leaveOff_of_off (b := { s.bridge with tripCount := 0, tripWindow := 0 }) hoff hbuffer hset
    · simp only [State.flushClaim_leaves]
      exact htracker
    · simp only [State.flushClaim_kept]
      exact hpeers
    · simp only [State.flushClaim_kept]
      exact hyields
    · simp only [State.flushClaim_leaves]
      exact hpending

/-! ### Answers due (R32) -/

theorem State.ownTaking_of_due {s : State} {t : Task} {due : State → Bool} (hrun : s.running) (ht : t ∈ s.boundary.owed)
    (hdue : due s = true) : s.ownTaking t due = s.takeTask t := by
  refine (State.unlessHeld_of_running hrun _).trans (if_pos ?_)
  simp [ht, hdue]

/-- A taking that needs none before it and leaves the slot map alone brings no CLAIM (log 23). -/
theorem State.takeTask_of_quiet {s : State} {t : Task} (ht : t ∈ s.boundary.owed) (hneeds : taskNeeds t = [])
    (hflushed : s.claimsFlushed) (hmap : (runTask t (s.setBoundary (s.boundary.paid t))).map = s.map) :
    s.takeTask t = runTask t (s.setBoundary (s.boundary.paid t)) := by
  rw [State.takeTask_of_owed ht hneeds]
  exact State.flushClaim_of_claimsFlushed (by unfold State.claimsFlushed; rw [hmap]; exact hflushed)

/-- The bus as one answer leaves it (R32). -/
def State.answered (s : State) (b : Bus) (a : Answer) : Bus :=
  match s.cache.recipe? a.key with
  | some r => (b.submit s.station.state (.recipe r) .all).1
  | none => b

/-- Answers going out one by one move the bus alone. -/
theorem State.sendAnswers_eq (due : List Answer) (s : State) :
    due.foldl (fun s a => s.sendAnswer a.key) s = s.setBus (due.foldl s.answered s.bus) := by
  induction due generalizing s with
  | nil => rfl
  | cons a rest ih =>
    have hone : s.sendAnswer a.key = s.setBus (s.answered s.bus a) := by
      unfold State.sendAnswer State.answered
      cases s.cache.recipe? a.key <;> rfl
    rw [List.foldl_cons, List.foldl_cons, hone, ih]
    rfl

/-- The cache's slot boundary: the schedule counted, and the answers at 0 sent (R32). -/
theorem State.tickAnswers_eq (s : State) :
    s.tickAnswers = { s with
      bus := (s.cache.answers.filter fun a => a.remaining - 1 == 0).foldl s.answered s.bus
      cache :=
        { s.cache with
          answers :=
            (s.cache.answers.map fun a => { a with remaining := a.remaining - 1 }).filter fun a => decide (0 < a.remaining) } } := by
  unfold State.tickAnswers
  dsimp only
  rw [State.sendAnswers_eq, List.filter_map (p := fun a : Answer => a.remaining == 0), List.foldl_map]
  rfl

/-- Settles O30: the answers at 0 go out over the state whose schedule has been counted. -/
theorem answersGoOut : Obligations.AnswersGoOut := by
  intro s hrun hflushed howed hdue due send
  have hat : s.answerDue = true := by
    obtain ⟨a, ha, hone⟩ := hdue
    exact List.any_eq_true.mpr ⟨a, ha, beq_iff_eq.mpr hone⟩
  refine congrArg Host.Outcome.next ((State.ownTaking_of_due hrun howed hat).trans ?_)
  rw [State.takeTask_of_quiet howed rfl hflushed (by simp [runTask])]
  exact State.tickAnswers_eq _

/-! ### Wanted records at a frame boundary (R29, R30) -/

/-- Settles O31: the timer of a wanted record by its fields, and the two rows of the table by the one taking they share. -/
theorem wantedRecordsAskTheLine : Obligations.WantedRecordsAskTheLine := by
  refine ⟨fun s w _ => ?timer, fun s hrun hflushed howed => ?rows⟩
  case timer =>
    intro put asked
    refine ⟨fun hdue hfar => ?_, fun hdue hnear havailable hsends => ?_, fun hact => ?_⟩
    · unfold State.tickWanted
      rw [if_neg (Bool.eq_false_iff.mp hdue)]
      exact if_neg (by dsimp only; omega)
    · unfold State.tickWanted
      rw [if_neg (Bool.eq_false_iff.mp hdue)]
      refine (if_pos (by dsimp only; omega)).trans ?_
      exact if_pos ⟨havailable, hsends⟩
    · cases hdue : w.sendDue with
      | true =>
        unfold State.tickWanted
        rw [if_pos hdue, State.sendWanted_eq]
        dsimp only
        rw [show s.bus.submit s.station.state (.recipeQuery w.key s.cfg.zoneIndex) .all = asked from rfl]
        cases asked.2 <;> rfl
      | false =>
        obtain ⟨hnear, hleft⟩ := hact.resolve_left (by simp [hdue])
        have hzero : w.framesToNext - 1 = 0 := by omega
        unfold State.tickWanted
        rw [if_neg (Bool.eq_false_iff.mp hdue)]
        refine (if_pos hzero).trans ((if_neg hleft).trans ?_)
        rw [State.sendWanted_eq]
        dsimp only
        rw [show s.bus.submit s.station.state (.recipeQuery w.key s.cfg.zoneIndex) .all = asked from rfl, hzero]
        cases asked.2 <;> rfl
  case rows =>
    intro owed due
    have hrow (unavailable : Bool) (hdue : due unavailable) :
        s.ownTaking .cacheFrame (State.wantedDue unavailable) = s.cache.wanted.foldl (fun u w => u.tickWanted w) owed := by
      obtain ⟨w, hw, havailable, hacts⟩ := hdue
      have hat : s.wantedDue unavailable = true :=
        List.any_eq_true.mpr ⟨w, hw, by simpa [havailable] using hacts⟩
      rw [State.ownTaking_of_due hrun howed hat, State.takeTask_of_quiet howed rfl hflushed (by simp [runTask])]
      rfl
    exact ⟨fun hdue => congrArg Host.Outcome.next (hrow false hdue), fun hdue => congrArg Host.Outcome.next (hrow true hdue)⟩

end Sys2Proof.Machine
end

section
/-! PROOFS. Settles O32, O33 and O36: ENTRY edges and forward counts (R40 to R43, R47). -/

namespace Sys2Proof.Machine

open Sys2Proof

theorem OpenRecord.eq_of_tag_ne {tag : Nat} {records : List OpenRecord} (h : ∀ r ∈ records, r.tag ≠ tag) :
    ∀ r ∈ records ++ [], (r.tag == tag) = false := fun r hr => beq_false_of_ne (h r (by simpa using hr))

/-! ### The record that opens with an entry (R124, R125) -/

/-- A record as it opens, UNIDENTIFIED where the entry has no id. -/
def OpenRecord.opened (e : Entry) : OpenRecord :=
  { OpenRecord.fresh e.tag with flags := if e.record.carrierId = 0 then 0x20#16 else 0#16 }

theorem ZoneFlag.mask_unidentified : ZoneFlag.unidentified.mask = 0x20#16 := by decide

theorem OpenRecord.opened_eq (e : Entry) :
    OpenRecord.setIf (e.record.carrierId == 0) .unidentified (OpenRecord.fresh e.tag) = OpenRecord.opened e := by
  unfold OpenRecord.setIf OpenRecord.opened
  by_cases hid : e.record.carrierId = 0
  · rw [if_pos (beq_iff_eq.mpr hid), if_pos hid, OpenRecord.set, ZoneFlag.mask_unidentified]
    simp [OpenRecord.fresh]
  · rw [if_neg (by simpa using hid), if_neg hid]
    rfl

/-- An entry whose tag no open record has gets one record, with its target fixed where its recipe is held. -/
theorem State.openRecord_eq {s : State} {e : Entry} (h : ∀ r ∈ s.dose.records, r.tag ≠ e.tag) :
    s.openRecord e = s.setDose
      { s.dose with
        records := s.dose.records ++ [(OpenRecord.opened e).fix s.cfg.zoneIndex e.record.area (s.recipeOf e)] } := by
  unfold State.openRecord
  dsimp only
  rw [OpenRecord.opened_eq]
  have hone := updateWhere_of_one (fun r : OpenRecord => r.tag == e.tag) (OpenRecord.fix s.cfg.zoneIndex e.record.area (s.recipeOf e))
    (a := OpenRecord.opened e) (beq_iff_eq.mpr rfl) (OpenRecord.eq_of_tag_ne h)
  exact congrArg (fun records => s.setDose { s.dose with records := records }) hone

theorem State.recipeOf_eq (e : Entry) (s : State) : s.recipeOf e = e.record.recipe.bind fun k => s.cache.recipe? k := by
  unfold State.recipeOf
  cases e.record.recipe <;> rfl

/-! ### The table by tags -/

/-- With no tag given twice, a change of an entry by its tag changes it alone. -/
theorem updateWhere_of_distinct {table pre post : List Entry} {e : Entry} (f : Entry → Entry) (h : table = pre ++ e :: post)
    (htags : table.Pairwise fun a b => a.tag ≠ b.tag) :
    updateWhere (fun x => x.tag == e.tag) f table = pre ++ f e :: post := by
  rw [h] at htags ⊢
  obtain ⟨_, htail, hcross⟩ := List.pairwise_append.mp htags
  refine updateWhere_of_one (fun x : Entry => x.tag == e.tag) f (beq_iff_eq.mpr rfl) fun x hx => beq_false_of_ne ?_
  rcases List.mem_append.mp hx with hpre | hpost
  · exact hcross x hpre e List.mem_cons_self
  · exact ((List.pairwise_cons.mp htail).1 x hpost).symm

theorem State.entryRise_of_glitch {s : State} (h : ∃ n, s.tracker.entryTravel = some n ∧ n < 25) :
    s.entryRise = s.raise .tracking .entryGlitch := by
  obtain ⟨n, htravel, hnear⟩ := h
  refine if_pos ?_
  unfold Tracker.entryGlitch
  rw [htravel]
  exact decide_eq_true hnear

theorem State.entryRise_of_accepted {s : State} (h : ¬∃ n, s.tracker.entryTravel = some n ∧ n < 25) :
    s.entryRise = (s.setTracker { s.tracker with entryTravel := some 0 }).arrive := by
  refine if_neg fun hglitch => h ?_
  unfold Tracker.entryGlitch at hglitch
  cases htravel : s.tracker.entryTravel with
  | none => simp [htravel] at hglitch
  | some n =>
    rw [htravel] at hglitch
    exact ⟨n, rfl, of_decide_eq_true hglitch⟩

/-- The ids of the table are not changed by an entry without one. -/
theorem Tracker.ids_append {t : Tracker} {e : Entry} (h : e.record.carrierId = 0) :
    ({ t with table := t.table ++ [e] } : Tracker).ids = t.ids := by
  simp [Tracker.ids, h]

/-- An unannounced entry at the tail with its open record, and the dominant carrier formed anew (R41). -/
def State.withUnknown (s : State) : State :=
  { s with
    tracker :=
      { s.tracker with
        table := s.tracker.table ++ [s.tracker.unknownEntry s.cfg], nextTag := s.tracker.nextTag + 1
        dominant := dominantOf s.cfg.zoneLength (s.tracker.table ++ [s.tracker.unknownEntry s.cfg]) }
    dose := { s.dose with records := s.dose.records ++ [OpenRecord.opened (s.tracker.unknownEntry s.cfg)] } }

/-- An accepted ENTRY edge with no EXPECTED entry and room in the table (R41, R56). -/
theorem State.arriveUnknown_of_room {s raised : State} {e : Entry} {asked : Bus × Bool} (hroom : s.tracker.full = false)
    (htags : ∀ e ∈ s.tracker.table, e.tag < s.tracker.nextTag) (hrecords : ∀ r ∈ s.dose.records, r.tag < s.tracker.nextTag)
    (he : e = s.tracker.unknownEntry s.cfg) (hraise : raised = s.withUnknown.raise .tracking .unannounced)
    (hask : asked = raised.bus.submit s.station.state (.carrierQuery s.cfg.zoneIndex s.tracker.ids) (.zone (s.cfg.zoneIndex - 1))) :
    s.arriveUnknown =
      { raised with
        bus := asked.1
        tracker := { s.withUnknown.tracker with
          table := s.tracker.table ++ [if asked.2 then e.queryAccepted else { e with queryDue := true }] } } := by
  have hopen := State.openRecord_eq (s := s.appendEntry e) (e := e) fun r hr => by
    have : r.tag < s.tracker.nextTag := hrecords r hr
    have : e.tag = s.tracker.nextTag := congrArg Entry.tag he
    omega
  have hmade : ((s.appendEntry e).openRecord e).formDominant = s.withUnknown := by
    rw [hopen, he]
    rfl
  have hraised : raised.tracker = s.withUnknown.tracker ∧ raised.station = s.station := by simp [hraise, State.withUnknown]
  obtain ⟨htracker, hstation⟩ := hraised
  have hids : raised.tracker.ids = s.tracker.ids := by
    rw [htracker]
    exact Tracker.ids_append (t := s.tracker) (e := s.tracker.unknownEntry s.cfg) rfl
  have hcfg : raised.cfg = s.cfg := by
    unfold State.cfg
    rw [hstation]
  have harrive : s.arriveUnknown = raised.queryCarrier e.tag := by
    refine (if_neg (Bool.eq_false_iff.mp hroom)).trans ?_
    rw [hraise, ← hmade, he]
    rfl
  have hasked : raised.submit (.carrierQuery raised.cfg.zoneIndex raised.tracker.ids) (.zone (raised.cfg.zoneIndex - 1))
      = (raised.setBus asked.1, asked.2) := by
    unfold State.submit
    rw [hids, hcfg, hstation, hask]
  rw [harrive, State.queryCarrier_eq]
  dsimp only
  rw [hasked]
  have htable (f : Entry → Entry) : (raised.setBus asked.1).updateEntry e.tag f
      = { raised with bus := asked.1, tracker := { s.withUnknown.tracker with table := s.tracker.table ++ [f e] } } := by
    have hone := updateWhere_of_fresh_tag f htags e (congrArg Entry.tag he)
    have htag : e.tag = s.tracker.nextTag := congrArg Entry.tag he
    unfold State.updateEntry State.setTable
    have hset : (raised.setBus asked.1).tracker = s.withUnknown.tracker := htracker
    rw [hset, ← hone, htag, he]
    rfl
  cases asked.2 <;> exact htable _

/-- Settles O32: a glitch, the oldest EXPECTED entry, a full table, or an unannounced entry. -/
theorem entryEdgeMakesACarrierPresent : Obligations.EntryEdgeMakesACarrierPresent := by
  intro s hrun htracks hbounds hrecords glitch
  obtain ⟨_, htags, hfresh, _⟩ := id hbounds
  have hexec : exec .entryRising s = .next s.entryRise :=
    congrArg Host.Outcome.next (State.sense_of_tracks State.entryRise hrun htracks)
  refine ⟨fun hglitch => ?_, fun hglitch => ?_⟩
  · rw [hexec, State.entryRise_of_glitch hglitch]
  rw [hexec, State.entryRise_of_accepted hglitch]
  refine ⟨fun pre e post htable hpre he hnone => ?expected, fun hall hlength => ?full, fun hall hlength => ?unknown⟩
  case expected =>
    intro arrived opened fixed
    have hfind : s.tracker.table.find? (fun x => !x.present) = some e := by
      rw [htable, List.find?_append, List.find?_eq_none.mpr fun x hx => by simp [hpre x hx], List.find?_cons_of_pos (by simp [he])]
      rfl
    have hupdate : updateWhere (fun x => x.tag == e.tag) Entry.arrive s.tracker.table = pre ++ arrived :: post :=
      updateWhere_of_distinct Entry.arrive htable htags
    have hfixed : (OpenRecord.opened e.arrive).fix s.cfg.zoneIndex e.arrive.record.area (s.recipeOf e.arrive) = fixed := by
      rw [State.recipeOf_eq]
      have hrecord : e.arrive.record = e.record := rfl
      unfold OpenRecord.fix
      rw [hrecord]
      cases hrecipe : e.record.recipe.bind fun k => s.cache.recipe? k <;> simp only [fixed, hrecipe] <;> rfl
    have hopen := State.openRecord_eq (s := (s.setTracker { s.tracker with entryTravel := some 0 }).updateEntry e.tag Entry.arrive)
      (e := e.arrive) hnone
    unfold State.arrive
    have hfind' : (s.setTracker { s.tracker with entryTravel := some 0 }).tracker.table.find? (fun x => !x.present) = some e := hfind
    rw [hfind']
    dsimp only
    rw [hopen, ← hfixed, ← hupdate]
    rfl
  case full =>
    have hnone : (s.setTracker { s.tracker with entryTravel := some 0 }).tracker.table.find? (fun x => !x.present) = none :=
      List.find?_eq_none.mpr fun x hx => by simp [hall x hx]
    unfold State.arrive
    rw [hnone]
    exact congrArg Host.Outcome.next (if_pos ((Tracker.full_iff hbounds).mpr hlength))
  case unknown =>
    intro e opened made raised asked queried
    have hnone : (s.setTracker { s.tracker with entryTravel := some 0 }).tracker.table.find? (fun x => !x.present) = none :=
      List.find?_eq_none.mpr fun x hx => by simp [hall x hx]
    have hroom : (s.setTracker { s.tracker with entryTravel := some 0 }).tracker.full = false :=
      Bool.eq_false_iff.mpr fun h => absurd ((Tracker.full_iff hbounds).mp h) (by omega)
    unfold State.arrive
    rw [hnone]
    exact congrArg Host.Outcome.next (State.arriveUnknown_of_room hroom hfresh hrecords rfl rfl rfl)

/-! ### The forced departure limit (R47) -/

theorem Entry.pastLimit_iff (zoneLength : Nat) (e : Entry) :
    e.pastLimit zoneLength = true ↔ e.present = true ∧ zoneLength + 25 < e.leading - e.length := by
  unfold Entry.pastLimit gateTolerance
  rw [Bool.and_eq_true, decide_eq_true_iff]
  refine and_congr_right fun _ => ?_
  omega

/-- With no entry past the limit nothing departs. -/
theorem State.checkLimit_of_inside {s : State} (h : ∀ x ∈ s.tracker.table, x.present = true → x.leading - x.length ≤ s.cfg.zoneLength + 25) :
    s.checkLimit = s := by
  have hnone : s.tracker.table.filter (Entry.pastLimit s.cfg.zoneLength) = [] := by
    refine List.filter_eq_nil_iff.mpr fun x hx hpast => ?_
    obtain ⟨hpresent, hfar⟩ := (Entry.pastLimit_iff _ x).mp hpast
    exact absurd (h x hx hpresent) (by omega)
  unfold State.checkLimit
  rw [hnone]
  rfl

/-- With the head entry alone past the limit, it departs by position. -/
theorem State.checkLimit_of_head {s : State} {e : Entry} {rest : List Entry} (htable : s.tracker.table = e :: rest)
    (he : e.present = true) (hpast : s.cfg.zoneLength + 25 < e.leading - e.length)
    (hrest : ∀ x ∈ rest, x.present = true → x.leading - x.length ≤ s.cfg.zoneLength + 25) :
    s.checkLimit = ((s.flagTag e.tag .forcedDeparture).depart e.tag).raise .tracking .forced := by
  have hnone : rest.filter (Entry.pastLimit s.cfg.zoneLength) = [] := by
    refine List.filter_eq_nil_iff.mpr fun x hx hpast => ?_
    obtain ⟨hpresent, hfar⟩ := (Entry.pastLimit_iff _ x).mp hpast
    exact absurd (hrest x hx hpresent) (by omega)
  unfold State.checkLimit
  rw [htable, List.filter_cons_of_pos ((Entry.pastLimit_iff _ e).mpr ⟨he, hpast⟩), hnone]
  rfl

/-! ### ENTRY falling (R42) -/

theorem farApart_iff (a b : Nat) : farApart a b = true ↔ a + 25 < b ∨ b + 25 < a := by
  unfold farApart gateTolerance
  rw [Bool.or_eq_true, decide_eq_true_iff, decide_eq_true_iff]

/-- The measured length goes to the entries of the tag. -/
theorem updateEntry_measureLength {s : State} {e : Entry} (he : e ∈ s.tracker.table)
    (htags : s.tracker.table.Pairwise fun a b => a.tag ≠ b.tag) :
    updateWhere (fun x => x.tag == e.tag) Entry.measureLength s.tracker.table
      = s.tracker.table.map fun x =>
        if x.tag == e.tag then { x with trailingSeen := true, length := max 100 (min 3000 e.entryTravel) } else x := by
  refine List.map_congr_left fun x hx => ?_
  by_cases htag : x.tag = e.tag
  · have hsame : some x = some e := by
      rw [← State.entry?_of_mem htags hx, htag, State.entry?_of_mem htags he]
    obtain rfl := Option.some.inj hsame
    simp [Entry.measureLength]
  · have : (x.tag == e.tag) = false := beq_false_of_ne htag
    simp [this]

/-- Settles O33: the youngest PRESENT entry, its travel, and its length against the record's. -/
theorem entryFallMeasuresTheLength : Obligations.EntryFallMeasuresTheLength := by
  intro s hrun htracks hbounds present
  obtain ⟨_, htags, _⟩ := id hbounds
  have hexec : exec .entryFalling s = .next s.entryFall :=
    congrArg Host.Outcome.next (State.sense_of_tracks State.entryFall hrun htracks)
  rw [hexec]
  refine ⟨fun hnone => ?noMatch, fun e hlast hseen => ⟨fun hnear => ?glitch, fun htravel => ?measured⟩⟩
  case noMatch =>
    refine congrArg Host.Outcome.next ?_
    unfold State.entryFall
    rcases hnone with hnil | ⟨e, hlast, hseen⟩
    · have hpresent : (presentOf s.tracker.table).getLast? = none := by
        rw [show presentOf s.tracker.table = [] from hnil]
        rfl
      rw [hpresent]
      rfl
    · have hpresent : (presentOf s.tracker.table).getLast? = some e := hlast
      rw [hpresent]
      exact if_pos hseen
  case glitch =>
    refine congrArg Host.Outcome.next ?_
    have hpresent : (presentOf s.tracker.table).getLast? = some e := hlast
    unfold State.entryFall
    rw [hpresent]
    exact (if_neg (Bool.eq_false_iff.mp hseen)).trans (if_pos hnear)
  case measured =>
    intro far table measured formed raised
    have hpresent : (presentOf s.tracker.table).getLast? = some e := hlast
    have hmem : e ∈ s.tracker.table := (List.mem_filter.mp (List.mem_of_getLast? hlast)).1
    have hfall : s.entryFall = (State.checkLength e measured).settleTable := by
      unfold State.entryFall
      rw [hpresent]
      refine ((if_neg (Bool.eq_false_iff.mp hseen)).trans (if_neg (by unfold gateTolerance; omega))).trans ?_
      refine congrArg (fun u : State => (u.checkLength e).settleTable) ?_
      unfold State.updateEntry State.setTable
      rw [updateEntry_measureLength hmem htags]
      rfl
    have hfar : (!e.unannounced && farApart e.entryTravel e.record.length) = true ↔ far := by
      rw [Bool.and_eq_true, farApart_iff, Bool.not_eq_true']
    rw [hfall]
    refine ⟨fun hclose => ?_, fun hwide => ?_, fun u hinside => State.checkLimit_of_inside hinside⟩
    · have hlength : State.checkLength e measured = measured := if_neg (mt hfar.mp hclose)
      rw [hlength]
      rfl
    · have hlength : State.checkLength e measured = raised := if_pos (hfar.mpr hwide)
      have htracker : raised.tracker = measured.tracker ∧ raised.station = s.station := by simp [raised, measured]
      rw [hlength]
      unfold State.settleTable State.formDominant State.cfg
      rw [htracker.1, htracker.2]
      simp only [formed, htracker.1]
      rfl

/-! ### Forward counts (R43) -/

/-- Settles O36: the table as one count moves it, and the forced departure limit. -/
theorem forwardCountMovesTheCarriers : Obligations.ForwardCountMovesTheCarriers := by
  intro s hrun htracks table moved
  refine ⟨?_, fun hinside => State.checkLimit_of_inside hinside, fun e rest htable he hpast hrest =>
    State.checkLimit_of_head htable he hpast hrest⟩
  refine congrArg Host.Outcome.next ((State.sense_of_tracks State.countForward hrun htracks).trans ?_)
  rfl

end Sys2Proof.Machine
end

section
/-! PROOFS. Settles O34 and O35: EXIT edges (R45 to R47, R53 to R55). -/

namespace Sys2Proof.Machine

open Sys2Proof

/-! ### Departure (R53) -/

/-- The zone record that a departing entry closes. -/
def State.closedRecord (e : Entry) (s : State) : Option ZoneRecord :=
  (s.dose.records.find? fun r => r.tag == e.tag).map
    (OpenRecord.close s.cfg.zoneIndex s.cfg.stationAddress (((s.recipeOf e).map Recipe.tolerance).getD 0))

/-- A departure moves the table, the open records, the pin, the lists of departed carriers and the bus. -/
theorem State.departEntry_eq (e : Entry) (s : State) :
    s.departEntry e =
      let table := s.tracker.table.filter fun x => x.tag != e.tag
      { s with
        tracker :=
          { s.tracker with
            table := table, dominant := dominantOf s.cfg.zoneLength table
            retained := retain (e.departing (s.closedRecord e)) s.tracker.retained, departed := s.recall e }
        dose := { s.dose with records := s.dose.records.filter fun r => r.tag != e.tag }
        cache := (e.record.recipe.map fun k => s.cache.release k).getD s.cache
        bus := (s.bus.submit s.station.state (.handover (e.departing (s.closedRecord e))) (.zone (nextZone s.cfg))).1 } := by
  unfold State.departEntry
  dsimp only
  cases hrecipe : e.record.recipe <;> rfl

theorem State.depart_table (tag : Nat) (s : State) : (s.depart tag).tracker.table = s.tracker.table.filter fun x => x.tag != tag := by
  unfold State.depart
  cases he : s.entry? tag with
  | none =>
    refine (List.filter_eq_self.mpr fun x hx => ?_).symm
    have hnot := List.find?_eq_none.mp he x hx
    simpa using hnot
  | some e =>
    obtain rfl : e.tag = tag := by simpa using List.find?_some he
    dsimp only
    rw [State.departEntry_eq]

/-- A retained list with a nonzero id: the youngest three stay before it (R55). -/
theorem retain_eq (d : DoseRecord) (retained : List DoseRecord) :
    retain d retained = if d.carrierId = 0 then retained else retained.drop (retained.length - 3) ++ [d] := by
  unfold retain
  by_cases hid : d.carrierId = 0
  · rw [if_pos hid, if_pos hid]
  · rw [if_neg hid, if_neg hid]
    by_cases hfull : 4 ≤ retained.length
    · rw [if_pos hfull]
    · have hnone : retained.length - 3 = 0 := by omega
      rw [if_neg hfull, hnone, List.drop_zero]

/-! ### Entries whose EXIT falling edge was missed (R45, step 1) -/

theorem State.exitMissed_table (tag : Nat) (s : State) :
    (s.exitMissed tag).tracker.table = s.tracker.table.filter fun x => x.tag != tag := by
  unfold State.exitMissed State.tracking
  rw [(State.raise_leaves .tracking .exitMissed _).2.2.2.2.2.1, State.depart_table]
  simp

@[simp] theorem State.exitMissed_station (tag : Nat) (s : State) : (s.exitMissed tag).station = s.station := by
  unfold State.exitMissed State.tracking
  simp

theorem State.exitMisseds_table (tags : List Nat) (s : State) :
    (tags.foldl (fun u tag => u.exitMissed tag) s).tracker.table = s.tracker.table.filter fun x => decide (x.tag ∉ tags) := by
  induction tags generalizing s with
  | nil => exact (List.filter_eq_self.mpr fun x _ => by simp).symm
  | cons tag rest ih =>
    rw [List.foldl_cons, ih, State.exitMissed_table, List.filter_filter]
    refine List.filter_congr fun x _ => ?_
    simp only [List.mem_cons, not_or, Bool.decide_and, bne, Bool.and_comm]
    by_cases hx : x.tag = tag <;> simp [hx]

theorem State.departMissed_of_none {s : State} (h : s.tracker.table.filter Entry.leaving = []) : s.departMissed = s := by
  unfold State.departMissed
  rw [h]
  rfl

/-- After step 1 no entry at EXIT is left, so that taking it again changes nothing. -/
theorem State.departMissed_departMissed (s : State) : s.departMissed.departMissed = s.departMissed := by
  refine State.departMissed_of_none (List.filter_eq_nil_iff.mpr fun x hx hleaving => ?_)
  unfold State.departMissed at hx
  rw [State.exitMisseds_table] at hx
  obtain ⟨hin, hout⟩ := List.mem_filter.mp hx
  exact of_decide_eq_true hout (List.mem_map.mpr ⟨x, List.mem_filter.mpr ⟨hin, hleaving⟩, rfl⟩)

theorem State.departMissed_station (s : State) : s.departMissed.station = s.station :=
  foldl_keeps State.station (fun u tag => State.exitMissed_station tag u) _ _

theorem State.exitRise_departMissed (s : State) : s.departMissed.exitRise = s.exitRise := by
  unfold State.exitRise
  rw [State.departMissed_departMissed]

/-! ### The correction at EXIT (R45, step 3) -/

/-- An entry behind the head is reached by the entry before it in the corrected table. -/
def reachedAt (corrected : List Entry) (i : Nat) (x : Entry) : Prop :=
  x.present = true ∧ ∃ b, corrected[i]? = some b ∧ b.leading ≤ x.leading

/-- What the entries behind a corrected entry become: those that the entry before them would reach are pushed behind it. -/
structure PushedBack (head : Entry) (rest rest' : List Entry) (moved : List Nat) : Prop where
  tags : rest'.map Entry.tag = rest.map Entry.tag
  entries : ∀ (i : Nat) (x b : Entry), rest[i]? = some x → (head :: rest')[i]? = some b →
    (reachedAt (head :: rest') i x → rest'[i]? = some { x with leading := b.leading - 1 })
      ∧ (¬reachedAt (head :: rest') i x → rest'[i]? = some x)
  marks : ∀ tag, tag ∈ moved ↔ ∃ (i : Nat) (x : Entry), rest[i]? = some x ∧ reachedAt (head :: rest') i x ∧ x.tag = tag

theorem PushedBack.length {head : Entry} {rest rest' : List Entry} {moved : List Nat} (h : PushedBack head rest rest' moved) :
    rest'.length = rest.length := by
  simpa using congrArg List.length h.tags

/-- Entries none of which is PRESENT are not reached. -/
theorem PushedBack.of_expected {head : Entry} {rest : List Entry} (h : ∀ x ∈ rest, x.present = false) :
    PushedBack head rest rest [] := by
  have hnot (i : Nat) (x : Entry) (hx : rest[i]? = some x) : ¬reachedAt (head :: rest) i x := fun hreached => by
    have := h x (List.mem_of_getElem? hx)
    rw [hreached.1] at this
    cases this
  refine ⟨rfl, fun i x b hx _ => ⟨fun hreached => absurd hreached (hnot i x hx), fun _ => hx⟩, fun tag => ?_⟩
  constructor
  · intro hmem
    cases hmem
  · rintro ⟨i, x, hx, hreached, _⟩
    exact absurd hreached (hnot i x hx)

/-- One more entry before entries that are pushed back behind it: as it was, or moved. -/
theorem PushedBack.cons {head e e' : Entry} {rest rest' : List Entry} {moved moved' : List Nat} (h : PushedBack e' rest rest' moved)
    (htag : e'.tag = e.tag)
    (hmoved : e.present = true ∧ head.leading ≤ e.leading → e' = { e with leading := head.leading - 1 } ∧ moved' = e.tag :: moved)
    (hkept : ¬(e.present = true ∧ head.leading ≤ e.leading) → e' = e ∧ moved' = moved) :
    PushedBack head (e :: rest) (e' :: rest') moved' := by
  have hfirst : reachedAt (head :: e' :: rest') 0 e ↔ e.present = true ∧ head.leading ≤ e.leading := by
    simp [reachedAt]
  have hlater (i : Nat) (x : Entry) : reachedAt (head :: e' :: rest') (i + 1) x ↔ reachedAt (e' :: rest') i x := by
    simp [reachedAt]
  refine ⟨by simp [htag, h.tags], fun i x b hx hb => ?entries, fun tag => ?marks⟩
  case entries =>
    cases i with
    | zero =>
      obtain rfl : e = x := by simpa using hx
      obtain rfl : head = b := by simpa using hb
      rw [hfirst]
      exact ⟨fun hreached => by simp [(hmoved hreached).1], fun hreached => by simp [(hkept hreached).1]⟩
    | succ i =>
      rw [hlater]
      exact h.entries i x b (by simpa using hx) (by simpa using hb)
  case marks =>
    have hshift : (∃ (i : Nat) (x : Entry), (e :: rest)[i]? = some x ∧ reachedAt (head :: e' :: rest') i x ∧ x.tag = tag)
        ↔ (reachedAt (head :: e' :: rest') 0 e ∧ e.tag = tag) ∨ tag ∈ moved := by
      rw [h.marks]
      constructor
      · rintro ⟨i, x, hx, hreached, htag⟩
        cases i with
        | zero =>
          obtain rfl : e = x := by simpa using hx
          exact .inl ⟨hreached, htag⟩
        | succ i => exact .inr ⟨i, x, by simpa using hx, (hlater i x).mp hreached, htag⟩
      · rintro (⟨hreached, htag⟩ | ⟨i, x, hx, hreached, htag⟩)
        · exact ⟨0, e, rfl, hreached, htag⟩
        · exact ⟨i + 1, x, by simpa using hx, (hlater i x).mpr hreached, htag⟩
    rw [hshift, hfirst]
    by_cases hreached : e.present = true ∧ head.leading ≤ e.leading
    · rw [(hmoved hreached).2, List.mem_cons]
      simp [hreached, eq_comm]
    · rw [(hkept hreached).2]
      simp [hreached]

/-- The recursion of the correction meets its specification, where the PRESENT entries stand before the EXPECTED ones (R35). -/
theorem pushBack_spec {rest : List Entry} (h : rest.Pairwise fun a b => b.present = true → a.present = true) (head : Entry) :
    PushedBack head rest (pushBack head.leading rest).1 (pushBack head.leading rest).2 := by
  induction rest generalizing head with
  | nil => exact .of_expected (by simp)
  | cons e rest ih =>
    obtain ⟨hahead, htail⟩ := List.pairwise_cons.mp h
    unfold pushBack
    by_cases hpresent : e.present = true
    · by_cases hclear : e.leading < head.leading
      · rw [if_pos hpresent, if_pos hclear]
        exact (ih htail e).cons rfl (fun hreached => absurd hreached.2 (by omega)) fun _ => ⟨rfl, rfl⟩
      · rw [if_pos hpresent, if_neg hclear]
        exact (ih htail { e with leading := head.leading - 1 }).cons rfl (fun _ => ⟨rfl, rfl⟩)
          fun hnot => absurd ⟨hpresent, by omega⟩ hnot
    · rw [if_neg hpresent]
      refine .of_expected fun x hx => Bool.eq_false_iff.mpr fun hx' => ?_
      rcases List.mem_cons.mp hx with rfl | hlater
      · exact hpresent hx'
      · exact hpresent (hahead x hlater hx')

/-- A change of one entry with the dominant carrier formed anew, over a state that has the table and the configuration. -/
theorem State.settleTable_updateEntry {u : State} {cfg : Cfg} {tag : Nat} {f : Entry → Entry} {table : List Entry} (hcfg : u.cfg = cfg)
    (htable : updateWhere (fun x => x.tag == tag) f u.tracker.table = table) :
    (u.updateEntry tag f).settleTable
      = State.checkLimit { u with tracker := { u.tracker with table := table, dominant := dominantOf cfg.zoneLength table } } := by
  rw [← htable, ← hcfg]
  rfl

/-- The marks of a correction leave tracker and configuration. -/
theorem State.flagTags_leaves (moved : List Nat) (s : State) :
    (moved.foldl (fun (u : State) tag => u.flagTag tag .trackError) s).tracker = s.tracker
      ∧ (moved.foldl (fun (u : State) tag => u.flagTag tag .trackError) s).station = s.station :=
  ⟨foldl_keeps State.tracker (fun u tag => by simp) moved s, foldl_keeps State.station (fun u tag => by simp) moved s⟩

/-- Settles O34: step 1 leaves no entry at EXIT; then the head entry, corrected or not. -/
theorem exitRiseFindsTheLeadingEdge : Obligations.ExitRiseFindsTheLeadingEdge := by
  intro s hrun htracks hbounds atExit
  obtain ⟨_, htags, _, hpresent, _⟩ := id hbounds
  have hexec {u : State} (hstation : u.station = s.station) : exec .exitRising u = .next u.exitRise :=
    congrArg Host.Outcome.next (State.sense_of_tracks State.exitRise (by unfold State.running; rw [hstation]; exact hrun)
      (by rw [hstation]; exact htracks))
  refine ⟨?again, fun hnone => ⟨fun hexpected => ?noMatch, fun e rest htable he => ?head⟩⟩
  case again =>
    have hmissed : exec .exitRising s.departMissed = .next s.departMissed.exitRise := hexec s.departMissed_station
    rw [hexec rfl, ← State.exitRise_departMissed]
    exact hmissed.symm
  case noMatch =>
    have hfind : s.tracker.table.find? (fun x => x.present && !x.atExit) = none :=
      List.find?_eq_none.mpr fun x hx => by simp [hexpected x hx]
    rw [hexec rfl]
    unfold State.exitRise
    dsimp only
    rw [State.departMissed_of_none hnone, hfind]
    rfl
  case head =>
    intro formed
    have hout : e.atExit = false := by
      have := List.filter_eq_nil_iff.mp hnone e (by simp [htable])
      simpa [he] using this
    have hfind : s.tracker.table.find? (fun x => x.present && !x.atExit) = some e := by
      rw [htable]
      exact List.find?_cons_of_pos (by simp [he, hout])
    have hrise : s.exitRise = ((s.correctExit e).updateEntry e.tag fun x => { x with atExit := true }).settleTable := by
      unfold State.exitRise
      dsimp only
      rw [State.departMissed_of_none hnone, hfind]
    rw [hexec rfl, hrise]
    refine ⟨fun hlow hhigh => ?near, fun hfar => ?far⟩
    case near =>
      have hkept : s.correctExit e = s := if_neg fun h => by
        have := (farApart_iff _ _).mp h
        omega
      have hupdate := updateWhere_of_distinct (pre := []) (fun x => { x with atExit := true }) htable htags
      rw [hkept, State.settleTable_updateEntry rfl hupdate]
      rfl
    case far =>
      have hmoved : farApart e.leading s.cfg.zoneLength = true := (farApart_iff _ _).mpr (by omega)
      have hpushed := pushBack_spec (List.pairwise_cons.mp (htable ▸ hpresent)).2 { e with leading := s.cfg.zoneLength }
      have hcorrected : correctTable s.cfg.zoneLength e.tag s.tracker.table
          = ({ e with leading := s.cfg.zoneLength } :: (pushBack s.cfg.zoneLength rest).1,
            e.tag :: (pushBack s.cfg.zoneLength rest).2) := by
        rw [htable]
        exact if_pos rfl
      generalize hrest' : (pushBack s.cfg.zoneLength rest).1 = rest' at hpushed hcorrected
      generalize hmarked : (pushBack s.cfg.zoneLength rest).2 = moved at hpushed hcorrected
      refine ⟨rest', e.tag :: moved, ?_⟩
      intro corrected reached
      refine ⟨hpushed.length, hpushed.entries, fun tag => ?_, ?_⟩
      · rw [List.mem_cons, hpushed.marks]
        rfl
      · have hcorrect : s.correctExit e
            = (((e.tag :: moved).foldl (fun (u : State) tag => u.flagTag tag .trackError) (s.setTable corrected)).raise .tracking
              .position) := by
          unfold State.correctExit
          rw [if_pos hmoved, hcorrected]
          rfl
        obtain ⟨hflagged, hstation⟩ := State.flagTags_leaves (e.tag :: moved) (s.setTable corrected)
        rw [hcorrect]
        generalize hmarks : (e.tag :: moved).foldl (fun (u : State) tag => u.flagTag tag .trackError) (s.setTable corrected) = marked
          at hflagged hstation
        have htracker : (marked.raise .tracking .position).tracker = { s.tracker with table := corrected } := by
          simp only [State.raise_leaves, hflagged]
          rfl
        have hcfg : (marked.raise .tracking .position).cfg = s.cfg := by
          unfold State.cfg
          simp only [State.raise_leaves, hstation]
          rfl
        have htagsOf : corrected.map Entry.tag = s.tracker.table.map Entry.tag := by
          rw [htable]
          exact congrArg (e.tag :: ·) hpushed.tags
        have hdistinct : corrected.Pairwise fun a b => a.tag ≠ b.tag := by
          rw [← List.pairwise_map (f := Entry.tag) (R := fun a b => a ≠ b), htagsOf, List.pairwise_map]
          exact htags
        have hupdate := updateWhere_of_distinct (pre := []) (e := { e with leading := s.cfg.zoneLength })
          (fun x => { x with atExit := true }) rfl hdistinct
        refine congrArg Host.Outcome.next ((State.settleTable_updateEntry
          (table := { e with leading := s.cfg.zoneLength, atExit := true } :: rest') hcfg ?_).trans ?_)
        · rw [htracker]
          exact hupdate
        rw [← hmarks]
        rfl

/-! ### A carrier's release (R20) -/

theorem Cache.holdsNewer_iff (k : Key) (c : Cache) :
    c.holdsNewer k = true ↔ ∃ x ∈ c.entries, x.recipe.key.id = k.id ∧ k.rev < x.recipe.key.rev := by
  simp [Cache.holdsNewer]

/-- The one entry of a held key released: flushed without a pin under a newer revision, or one pin less. -/
theorem Cache.release_of_held {c : Cache} {k : Key} {pre post : List CacheEntry} {e : CacheEntry} (hc : c.entries = pre ++ e :: post)
    (he : e.recipe.key = k) (hothers : ∀ x ∈ pre ++ post, x.recipe.key ≠ k) :
    c.release k =
      let released : Cache := { c with entries := pre ++ { e with pins := e.pins - 1 } :: post }
      if e.pins - 1 = 0 ∧ released.holdsNewer k = true
      then { c with entries := pre ++ post, answers := c.answers.filter fun a => a.key != k } else released := by
  have hkeyed : e.keyed k = true := (CacheEntry.keyed_iff k e).mpr he
  have hkeyed' : CacheEntry.keyed k { e with pins := e.pins - 1 } = true := hkeyed
  have hne : ∀ x ∈ pre ++ post, x.keyed k = false := fun x hx => CacheEntry.keyed_of_ne (hothers x hx)
  have hpre : ∀ x ∈ pre, x.keyed k = false := fun x hx => hne x (List.mem_append_left post hx)
  have hpost : ∀ x ∈ post, x.keyed k = false := fun x hx => hne x (List.mem_append_right pre hx)
  have hholds : c.holds k = true := List.any_eq_true.mpr ⟨e, by simp [hc], hkeyed⟩
  have hdrop : c.dropPin k = { c with entries := pre ++ { e with pins := e.pins - 1 } :: post } := by
    unfold Cache.dropPin
    rw [hc, updateWhere_of_one _ _ hkeyed hne]
  have hfind : (pre ++ { e with pins := e.pins - 1 } :: post).find? (CacheEntry.keyed k) = some { e with pins := e.pins - 1 } := by
    rw [List.find?_append, List.find?_eq_none.mpr fun x hx => by simp [hpre x hx], List.find?_cons_of_pos hkeyed']
    rfl
  have hdiscard : (pre ++ { e with pins := e.pins - 1 } :: post).filter (fun x => !x.keyed k) = pre ++ post := by
    rw [List.filter_append, List.filter_cons_of_neg (by simp [hkeyed']), List.filter_eq_self.mpr fun x hx => by simp [hpre x hx],
      List.filter_eq_self.mpr fun x hx => by simp [hpost x hx]]
  have htest : (Cache.holds k { c with entries := pre ++ { e with pins := e.pins - 1 } :: post }
        && Cache.pinsOf k { c with entries := pre ++ { e with pins := e.pins - 1 } :: post } == 0
        && Cache.holdsNewer k { c with entries := pre ++ { e with pins := e.pins - 1 } :: post }) = true
      ↔ e.pins - 1 = 0 ∧ Cache.holdsNewer k { c with entries := pre ++ { e with pins := e.pins - 1 } :: post } = true := by
    have hstill : Cache.holds k { c with entries := pre ++ { e with pins := e.pins - 1 } :: post } = true :=
      List.any_eq_true.mpr ⟨{ e with pins := e.pins - 1 }, by simp, hkeyed'⟩
    have hpins : Cache.pinsOf k { c with entries := pre ++ { e with pins := e.pins - 1 } :: post } = e.pins - 1 := by
      unfold Cache.pinsOf
      dsimp only
      rw [hfind]
      rfl
    rw [hstill, hpins, Bool.true_and, Bool.and_eq_true, beq_iff_eq]
  unfold Cache.release Cache.unpin
  rw [if_pos hholds]
  dsimp only
  rw [hdrop]
  by_cases hflush : e.pins - 1 = 0 ∧ Cache.holdsNewer k { c with entries := pre ++ { e with pins := e.pins - 1 } :: post } = true
  · rw [if_pos hflush, if_pos (htest.mpr hflush)]
    unfold Cache.discard
    dsimp only
    rw [hdiscard]
  · rw [if_neg hflush, if_neg (mt htest.mp hflush)]

/-- A wanted record released: one waiting entry less, and gone with the last. -/
theorem Cache.release_of_wanted {c : Cache} {k : Key} {pre post : List Wanted} {w : Wanted} (hholds : c.holds k = false)
    (hc : c.wanted = pre ++ w :: post) (hw : w.key = k) (hothers : ∀ x ∈ pre ++ post, x.key ≠ k)
    (hwaiting : ∀ x ∈ pre ++ post, 0 < x.waiting) :
    c.release k = { c with wanted := if w.waiting ≤ 1 then pre ++ post else pre ++ { w with waiting := w.waiting - 1 } :: post } := by
  have hone := updateWhere_of_one (fun x : Wanted => x.key == k) (fun x => { x with waiting := x.waiting - 1 }) (beq_iff_eq.mpr hw)
    fun x hx => beq_false_of_ne (hothers x hx)
  have hpre : pre.filter (fun x => decide (0 < x.waiting)) = pre :=
    List.filter_eq_self.mpr fun x hx => decide_eq_true (hwaiting x (List.mem_append_left post hx))
  have hpost : post.filter (fun x => decide (0 < x.waiting)) = post :=
    List.filter_eq_self.mpr fun x hx => decide_eq_true (hwaiting x (List.mem_append_right pre hx))
  unfold Cache.release Cache.unwant
  rw [if_neg (Bool.eq_false_iff.mp hholds)]
  dsimp only
  rw [hc, hone, List.filter_append, hpre]
  by_cases hlast : w.waiting ≤ 1
  · rw [if_pos hlast, List.filter_cons_of_neg (by simp; omega), hpost]
  · rw [if_neg hlast, List.filter_cons_of_pos (by simp; omega), hpost]

/-- Settles O35: the oldest entry at EXIT departs by `State.departEntry_eq`; its release by the key's standing in the cache. -/
theorem exitFallDeparts : Obligations.ExitFallDeparts := by
  refine ⟨fun s hrun htracks hbounds => ?edge, fun c k => ⟨fun pre e post hc he hothers => ?held,
    fun pre w post hholds hc hw hothers hwaiting => ⟨fun hlast => ?last, fun hmore => ?more⟩⟩⟩
  case edge =>
    obtain ⟨_, htags, _⟩ := id hbounds
    have hexec : exec .exitFalling s = .next s.exitFall :=
      congrArg Host.Outcome.next (State.sense_of_tracks State.exitFall hrun htracks)
    rw [hexec]
    refine ⟨fun hnone => ?noMatch, fun pre e post htable he hexit hpre => ?departs⟩
    case noMatch =>
      have hfind : s.tracker.table.find? Entry.leaving = none := by
        refine List.find?_eq_none.mpr fun x hx hleaving => ?_
        obtain ⟨hpresent, hatExit⟩ := (Bool.and_eq_true _ _).mp hleaving
        rw [hnone x hx hpresent] at hatExit
        cases hatExit
      unfold State.exitFall
      rw [hfind]
      rfl
    case departs =>
      intro recipe closed leaves next
      have hfind : s.tracker.table.find? Entry.leaving = some e := by
        have hnot : pre.find? Entry.leaving = none := by
          refine List.find?_eq_none.mpr fun x hx hleaving => ?_
          obtain ⟨hpresent, hatExit⟩ := (Bool.and_eq_true _ _).mp hleaving
          rw [hpre x hx hpresent] at hatExit
          cases hatExit
        rw [htable, List.find?_append, hnot, List.find?_cons_of_pos (by simp [Entry.leaving, he, hexit])]
        rfl
      have hentry : s.entry? e.tag = some e := State.entry?_of_mem htags (by simp [htable])
      have hfall : s.exitFall = s.departEntry e := by
        unfold State.exitFall State.depart
        rw [hfind]
        dsimp only
        rw [hentry]
      have hleft : s.tracker.table.filter (fun x => x.tag != e.tag) = pre ++ post := by
        rw [htable] at htags ⊢
        obtain ⟨_, htail, hcross⟩ := List.pairwise_append.mp htags
        have hpost := (List.pairwise_cons.mp htail).1
        rw [List.filter_append, List.filter_cons_of_neg (by simp),
          List.filter_eq_self.mpr fun x hx => by simpa using hcross x hx e List.mem_cons_self,
          List.filter_eq_self.mpr fun x hx => by simpa using (hpost x hx).symm]
      have hclosed : s.closedRecord e = closed := by
        unfold State.closedRecord
        rw [State.recipeOf_eq]
      have hnext : nextZone s.cfg = next := by
        unfold nextZone
        rfl
      have hleaves : e.departing (s.closedRecord e) = leaves := by rw [hclosed]; rfl
      rw [hfall, State.departEntry_eq]
      dsimp only
      rw [hleft, hleaves, retain_eq]
      rfl
  case held =>
    intro superseded
    have hnewer : Cache.holdsNewer k { c with entries := pre ++ { e with pins := e.pins - 1 } :: post } = true ↔ superseded := by
      rw [Cache.holdsNewer_iff]
      constructor
      · rintro ⟨x, hx, hid, hrev⟩
        refine ⟨x, ?_, hid, hrev⟩
        rcases List.mem_append.mp hx with hin | hin
        · exact List.mem_append_left post hin
        · rcases List.mem_cons.mp hin with rfl | hlater
          · rw [he] at hrev
            exact absurd hrev (by omega)
          · exact List.mem_append_right pre hlater
      · rintro ⟨x, hx, hid, hrev⟩
        refine ⟨x, ?_, hid, hrev⟩
        rcases List.mem_append.mp hx with hin | hin
        · exact List.mem_append_left _ hin
        · exact List.mem_append_right pre (List.mem_cons_of_mem _ hin)
    have hrelease := Cache.release_of_held hc he hothers
    refine ⟨fun hflush => ?_, fun hkeep => ?_⟩
    · exact hrelease.trans (if_pos ⟨by omega, hnewer.mpr hflush.2⟩)
    · exact hrelease.trans (if_neg fun h => hkeep ⟨by omega, hnewer.mp h.2⟩)
  case last => rw [Cache.release_of_wanted hholds hc hw hothers hwaiting, if_pos hlast]
  case more => rw [Cache.release_of_wanted hholds hc hw hothers hwaiting, if_neg (by omega)]

end Sys2Proof.Machine
end

section
/-! PROOFS. Settles O38: the tracker's frame boundary with a query due, and the choice of the dominant carrier (R49 to R52, R56). -/

namespace Sys2Proof.Machine

open Sys2Proof

/-! ### The query timers (R56) -/

theorem State.tickQueries_of_announced {table : List Entry} (h : ∀ x ∈ table, x.unannounced = false) (s : State) :
    table.foldl (fun u e => u.tickQuery e) s = s := by
  induction table generalizing s with
  | nil => rfl
  | cons x rest ih =>
    have hskip : s.tickQuery x = s := if_neg (by simp [h x List.mem_cons_self])
    rw [List.foldl_cons, hskip]
    exact ih (fun y hy => h y (List.mem_cons_of_mem x hy)) s

/-- The entry after its query came due: counted down, asked, and the bus's answer kept. -/
def Entry.queried (taken : Bool) (e : Entry) : Entry :=
  if taken then { e with querySends := e.querySends + 1, queryDue := false, framesToNext := 4 }
  else { e with queryDue := true, framesToNext := if e.queryDue then e.framesToNext else e.framesToNext - 1 }

/-- A query timer that has run down submits the query and marks the entry by the bus's answer. -/
theorem State.tickQuery_of_due {s : State} {pre post : List Entry} {e : Entry} (htable : s.tracker.table = pre ++ e :: post)
    (htags : s.tracker.table.Pairwise fun a b => a.tag ≠ b.tag) (he : e.unannounced = true)
    (hdue : e.queryDue = true ∨ (e.querySends < 3 ∧ e.framesToNext ≤ 1)) :
    s.tickQuery e =
      let asked := s.bus.submit s.station.state (.carrierQuery s.cfg.zoneIndex s.tracker.ids) (.zone (s.cfg.zoneIndex - 1))
      (s.setBus asked.1).setTracker { s.tracker with table := pre ++ e.queried asked.2 :: post } := by
  have hasked (u : State) (table : List Entry) (hu : u = s.setTracker { s.tracker with table := table })
      (hids : ({ s.tracker with table := table } : Tracker).ids = s.tracker.ids) :
      u.submit (.carrierQuery u.cfg.zoneIndex u.tracker.ids) (.zone (u.cfg.zoneIndex - 1))
        = (u.setBus (s.bus.submit s.station.state (.carrierQuery s.cfg.zoneIndex s.tracker.ids) (.zone (s.cfg.zoneIndex - 1))).1,
          (s.bus.submit s.station.state (.carrierQuery s.cfg.zoneIndex s.tracker.ids) (.zone (s.cfg.zoneIndex - 1))).2) := by
    have hids' : u.tracker.ids = s.tracker.ids := by
      rw [hu]
      exact hids
    unfold State.submit
    rw [hids', hu]
    rfl
  generalize hbus : s.bus.submit s.station.state (.carrierQuery s.cfg.zoneIndex s.tracker.ids) (.zone (s.cfg.zoneIndex - 1)) = asked
    at hasked
  refine (if_pos he).trans ?_
  cases hqueryDue : e.queryDue with
  | true =>
    refine (if_pos rfl).trans ?_
    rw [State.queryCarrier_eq, hasked s s.tracker.table rfl rfl]
    have hupdate (f : Entry → Entry) := updateWhere_of_distinct f htable htags
    dsimp only
    have hset (f : Entry → Entry) : (s.setBus asked.1).updateEntry e.tag f
        = (s.setBus asked.1).setTracker { s.tracker with table := pre ++ f e :: post } := by
      rw [← hupdate f]
      rfl
    rw [hset]
    cases asked.2 <;> simp [Entry.queried, Entry.queryAccepted, hqueryDue]
  | false =>
    obtain ⟨hsends, hframes⟩ := hdue.resolve_left (by simp [hqueryDue])
    have hcounted := updateWhere_of_distinct (fun x => { x with framesToNext := x.framesToNext - 1 }) htable htags
    have hids : ({ s.tracker with
        table := updateWhere (fun x => x.tag == e.tag) (fun x => { x with framesToNext := x.framesToNext - 1 }) s.tracker.table }
        : Tracker).ids = s.tracker.ids := by
      unfold Tracker.ids
      dsimp only
      rw [hcounted, htable]
      simp
    refine (if_neg (by simp)).trans ((if_pos hsends).trans ((if_pos hframes).trans ?_))
    rw [State.queryCarrier_eq, hasked (s.updateEntry e.tag fun x => { x with framesToNext := x.framesToNext - 1 }) _ rfl hids]
    dsimp only
    have hset (f : Entry → Entry) (hf : ∀ x, (f x).tag = x.tag) :
        ((s.updateEntry e.tag fun x => { x with framesToNext := x.framesToNext - 1 }).setBus asked.1).updateEntry e.tag f
        = (s.setBus asked.1).setTracker
          { s.tracker with table := pre ++ f { e with framesToNext := e.framesToNext - 1 } :: post } := by
      have htwice := updateWhere_updateWhere (p := fun x : Entry => x.tag == e.tag)
        (f := fun x => { x with framesToNext := x.framesToNext - 1 }) (g := f) (fun _ => rfl) s.tracker.table
      have hupdate := updateWhere_of_distinct (fun x => f { x with framesToNext := x.framesToNext - 1 }) htable htags
      rw [← hupdate, ← htwice]
      rfl
    rw [hset _ (by cases asked.2 <;> exact fun _ => rfl)]
    cases asked.2 <;> simp [Entry.queried, Entry.queryAccepted, hqueryDue]

/-! ### The greatest area (R50) -/

theorem greatest_eq_none {area : Entry → Nat} {among : List Entry} (h : among = []) : greatest area among = none := by
  rw [h]
  rfl

theorem greatest_mem {area : Entry → Nat} {among : List Entry} {e : Entry} (h : greatest area among = some e) : e ∈ among := by
  induction among generalizing e with
  | nil => cases h
  | cons x rest ih =>
    unfold greatest at h
    cases hrest : greatest area rest with
    | none =>
      rw [hrest] at h
      obtain rfl := Option.some.inj h
      exact List.mem_cons_self
    | some y =>
      rw [hrest] at h
      dsimp only at h
      split at h
      next =>
        obtain rfl := Option.some.inj h
        exact List.mem_cons_of_mem x (ih hrest)
      next =>
        obtain rfl := Option.some.inj h
        exact List.mem_cons_self

/-- The entry of greatest area, the older on a tie. -/
theorem greatest_of_split {area : Entry → Nat} {pre post : List Entry} {e : Entry} (hpre : ∀ x ∈ pre, area x < area e)
    (hpost : ∀ x ∈ post, area x ≤ area e) : greatest area (pre ++ e :: post) = some e := by
  induction pre with
  | nil =>
    rw [List.nil_append]
    unfold greatest
    cases hrest : greatest area post with
    | none => rfl
    | some y =>
      have := hpost y (greatest_mem hrest)
      exact if_neg (by omega)
  | cons x rest ih =>
    have hrest := ih fun y hy => hpre y (List.mem_cons_of_mem x hy)
    rw [List.cons_append]
    unfold greatest
    rw [hrest]
    exact if_pos (hpre x List.mem_cons_self)

/-- The tracker's frame boundary before its query timers: count history, speed, forecast, snapshot and hand-over (R49 to R52). -/
def State.frameTracked (s : State) : State :=
  let history := (s.tracker.history ++ [s.tracker.frameCount]).drop 1
  let forecast := forecastOf s.cfg.zoneLength (history.sum / 4) s.tracker.table
  { s with
    tracker :=
      { s.tracker with history := history, frameCount := 0, speed := history.sum / 4, backwardSeen := false, forecast := forecast }
    dose := { s.dose with snapshots := lastTwo (s.dose.snapshots ++ [s.snapshot s.boundary.ended s.boundary.endedSerial]) }
    engine := { s.engine with area := (s.snapshot s.boundary.ended s.boundary.endedSerial).total }
    boundary :=
      { s.boundary with
        owed := s.boundary.owed.filter (fun x => x != .tracker), dominant := s.tracker.dominant, forecast := forecast } }

/-- Settles O38: the taking of the tracker's boundary by its steps, and the choice by `greatest_of_split`. -/
theorem carrierQueryFallsDue : Obligations.CarrierQueryFallsDue := by
  refine ⟨fun s pre e post hrun hflushed howed hframe hbounds htable he hothers hdue => ?boundary, fun zoneLength speed table => ?choice⟩
  case boundary =>
    obtain ⟨_, htags, _⟩ := id hbounds
    intro history asked forecast e'
    have hat : s.carrierQueryDue = true := by
      have hentry : (e.unannounced && (e.queryDue || (decide (e.querySends < 3) && decide (e.framesToNext ≤ 1)))) = true := by
        simpa [he] using hdue
      unfold State.carrierQueryDue
      rw [hframe, Bool.true_and]
      exact List.any_eq_true.mpr ⟨e, by simp [htable], hentry⟩
    refine congrArg Host.Outcome.next ((State.ownTaking_of_due hrun howed hat).trans ?_)
    rw [State.takeTask_of_quiet howed rfl hflushed (by simp [runTask])]
    have hboundary : runTask .tracker (s.setBoundary (s.boundary.paid .tracker)) = s.frameTracked.tickQueries := by
      refine (State.trackerBoundary_of_frame (by exact hframe)).trans ?_
      rfl
    rw [hboundary]
    generalize hset : s.frameTracked = u
    have hutable : u.tracker.table = pre ++ e :: post := by rw [← hset]; exact htable
    have hutags : u.tracker.table.Pairwise fun a b => a.tag ≠ b.tag := by rw [← hset]; exact htags
    have hquery := State.tickQuery_of_due hutable hutags he hdue
    have hasked : u.bus.submit u.station.state (.carrierQuery u.cfg.zoneIndex u.tracker.ids) (.zone (u.cfg.zoneIndex - 1)) = asked := by
      rw [← hset]
      rfl
    dsimp only at hquery
    rw [hasked] at hquery
    have he' : e' = e.queried asked.2 := rfl
    rw [he']
    unfold State.tickQueries
    rw [hutable, List.foldl_append, State.tickQueries_of_announced (fun x hx => hothers x (List.mem_append_left post hx)),
      List.foldl_cons, hquery, State.tickQueries_of_announced fun x hx => hothers x (List.mem_append_right pre hx), ← hset]
    rfl
  case choice =>
    intro area chosen present
    have hchosen (ahead : Nat) (among : List Entry) :
        chosen ahead among ((greatest (Entry.areaAhead zoneLength ahead) among).map Entry.tag) := by
      refine ⟨fun hnil => ?_, fun pre e post hsplit hpre hpost => ?_⟩
      · rw [greatest_eq_none hnil]
        rfl
      · rw [hsplit, greatest_of_split (area := Entry.areaAhead zoneLength ahead) hpre hpost]
        rfl
    refine ⟨hchosen 0 present, ?_, fun s ended serial hzone htable => ?_⟩
    · have hinside : (present.filter fun e => decide ((e.leading + 2 * speed : Int) - e.length ≤ zoneLength))
          = (presentOf table).filter fun e => decide (e.leading + 2 * speed ≤ zoneLength + e.length) := by
        refine List.filter_congr fun x _ => decide_eq_decide.mpr ?_
        omega
      rw [hinside]
      exact hchosen (2 * speed) _
    · unfold State.snapshot
      rw [htable, hzone]
      simp only [List.map_map]
      rfl

end Sys2Proof.Machine
end

section
/-! PROOFS. The slot map's boundary as a taking: its state before step 2, the CLAIM submission, and withdrawals (R61, R67, R79 to R85). -/

namespace Sys2Proof.Machine

open Sys2Proof

/-! ### CLAIM submissions (R61, R67) -/

theorem State.sendClaim_eq (s : State) :
    s.sendClaim =
      let sent := s.bus.submit s.station.state (.claim s.ownPair) .all
      { s with bus := sent.1, map := s.map.answered sent.2 } := by
  have hsubmit : s.submit (.claim s.ownPair) .all
      = (s.setBus (s.bus.submit s.station.state (.claim s.ownPair) .all).1, (s.bus.submit s.station.state (.claim s.ownPair) .all).2) :=
    rfl
  unfold State.sendClaim
  rw [hsubmit]
  rfl

theorem State.flushClaim_of_calls {s : State} (hcalls : s.map.calls = true) (hmay : s.mayClaim = true) : s.flushClaim = s.sendClaim :=
  (if_pos hcalls).trans (if_pos hmay)

/-- What a map keeps through a CLAIM submission of its own pair. -/
def SlotMap.ofClaims (m : SlotMap) : Option ClaimPart × Option ClaimPart × Option Nat × Option Pattern :=
  (m.active, m.pending, m.window, m.request)

theorem SlotMap.answered_ofClaims (accepted : Bool) (m : SlotMap) : (m.answered accepted).ofClaims = m.ofClaims := by
  cases accepted <;> rfl

theorem State.flushClaim_ofClaims (s : State) : s.flushClaim.map.ofClaims = s.map.ofClaims := by
  unfold State.flushClaim State.submitClaim
  split
  next =>
    split
    next =>
      rw [State.sendClaim_eq]
      exact SlotMap.answered_ofClaims _ _
    next => rfl
  next => rfl

@[simp] theorem State.flushClaim_parts (s : State) : s.flushClaim.map.active = s.map.active
    ∧ s.flushClaim.map.pending = s.map.pending ∧ s.flushClaim.map.window = s.map.window ∧ s.flushClaim.map.request = s.map.request := by
  have h := s.flushClaim_ofClaims
  simpa [SlotMap.ofClaims] using h

/-! ### The taking of a frame boundary (R60, R85) -/

/-- The state in which step 2 of the slot map's frame boundary begins: the window counted, and the peer records aged (R65, R68). -/
def State.atStepTwo (s : State) : State :=
  ((s.setBoundary (s.boundary.paid .slotMap)).setMap s.map.tickWindow).setMap s.map.tickWindow.agePeers

theorem State.takeTask_slotMap_frame {s : State} (ho : Task.slotMap ∈ s.boundary.owed) (hl : s.map.live = true)
    (hf : s.boundary.frame = true) :
    s.takeTask .slotMap = (((s.setBoundary (s.boundary.paid .slotMap)).setMap s.map.tickWindow).mapFrame).flushClaim := by
  rw [State.takeTask_of_owed ho rfl]
  exact congrArg State.flushClaim ((if_pos hl).trans (if_pos hf))

/-- The five steps with their results named (R85), over the state of a taking. -/
theorem State.takeTask_slotMap_of {s u c p : State} {committed failed : Bool} (ho : Task.slotMap ∈ s.boundary.owed)
    (hl : s.map.live = true) (hf : s.boundary.frame = true) (hu : s.atStepTwo.expireUnneeded = u) (hc : u.closeWindow = (c, committed))
    (hp : c.countAndPlan (u.map.windowClosed && u.map.pending.isSome) = (p, failed)) :
    s.takeTask .slotMap = ((p.setMap p.map.refreshed).tellEngine ⟨committed, failed⟩).flushClaim.flushClaim := by
  rw [State.takeTask_slotMap_frame ho hl hf]
  exact congrArg State.flushClaim (State.mapFrame_of hu hc hp)

theorem State.closeWindow_of_open {s : State} (h : s.map.pending = none ∨ s.map.windowClosed = false) : s.closeWindow = (s, false) := by
  unfold State.closeWindow
  cases hp : s.map.pending with
  | none => rfl
  | some own =>
    have hopen := h.resolve_left (by simp [hp])
    exact if_neg (by simp [hopen])

/-- The count falls, and no plan is made: nothing is asked for, or planning is not allowed (R72). -/
theorem State.countAndPlan_of_idle {s : State} (h : 2 ≤ s.map.hold ∨ s.map.request = none) :
    s.countAndPlan false = (s.setMap { s.map with hold := s.map.hold - 1 }, false) := by
  show State.plan (s.setMap { s.map with hold := s.map.hold - 1 }) = _
  unfold State.plan
  cases hr : s.map.request with
  | none =>
    have : (s.setMap { s.map with hold := s.map.hold - 1 }).map.request = none := hr
    rw [this]
  | some p =>
    have hhold := h.resolve_right (by simp [hr])
    have : (s.setMap { s.map with hold := s.map.hold - 1 }).map.request = some p := hr
    rw [this]
    refine if_neg ?_
    have hheld : (s.map.hold - 1 == 0) = false := beq_false_of_ne (by omega)
    simp [State.mayPlan, hheld]

/-- Planning places no active part and counts no frame without need. -/
theorem State.countAndPlan_active (closing : Bool) (s : State) :
    (s.countAndPlan closing).1.map.active = s.map.active ∧ (s.countAndPlan closing).1.map.unneeded = s.map.unneeded := by
  unfold State.countAndPlan
  dsimp only
  split
  next => exact ⟨rfl, rfl⟩
  next =>
    unfold State.plan
    split
    next =>
      split
      next => split <;> simp
      next => exact ⟨rfl, rfl⟩
    next => exact ⟨rfl, rfl⟩

theorem SlotMap.windowClosed_tick (m : SlotMap) :
    m.tickWindow.windowClosed = true ↔ ∃ n, m.window = some n ∧ 63 ≤ n := by
  unfold SlotMap.windowClosed SlotMap.tickWindow
  cases m.window with
  | none => simp
  | some n =>
    have hmin : 64 ≤ min 127 (n + 1) ↔ 63 ≤ n := by omega
    simp [hmin]

/-- Step 2 of a boundary where the own part stays: the unneeded count alone moves (R80). -/
theorem State.expireUnneeded_atStepTwo {s : State}
    (h : s.map.active = none ∨ s.engine.active.needsClaim = true ∨ s.map.unneeded ≠ 15) :
    s.atStepTwo.expireUnneeded = s.atStepTwo.setMap
      { s.map.tickWindow.agePeers with
        unneeded :=
          if s.map.active.isNone then s.map.unneeded
          else if s.engine.active.needsClaim then 0 else s.map.unneeded + 1 } :=
  State.expireUnneeded_stays (s := s.atStepTwo) h

/-! ### A withdrawal as the engine takes it (R100) -/

theorem Setpoint.lowered_atRest (cfg : Cfg) : Setpoint.atRest.lowered cfg = Setpoint.atRest := by
  unfold Setpoint.lowered
  exact if_pos (Nat.zero_min _)

/-- The immediate stop: a reverse setpoint goes to REST, in the engine and on the lane (R100). -/
theorem State.withdrawNotice_stops (s : State) :
    s.withdrawNotice.engine.setpoint = (if s.engine.setpoint.dir = .rev then Setpoint.atRest else s.engine.setpoint)
      ∧ s.withdrawNotice.bridge = (if s.engine.setpoint.dir = .rev then s.bridge.takeSetpoint Setpoint.atRest else s.bridge) := by
  have hstop : s.stopReverse.engine.setpoint = (if s.engine.setpoint.dir = .rev then Setpoint.atRest else s.engine.setpoint)
      ∧ s.stopReverse.bridge = (if s.engine.setpoint.dir = .rev then s.bridge.takeSetpoint Setpoint.atRest else s.bridge) := by
    unfold State.stopReverse State.handSetpointNow
    split
    next =>
      rw [Setpoint.lowered_atRest]
      exact ⟨rfl, rfl⟩
    next => exact ⟨rfl, rfl⟩
  unfold State.withdrawNotice
  simpa using hstop

end Sys2Proof.Machine
end

section
/-! PROOFS. Settles O39 and O42: peers that age, parts without need, refresh and retry (R65, R67 to R69, R80). -/

namespace Sys2Proof.Machine

open Sys2Proof

theorem exec_slotMapRow_of_due {s : State} {due : State → Bool} (hrun : s.running) (ho : Task.slotMap ∈ s.boundary.owed)
    (hdue : due s = true) : (Host.Outcome.next (s.ownTaking .slotMap due) : Host.Outcome State Fault Refusal)
      = .next (s.takeTask .slotMap) := congrArg Host.Outcome.next (State.ownTaking_of_due hrun ho hdue)

/-- What every taking of a frame boundary leaves, with the peer records aged (R65). -/
theorem State.takeTask_slotMap_leaves {s : State} (ho : Task.slotMap ∈ s.boundary.owed) (hl : s.map.live = true)
    (hf : s.boundary.frame = true) :
    (s.takeTask .slotMap).map.peers = (s.map.peers.map fun p => { p with age := p.age + 1 }).filter (fun p => decide (p.age < 24))
      ∧ (s.takeTask .slotMap).pending = s.pending ∧ (s.takeTask .slotMap).clock = s.clock ∧ (s.takeTask .slotMap).tracker = s.tracker
      ∧ (s.takeTask .slotMap).station = s.station
      ∧ (s.takeTask .slotMap).boundary = { s.boundary with owed := s.boundary.owed.filter fun x => x != .slotMap } := by
  rw [State.takeTask_slotMap_frame ho hl hf]
  refine ⟨?_, by simp, by simp, by simp, by simp, by simp [Boundary.paid]⟩
  simp only [State.flushClaim_kept, State.mapFrame_peers]
  rfl

/-- Settles O39: the rows of the peer records and of the unneeded count, by the taking they share. -/
theorem peersAgeAndUnneededPartsGo : Obligations.PeersAgeAndUnneededPartsGo := by
  intro s hrun _ ho hf hl aged
  obtain ⟨hpeers, hpending, hclock, htracker, hstation, hboundary⟩ := State.takeTask_slotMap_leaves ho hl hf
  refine ⟨fun hyoung => ?young, fun hold => ?old, fun hactive hneeds hunneeded hnone => ?unneeded⟩
  case young =>
    refine congrArg Host.Outcome.next (State.ownTaking_not_due _ ?_)
    have hnot : (s.map.peers.any fun p => decide (23 ≤ p.age)) = false :=
      List.any_eq_false.mpr fun p hp => by simpa using hyoung p hp
    unfold State.ageOutDue
    rw [hnot, Bool.and_false]
  case old =>
    have hdue : s.ageOutDue = true := by
      obtain ⟨p, hp, hage⟩ := hold
      unfold State.ageOutDue
      rw [hf, Bool.true_and]
      exact List.any_eq_true.mpr ⟨p, hp, decide_eq_true hage⟩
    exact ⟨_, exec_slotMapRow_of_due hrun ho hdue, hpeers, hpending, hclock, htracker, hstation, hboundary⟩
  case unneeded =>
    have hdue : s.unneededDue = true := by simp [State.unneededDue, hf, hactive, hneeds, hunneeded]
    refine ⟨_, exec_slotMapRow_of_due hrun ho hdue, hpeers, ?_⟩
    have hexpired : s.atStepTwo.expireUnneeded = (s.atStepTwo.setMap s.atStepTwo.map.dropActive).withdrawNotice :=
      State.expireUnneeded_expires (s := s.atStepTwo) hactive hneeds hunneeded
    obtain ⟨hsetpoint, hbridge⟩ := (s.atStepTwo.setMap s.atStepTwo.map.dropActive).withdrawNotice_stops
    have hparts : s.atStepTwo.expireUnneeded.map.active = none ∧ s.atStepTwo.expireUnneeded.map.pending = none
        ∧ s.atStepTwo.expireUnneeded.map.unneeded = 0 := by
      rw [hexpired]
      refine ⟨?_, State.withdrawNotice_pending hnone, ?_⟩
      · rw [State.withdrawNotice_active]
        rfl
      · simp only [State.withdrawNotice_kept]
        rfl
    rw [← hexpired] at hsetpoint hbridge
    generalize hu : s.atStepTwo.expireUnneeded = u at hparts hsetpoint hbridge
    obtain ⟨hactive', hpending', hunneeded'⟩ := hparts
    have hclosing : (u.map.windowClosed && u.map.pending.isSome) = false := by simp [hpending']
    obtain ⟨p, failed, hplan⟩ : ∃ p failed, u.countAndPlan false = (p, failed) := ⟨_, _, rfl⟩
    obtain ⟨hactive'', hunneeded''⟩ := State.countAndPlan_active false u
    have hkept : (u.countAndPlan false).1.engine = u.engine ∧ (u.countAndPlan false).1.bridge = u.bridge := by simp
    obtain ⟨hengine, hlane⟩ := hkept
    rw [hplan] at hactive'' hunneeded'' hengine hlane
    have hsame : p.engine = u.engine ∧ p.bridge = u.bridge := ⟨hengine, hlane⟩
    have htold : ((p.setMap p.map.refreshed).tellEngine ⟨false, failed⟩).map.active = none
        ∧ ((p.setMap p.map.refreshed).tellEngine ⟨false, failed⟩).engine.setpoint = u.engine.setpoint
        ∧ ((p.setMap p.map.refreshed).tellEngine ⟨false, failed⟩).bridge = u.bridge := by
      have hrefreshed : p.map.refreshed.active = none := hactive''.trans hactive'
      cases failed <;> simp [State.tellEngine, hrefreshed, hsame.1, hsame.2]
    obtain ⟨htoldActive, htoldSetpoint, htoldBridge⟩ := htold
    have htaken : s.takeTask .slotMap = ((p.setMap p.map.refreshed).tellEngine ⟨false, failed⟩).flushClaim.flushClaim :=
      State.takeTask_slotMap_of ho hl hf hu (State.closeWindow_of_open (.inl hpending'))
        (by rw [hclosing]; exact hplan)
    refine ⟨?_, ?_, ?_, ?_, hpending, hclock, htracker, hstation⟩
    · simpa [htaken] using htoldActive
    · rw [htaken]
      simp only [State.flushClaim_kept, State.tellEngine_kept]
      exact hunneeded''.trans hunneeded'
    · rw [htaken]
      simp only [State.flushClaim_leaves, htoldSetpoint]
      exact hsetpoint
    · rw [htaken]
      simp only [State.flushClaim_leaves, htoldBridge]
      exact hbridge

/-- A map that calls for a CLAIM it may submit gives its answer, and calls no more. -/
theorem State.flushClaim_flushClaim (s : State) : s.flushClaim.flushClaim = s.flushClaim := by
  refine State.flushClaim_of_claimsFlushed ?_
  unfold State.claimsFlushed State.flushClaim State.submitClaim
  split
  next =>
    split
    next =>
      rw [State.sendClaim_eq]
      dsimp only
      cases (s.bus.submit s.station.state (.claim s.ownPair) .all).2 <;> rfl
    next => rfl
  next hcalls => exact Bool.eq_false_iff.mpr hcalls

/-- The map as a frame boundary leaves it before its CLAIM, where no window closes and nothing is planned (R85). -/
def SlotMap.idleFrame (m : SlotMap) : SlotMap :=
  { m with
    peers := (m.peers.map fun p => { p with age := p.age + 1 }).filter fun p => decide (p.age < 24)
    window := m.window.map fun n => min 127 (n + 1)
    unneeded := if m.active.isSome then 0 else m.unneeded
    hold := m.hold - 1
    refresh := min 8 (m.refresh + 1)
    calls := m.calls || m.sendDue || (min 8 (m.refresh + 1) == 8 && !m.pairEmpty) }

theorem State.takeTask_slotMap_of_idle {s : State} (ho : Task.slotMap ∈ s.boundary.owed) (hl : s.map.live = true)
    (hf : s.boundary.frame = true) (hneeds : s.map.active = none ∨ s.engine.active.needsClaim = true)
    (hwindow : s.map.pending = none ∨ ∀ n, s.map.window = some n → n < 63) (hidle : 2 ≤ s.map.hold ∨ s.map.request = none) :
    s.takeTask .slotMap = ((s.setBoundary (s.boundary.paid .slotMap)).setMap s.map.idleFrame).flushClaim := by
  have hstays := State.expireUnneeded_atStepTwo (s := s) (hneeds.imp_right Or.inl)
  have hopen : s.map.pending = none ∨ s.map.tickWindow.windowClosed = false := by
    refine hwindow.imp_right fun hopen => Bool.eq_false_iff.mpr fun hclosed => ?_
    obtain ⟨n, hn, hlate⟩ := s.map.windowClosed_tick.mp hclosed
    have := hopen n hn
    omega
  have hunneeded : (if s.map.active.isNone then s.map.unneeded else if s.engine.active.needsClaim then 0 else s.map.unneeded + 1)
      = if s.map.active.isSome then 0 else s.map.unneeded := by
    cases hactive : s.map.active with
    | none => rfl
    | some own =>
      have hneeded := hneeds.resolve_left (by simp [hactive])
      simp [hneeded]
  rw [hunneeded] at hstays
  have hclose := State.closeWindow_of_open (s := s.atStepTwo.expireUnneeded) (by rw [hstays]; exact hopen)
  have hclosing : (s.atStepTwo.expireUnneeded.map.windowClosed && s.atStepTwo.expireUnneeded.map.pending.isSome) = false := by
    rw [hstays]
    show (s.map.tickWindow.windowClosed && s.map.pending.isSome) = false
    rcases hopen with hnone | hopen
    · rw [hnone]
      exact Bool.and_false _
    · rw [hopen]
      exact Bool.false_and _
  have hplan := State.countAndPlan_of_idle (s := s.atStepTwo.expireUnneeded) (by rw [hstays]; exact hidle)
  rw [State.takeTask_slotMap_of (failed := false) ho hl hf rfl hclose (by rw [hclosing]; exact hplan), State.flushClaim_flushClaim,
    hstays]
  rfl

/-- A CLAIM called for in JOINED or owed in LOCKOUT goes out with the own pair, and the queue's answer is kept. -/
theorem State.flushClaim_sent {s : State} {sent : Bus × Bool} (hcalls : s.map.calls = true) (hmay : s.mayClaim = true)
    (hsent : s.bus.submit s.station.state (.claim s.ownPair) .all = sent) :
    s.flushClaim = { s with
      bus := sent.1
      map := { s.map with
        sendDue := !sent.2, dueAtFrame := false, refresh := if sent.2 then 0 else s.map.refresh, calls := false } } := by
  rw [State.flushClaim_of_calls hcalls hmay, State.sendClaim_eq, hsent]
  obtain ⟨bus, taken⟩ := sent
  cases taken <;> rfl

/-- Settles O42: the frame boundary with nothing to plan and no window to close, and the slot boundary's retry. -/
theorem refreshAndRetrySubmitTheOwnPair : Obligations.RefreshAndRetrySubmitTheOwnPair := by
  intro s hrun hflushed ho hl left window sent
  have hnot : s.map.calls = false := hflushed
  refine ⟨fun hf hjoined hneeds hwindow hidle => ?frame, fun hf hdue => ⟨fun hwait => ?waits, fun hnow => ?slot⟩⟩
  case frame =>
    intro after
    have hsent (hcalls : (s.map.sendDue || (min 8 (s.map.refresh + 1) == 8 && !s.map.pairEmpty)) = true) :
        s.takeTask .slotMap = after := by
      rw [State.takeTask_slotMap_of_idle ho hl hf hneeds hwindow hidle]
      refine State.flushClaim_sent (sent := sent) ?_ ?_ rfl
      · show (s.map.calls || s.map.sendDue || _) = true
        rw [hnot, Bool.false_or]
        exact hcalls
      · show (s.station.state == .joined || _) = true
        rw [hjoined]
        rfl
    refine ⟨fun hpair hrefresh => ?_, fun hdue => ?_⟩
    · have hfull : min 8 (s.map.refresh + 1) = 8 := by omega
      have hnonempty : s.map.pairEmpty = false := by
        unfold SlotMap.pairEmpty
        rcases hpair with hsome | hsome
        · simp [Option.isNone_eq_false_iff.mpr hsome]
        · simp [Option.isNone_eq_false_iff.mpr hsome]
      have hrow : s.refreshDue = true := by simp [State.refreshDue, hf, hnonempty, hrefresh]
      exact (exec_slotMapRow_of_due hrun ho hrow).trans (congrArg Host.Outcome.next (hsent (by simp [hfull, hnonempty])))
    · have hrow : s.retryDue = true := by simp [State.retryDue, hf, hdue]
      exact (exec_slotMapRow_of_due hrun ho hrow).trans (congrArg Host.Outcome.next (hsent (by simp [hdue])))
  case waits =>
    refine congrArg Host.Outcome.next (State.ownTaking_not_due _ ?_)
    simp [State.retryDue, hf, hwait]
  case slot =>
    intro allowed
    have hrow : s.retryDue = true := by simp [State.retryDue, hf, hdue, hnow]
    have hretry : s.takeTask .slotMap
        = ((s.setBoundary (s.boundary.paid .slotMap)).setMap s.map.tickWindow).submitClaim.flushClaim := by
      rw [State.takeTask_of_owed ho rfl]
      refine congrArg State.flushClaim ((if_pos hl).trans ((if_neg ?_).trans (if_pos ⟨hdue, hnow⟩)))
      exact Bool.eq_false_iff.mp hf
    have hmay : ((s.setBoundary (s.boundary.paid .slotMap)).setMap s.map.tickWindow).mayClaim = true ↔ allowed := by
      show (s.station.state == .joined || (s.station.state == .lockout && s.map.sendDue && s.map.pairEmpty)) = true ↔ allowed
      simp [SlotMap.pairEmpty, hdue, allowed]
    refine ⟨fun hallowed => ?_, fun hforbidden => ?_⟩
    · refine (exec_slotMapRow_of_due hrun ho hrow).trans (congrArg Host.Outcome.next (hretry.trans ?_))
      have hsubmit : ((s.setBoundary (s.boundary.paid .slotMap)).setMap s.map.tickWindow).submitClaim
          = ((s.setBoundary (s.boundary.paid .slotMap)).setMap s.map.tickWindow).sendClaim := if_pos (hmay.mpr hallowed)
      have hpair : ((s.setBoundary (s.boundary.paid .slotMap)).setMap s.map.tickWindow).bus.submit
          ((s.setBoundary (s.boundary.paid .slotMap)).setMap s.map.tickWindow).station.state
          (.claim ((s.setBoundary (s.boundary.paid .slotMap)).setMap s.map.tickWindow).ownPair) .all = sent := rfl
      rw [hsubmit, State.sendClaim_eq, hpair]
      clear_value sent
      obtain ⟨bus, taken⟩ := sent
      cases taken <;> exact State.flushClaim_of_claimsFlushed rfl
    · refine (exec_slotMapRow_of_due hrun ho hrow).trans (congrArg Host.Outcome.next (hretry.trans ?_))
      have hsubmit : ((s.setBoundary (s.boundary.paid .slotMap)).setMap s.map.tickWindow).submitClaim
          = ((s.setBoundary (s.boundary.paid .slotMap)).setMap s.map.tickWindow).setMap
            { s.map.tickWindow with sendDue := false, dueAtFrame := false, calls := false } := if_neg (mt hmay.mp hforbidden)
      rw [hsubmit]
      exact State.flushClaim_of_claimsFlushed rfl

end Sys2Proof.Machine
end

section
/-! PROOFS. Settles O40 and O41: the window's close, the commit as the engine takes it, and planning (R66, R72 to R78, R97 to R99). -/

namespace Sys2Proof.Machine

open Sys2Proof

/-! ### The test of a part beside others (R66) -/

theorem fits_iff (cfg : Cfg) (parts : List ClaimPart) (own : ClaimPart) : fits cfg parts own = true ↔
    ∀ x, x < 64 → own.covers x = true →
      (parts.map (ClaimPart.current x)).sum + own.current x ≤ cfg.lineReverseBudget
        ∧ (parts.map (ClaimPart.onsets x)).sum + own.onsets x ≤ cfg.onsetLimit := by
  have hslot (x : Nat) : (!failsAt cfg parts own x) = true ↔ (own.covers x = true →
      (parts.map (ClaimPart.current x)).sum + own.current x ≤ cfg.lineReverseBudget
        ∧ (parts.map (ClaimPart.onsets x)).sum + own.onsets x ≤ cfg.onsetLimit) := by
    unfold failsAt loadOf onsetsOf
    rw [Bool.not_eq_true', Bool.and_eq_false_iff, Bool.or_eq_false_iff, decide_eq_false_iff_not, decide_eq_false_iff_not, Nat.not_lt, Nat.not_lt,
      ← Bool.not_eq_true, Decidable.imp_iff_not_or]
  unfold fits
  rw [List.all_eq_true]
  simp only [List.mem_range, hslot]

/-! ### A request that settles beside no pending part (R71, R97) -/

theorem SlotMap.abandon_of_none {m : SlotMap} (h : m.pending = none) : m.abandon = m := if_neg (by simp [h])

theorem SlotMap.ask_window {m : SlotMap} (p : Pattern) (h : m.pending = none) : (m.ask p).window = m.window := by
  unfold SlotMap.ask
  rw [SlotMap.abandon_of_none h]
  split <;> rfl

theorem State.settle_window {s : State} (h : s.map.pending = none) : s.settle.map.window = s.map.window := by
  unfold State.settle State.giveRequest
  dsimp only
  split
  next => rfl
  next =>
    split
    next p _ =>
      unfold State.askPlan
      split
      next => exact SlotMap.ask_window p h
      next => rfl
    next =>
      unfold State.cancelPlan
      simp only [State.clearStarved_leaves]
      have hkept : s.map.abandon.window = s.map.window := congrArg SlotMap.window (SlotMap.abandon_of_none h)
      exact hkept

theorem State.settle_starved {s : State} (h : s.mon.isDeclared .slotStarved = false) : s.settle.mon.isDeclared .slotStarved = false := by
  unfold State.settle State.giveRequest
  dsimp only
  split
  next => exact h
  next =>
    split
    next => simpa using h
    next =>
      unfold State.cancelPlan State.clearStarved
      rw [State.clearCond_isDeclared]
      have hset : (Monitor.isDeclared .slotStarved
          ((s.setEngine { s.engine with owner := s.settled.1, requested := s.settled.2 }).setMap
            { (s.setEngine { s.engine with owner := s.settled.1, requested := s.settled.2 }).map.abandon with request := none }).mon)
          = false := h
      rw [hset]
      rfl

/-- A commit's notice with no pending part left: window and SLOT STARVED stay clear (R99). -/
theorem State.commitNotice_clear {s : State} (hpending : s.map.pending = none) (hwindow : s.map.window = none)
    (hstarved : s.mon.isDeclared .slotStarved = false) :
    s.commitNotice.map.window = none ∧ s.commitNotice.mon.isDeclared .slotStarved = false := by
  have hsettle (x : State) (hmap : x.map = s.map) (hmon : x.mon = s.mon) :
      x.settle.map.window = none ∧ x.settle.mon.isDeclared .slotStarved = false :=
    ⟨(State.settle_window (by rw [hmap]; exact hpending)).trans (by rw [hmap]; exact hwindow),
      State.settle_starved (by rw [hmon]; exact hstarved)⟩
  unfold State.commitNotice
  dsimp only
  split
  next =>
    split
    next => exact hsettle _ rfl rfl
    next =>
      simp only [State.rehand_leaves]
      exact hsettle _ (by simp) (by simp)
  next =>
    simp only [State.rehand_leaves]
    exact hsettle _ (by simp) (by simp)

/-! ### The window closes (R78) -/

theorem State.closeWindow_of_closed {s : State} {own : ClaimPart} (hp : s.map.pending = some own) (hc : s.map.windowClosed = true) :
    s.closeWindow =
      if fits s.cfg (s.map.recheckParts s.cfg.stationAddress) own then ((s.setMap s.map.commit).clearCond .slotStarved .commit, true)
      else (s.setMap (s.map.yield s.cfg.stationAddress), false) := by
  unfold State.closeWindow
  rw [hp]
  exact if_pos hc

/-! ### The engine's notice of a commit (R99) -/

theorem State.settled_of_eq {s t : State} (hstation : t.station = s.station) (hactive : t.engine.active = s.engine.active)
    (hprepared : t.engine.prepared = s.engine.prepared) : t.settled = s.settled := by
  unfold State.settled
  rw [hstation, hactive, hprepared]

theorem State.rehand_engine (s : State) : ∃ sp, s.rehand.engine = { s.engine with setpoint := sp } := by
  unfold State.rehand
  split
  next => exact ⟨s.engine.setpoint, rfl⟩
  next => exact ⟨_, rfl⟩

/-- What a settled request with a setpoint handed anew leaves of the engine, the map and the dose integrator. -/
theorem State.settle_rehand_spec (x : State) :
    (x.settle.rehand.engine.owner, x.settle.rehand.engine.requested) = x.settle.rehand.settled
      ∧ x.settle.rehand.engine.tripRest = x.engine.tripRest ∧ x.settle.rehand.engine.lastDominant = x.engine.lastDominant
      ∧ x.settle.rehand.engine.active = x.engine.active ∧ x.settle.rehand.engine.prepared = x.engine.prepared
      ∧ x.settle.rehand.dose = x.dose := by
  obtain ⟨sp, hengine⟩ := x.settle.rehand_engine
  rw [State.settle_engine] at hengine
  have hsettled : x.settle.rehand.settled = x.settled :=
    State.settled_of_eq (by simp) (by rw [hengine]) (by rw [hengine])
  rw [hsettled, hengine]
  exact ⟨rfl, rfl, rfl, rfl, rfl, by simp⟩

theorem State.decideMode_names (c : Context) (s : State) : (s.decideMode c).carrier = c.carrier ∧ (s.decideMode c).key = c.key := by
  unfold State.decideMode
  split
  next => exact ⟨rfl, rfl⟩
  next => split <;> exact ⟨rfl, rfl⟩

/-- A context whose pattern the own active part matches runs NORMAL on it (R89, R90). -/
theorem State.decideMode_of_matched {s : State} {part : ClaimPart} {p : Pattern} {c : Context} (hjoined : s.station.state = .joined)
    (hactive : s.map.active = some part) (hc : c.pattern = some p)
    (hm : part.cycle = p.cycle ∧ part.runs = p.runs.map (Run.claim s.cfg part.scale)) : s.decideMode c = c.onPart part := by
  have hmatches : part.matches s.cfg p = true := by
    unfold ClaimPart.matches
    rw [Bool.and_eq_true, beq_iff_eq, beq_iff_eq]
    exact hm
  have husable : s.usablePart p = some part := by
    unfold State.usablePart State.matching
    rw [if_pos hjoined, hactive, Option.filter_some, if_pos hmatches]
  unfold State.decideMode
  simp only [hc, husable]

/-- The swap moves the PREPARED context to ACTIVE, its mode decided anew where it carries a key (R95). -/
theorem State.swapPrepared_engine {s : State} {c : Context} (h : s.engine.prepared = some c) :
    s.swapPrepared.engine
      = { s.engine with active := (if c.key.isSome then s.decideMode c else c).activated, prepared := none } := by
  unfold State.swapPrepared
  simp only [h]
  simp

theorem State.redecideActive_engine (s : State) : s.redecideActive.engine
    = { s.engine with active := if s.engine.active.key.isSome then s.decideMode s.engine.active else s.engine.active } := by
  unfold State.redecideActive
  split
  next => rfl
  next => rfl

theorem State.renewPrepared_engine (s : State) : ∃ c, s.renewPrepared.engine = { s.engine with prepared := c } := by
  unfold State.renewPrepared
  split
  next =>
    split
    next =>
      unfold State.rebuildPrepared State.buildPrepared
      split
      next => exact ⟨_, by simp; rfl⟩
      next => exact ⟨_, rfl⟩
    next => exact ⟨_, rfl⟩
  next => exact ⟨_, rfl⟩

theorem ZoneFlag.mask_mixed : ZoneFlag.mixed.mask = 0x800#16 := by decide

/-- MIXED goes to the outgoing carrier's open record alone, where another carrier governs now (R99). -/
theorem State.markMixed_dose (outgoing : Option Nat) (s : State) :
    (∀ tag, outgoing = some tag → s.engine.active.carrier ≠ some tag → (s.markMixed outgoing).dose.records
        = s.dose.records.map fun r => if r.tag = tag then { r with flags := r.flags ||| 0x800#16 } else r)
      ∧ (outgoing = none ∨ outgoing = s.engine.active.carrier → (s.markMixed outgoing).dose = s.dose) := by
  refine ⟨fun tag houtgoing hother => ?_, fun hsame => ?_⟩
  · have hmark : s.markMixed outgoing = s.flagTag tag .mixed := by
      rw [houtgoing]
      exact if_neg hother
    rw [hmark]
    have hset : OpenRecord.set .mixed = fun r => { r with flags := r.flags ||| 0x800#16 } := by
      funext r
      rw [OpenRecord.set, ZoneFlag.mask_mixed]
    refine List.map_congr_left fun r _ => ?_
    rw [hset]
    by_cases htag : r.tag = tag <;> simp [htag]
  · rcases hsame with rfl | rfl
    · rfl
    · unfold State.markMixed
      split
      next heq => rw [if_pos heq]
      next => rfl

/-- A commit's notice by the owner of the request and by a trip rest (R99). -/
theorem State.commitNotice_cases (s : State) :
    (s.engine.owner = .prepared → s.engine.tripRest = true → s.commitNotice
        = ((s.setEngine { s.engine with requested := none }).setEngine
          { s.engine with
            requested := none, committedInRest := true
            prepared := s.engine.prepared.map fun c => { c with ready := true, readyByFailure := false } }).settle)
      ∧ (s.engine.owner = .prepared → s.engine.tripRest = false → s.commitNotice
        = (((s.setEngine { s.engine with requested := none }).swapPrepared).markMixed s.engine.active.carrier).settle.rehand)
      ∧ (s.engine.owner ≠ .prepared → s.commitNotice
        = (((s.setEngine { s.engine with requested := none }).redecideActive).renewPrepared).settle.rehand) :=
  ⟨fun howner hrest => (if_pos howner).trans (if_pos hrest),
    fun howner hrest => (if_pos howner).trans (if_neg (Bool.eq_false_iff.mp hrest)), fun howner => if_neg howner⟩

end Sys2Proof.Machine
end

section
/-! PROOFS. Settles O40 and O41. -/

namespace Sys2Proof.Machine

open Sys2Proof

/-- Settles O40: the boundary's steps with the window open, closing in a commit, or closing in a yield; then the engine's notice by its
three cases. -/
theorem windowClosesInCommitOrYield : Obligations.WindowClosesInCommitOrYield := by
  refine ⟨fun s own n hrun _ ho hf hl hpart hn hstay => ?boundary, fun s part hjoined hactive => ?notice⟩
  case boundary =>
    intro aged counted fit yields
    obtain ⟨hpeers, hpending, hclock, htracker, hstation, _⟩ := State.takeTask_slotMap_leaves ho hl hf
    have hstays := State.expireUnneeded_atStepTwo (s := s) hstay
    have hfit : fits s.cfg (s.atStepTwo.expireUnneeded.map.recheckParts s.cfg.stationAddress) own = true ↔ fit := by
      rw [hstays, fits_iff]
      rfl
    have hdue (hlate : 63 ≤ n) : s.windowDue = true := by
      have hclosed := s.map.windowClosed_tick.mpr ⟨n, hn, hlate⟩
      simp [State.windowDue, hf, hpart, hclosed]
    have hclosed (hlate : 63 ≤ n) : s.atStepTwo.expireUnneeded.map.windowClosed = true := by
      rw [hstays]
      exact s.map.windowClosed_tick.mpr ⟨n, hn, hlate⟩
    have hpart' : s.atStepTwo.expireUnneeded.map.pending = some own := by
      rw [hstays]
      exact hpart
    have hcfg : s.atStepTwo.expireUnneeded.cfg = s.cfg := by
      rw [hstays]
      rfl
    have hclosing (hlate : 63 ≤ n) :
        (s.atStepTwo.expireUnneeded.map.windowClosed && s.atStepTwo.expireUnneeded.map.pending.isSome) = true := by
      rw [hclosed hlate, hpart']
      rfl
    refine ⟨fun hearly => ?_, fun hlate hfits => ?_, fun hlate hmiss => ?_⟩
    · refine congrArg Host.Outcome.next (State.ownTaking_not_due _ ?_)
      have hopen : s.map.tickWindow.windowClosed = false := by
        refine Bool.eq_false_iff.mpr fun h => ?_
        obtain ⟨m, hm, hlate⟩ := s.map.windowClosed_tick.mp h
        obtain rfl : n = m := Option.some.inj (hn.symm.trans hm)
        omega
      unfold State.windowDue
      rw [hopen, Bool.and_false]
    · have hclose := (State.closeWindow_of_closed hpart' (hclosed hlate)).trans (if_pos (by rw [hcfg]; exact hfit.mpr hfits))
      have htaken := State.takeTask_slotMap_of (failed := false) ho hl hf rfl hclose (by rw [hclosing hlate]; rfl)
      generalize hcommitted : (s.atStepTwo.expireUnneeded.setMap s.atStepTwo.expireUnneeded.map.commit).clearCond .slotStarved .commit
        = c at htaken
      have hmap : c.map = s.atStepTwo.expireUnneeded.map.commit := by rw [← hcommitted]; simp
      have hstarved : c.mon.isDeclared .slotStarved = false := by
        rw [← hcommitted, State.clearCond_isDeclared]
        simp [Kind.sticky]
      have hclear := State.commitNotice_clear
        (s := (c.setMap { c.map with hold := c.map.hold - 1 }).setMap (c.setMap { c.map with hold := c.map.hold - 1 }).map.refreshed)
        (by rw [hmap]; rfl) (by rw [hmap]; rfl) hstarved
      obtain ⟨hwindow, hquiet⟩ := hclear
      have htold : s.takeTask .slotMap = (State.commitNotice ((c.setMap { c.map with hold := c.map.hold - 1 }).setMap
          (c.setMap { c.map with hold := c.map.hold - 1 }).map.refreshed)).flushClaim.flushClaim := htaken
      refine ⟨_, exec_slotMapRow_of_due hrun ho (hdue hlate), ?_, ?_, ?_, ?_, ?_, hpeers, ?_, hpending, hclock, htracker, hstation⟩
      · rw [htold]
        simp only [State.flushClaim_parts, State.commitNotice_active]
        rw [hmap]
        exact hpart'
      · rw [htold]
        simp only [State.flushClaim_parts]
        exact State.commitNotice_pending (by rw [hmap]; rfl)
      · rw [htold]
        simp only [State.flushClaim_parts]
        exact hwindow
      · rw [htold]
        simp only [State.flushClaim_kept, State.commitNotice_kept]
        rw [hmap]
        rfl
      · rw [htold]
        simp only [State.flushClaim_kept, State.commitNotice_kept]
        rw [hmap]
        rfl
      · rw [htold]
        simp only [State.flushClaim_leaves]
        exact hquiet
    · have hclose := (State.closeWindow_of_closed hpart' (hclosed hlate)).trans
        (if_neg (by rw [hcfg]; exact mt hfit.mp hmiss))
      have htaken := State.takeTask_slotMap_of (failed := false) ho hl hf rfl hclose (by rw [hclosing hlate]; rfl)
      rw [hstays] at htaken
      refine ⟨_, exec_slotMapRow_of_due hrun ho (hdue hlate), ?_, ?_, ?_, ?_, ?_, ?_, hpeers, ?_, ?_, ?_, hpending, hclock, htracker,
        hstation⟩
      all_goals rw [htaken]
      · simp only [State.flushClaim_parts]
        rfl
      · simp only [State.flushClaim_parts]
        rfl
      · simp only [State.flushClaim_parts]
        rfl
      · simp only [State.flushClaim_kept]
        rfl
      · simp only [State.flushClaim_kept]
        rfl
      · simp only [State.flushClaim_parts]
        rfl
      · simp [State.tellEngine, State.countAndPlan, State.atStepTwo]
      · simp [State.tellEngine, State.countAndPlan, State.atStepTwo]
      · simp [State.tellEngine, State.countAndPlan, State.atStepTwo]
  case notice =>
    intro u matched onPart
    obtain ⟨hinRest, hswap, hactiveOwner⟩ := s.commitNotice_cases
    have hdecided (x : State) (c : Context) (p : Pattern) (hstation : x.station = s.station) (hmap : x.map = s.map)
        (hc : c.pattern = some p) (hm : matched p) : x.decideMode c = onPart c := by
      have hcfg : x.cfg = s.cfg := by unfold State.cfg; rw [hstation]
      exact State.decideMode_of_matched (by rw [hstation]; exact hjoined) (by rw [hmap]; exact hactive) hc (by rw [hcfg]; exact hm)
    have hleaves : u.map.active = s.map.active ∧ u.tracker = s.tracker ∧ u.station = s.station ∧ u.clock = s.clock
        ∧ u.pending = s.pending := by simp [u]
    obtain ⟨hmapActive, htracker, hstation, hclock, hpending⟩ := hleaves
    have hu0 : s.commitNotice = u := rfl
    rw [hu0] at hinRest hswap hactiveOwner
    clear_value u
    by_cases howner : s.engine.owner = .prepared
    · cases hrest : s.engine.tripRest with
      | true =>
        have hu := hinRest howner hrest
        generalize hx : (s.setEngine { s.engine with requested := none }).setEngine
          { s.engine with
            requested := none, committedInRest := true
            prepared := s.engine.prepared.map fun c => { c with ready := true, readyByFailure := false } } = x at hu
        have hengine : u.engine = { x.engine with owner := x.settled.1, requested := x.settled.2 } := by
          rw [hu]
          exact x.settle_engine
        have hdose : u.dose = s.dose := by
          rw [hu, ← hx]
          simp
        have hsettled : u.settled = x.settled :=
          State.settled_of_eq (by rw [hstation, ← hx]; rfl) (by rw [hengine]) (by rw [hengine])
        refine ⟨by rw [hsettled, hengine], by rw [hengine, ← hx]; exact hrest, by rw [hengine, ← hx]; rfl, hmapActive, htracker, hstation,
          hclock, hpending, fun _ hno => by simp at hno, fun _ _ c hc => ?_, fun hother => absurd howner hother⟩
        refine ⟨?_, by rw [hengine, ← hx]; rfl, by rw [hengine, ← hx]; rfl, by rw [hengine, ← hx]; rfl, hdose⟩
        rw [hengine, ← hx]
        show s.engine.prepared.map _ = _
        rw [hc]
        rfl
      | false =>
        have hu := hswap howner hrest
        generalize hx : ((s.setEngine { s.engine with requested := none }).swapPrepared).markMixed s.engine.active.carrier = x at hu
        obtain ⟨hsettled, htripRest, hlast, hactive', hprepared, hdose⟩ := x.settle_rehand_spec
        rw [← hu] at hsettled htripRest hlast hactive' hprepared hdose
        have hkept : x.engine.tripRest = s.engine.tripRest ∧ x.engine.lastDominant = s.engine.lastDominant := by
          rw [← hx, (State.markMixed_leaves _ _).2.2.2.2.2.2.2.2.1]
          unfold State.swapPrepared
          split
          next => simp
          next => exact ⟨rfl, rfl⟩
        refine ⟨hsettled, htripRest.trans (hkept.1.trans hrest), hlast.trans hkept.2, hmapActive, htracker, hstation, hclock, hpending,
          fun _ _ c hc => ?_, fun _ hyes => by simp at hyes, fun hother => absurd howner hother⟩
        have hengine := State.swapPrepared_engine (s := s.setEngine { s.engine with requested := none }) (c := c) hc
        obtain ⟨hcarrier, hkey⟩ := (s.setEngine { s.engine with requested := none }).decideMode_names c
        have hnamed : u.engine.active.carrier = c.carrier ∧ u.engine.active.key = c.key := by
          rw [hactive', ← hx]
          simp only [State.markMixed_leaves, hengine]
          cases c.key.isSome
          · exact ⟨rfl, rfl⟩
          · exact ⟨hcarrier, hkey⟩
        have hgoverns : ((s.setEngine { s.engine with requested := none }).swapPrepared).engine.active.carrier = c.carrier := by
          rw [hengine]
          cases c.key.isSome
          · rfl
          · exact hcarrier
        obtain ⟨hmarked, hunmarked⟩ := State.markMixed_dose s.engine.active.carrier
          ((s.setEngine { s.engine with requested := none }).swapPrepared)
        rw [hx, hgoverns] at hmarked hunmarked
        have hswapDose : ((s.setEngine { s.engine with requested := none }).swapPrepared).dose = s.dose := by simp
        rw [hswapDose] at hmarked hunmarked
        refine ⟨?_, hnamed.1, hnamed.2, fun p hkeyed hp hm => ?_, fun tag htag hother => ?_, fun hsame => ?_⟩
        · rw [hprepared, ← hx]
          simp only [State.markMixed_leaves, hengine]
        · rw [hactive', ← hx]
          simp only [State.markMixed_leaves, hengine]
          rw [if_pos hkeyed, hdecided (s.setEngine { s.engine with requested := none }) c p rfl rfl hp hm]
          rfl
        · rw [hdose]
          exact hmarked tag htag hother
        · rw [hdose]
          exact hunmarked hsame
    · have hu := hactiveOwner howner
      generalize hx : ((s.setEngine { s.engine with requested := none }).redecideActive).renewPrepared = x at hu
      obtain ⟨hsettled, htripRest, hlast, hactive', _, hdose⟩ := x.settle_rehand_spec
      rw [← hu] at hsettled htripRest hlast hactive' hdose
      obtain ⟨prepared, hrenewed⟩ := ((s.setEngine { s.engine with requested := none }).redecideActive).renewPrepared_engine
      rw [hx, State.redecideActive_engine] at hrenewed
      have hxdose : x.dose = s.dose := by rw [← hx]; simp
      obtain ⟨hcarrier, hkey⟩ := (s.setEngine { s.engine with requested := none }).decideMode_names s.engine.active
      have hactiveIs : u.engine.active = if s.engine.active.key.isSome
          then (s.setEngine { s.engine with requested := none }).decideMode s.engine.active else s.engine.active := by
        rw [hactive', hrenewed]
        rfl
      refine ⟨hsettled, by rw [htripRest, hrenewed]; rfl, by rw [hlast, hrenewed]; rfl, hmapActive, htracker, hstation, hclock, hpending,
        fun hprepared => absurd hprepared howner, fun hprepared => absurd hprepared howner, fun _ => ?_⟩
      refine ⟨?_, ?_, hdose.trans hxdose, fun hnone => ?_, fun p hkeyed hp hm => ?_⟩
      · rw [hactiveIs]
        split
        · exact hcarrier
        · rfl
      · rw [hactiveIs]
        split
        · exact hkey
        · rfl
      · rw [hactiveIs, if_neg (by simp [hnone])]
      · rw [hactiveIs, if_pos hkeyed, hdecided (s.setEngine { s.engine with requested := none }) s.engine.active p rfl
          rfl hp hm]

/-! ### Planning (R72 to R75, R98) -/

/-- Planning takes the first candidate that fits, over the scales in their order and every offset. -/
theorem planOver_eq (cfg : Cfg) (parts : List ClaimPart) (p : Pattern) (scales : List Nat) :
    planOver cfg parts p scales
      = (scales.flatMap fun scale => (candidateOffsets cfg p.cycle).map fun offset => p.place cfg offset scale).find? (fits cfg parts) := by
  induction scales with
  | nil => rfl
  | cons scale rest ih =>
    rw [List.flatMap_cons, List.find?_append, ← ih]
    show (match planAt cfg parts p scale with | some c => some c | none => planOver cfg parts p rest) = _
    unfold planAt
    cases ((candidateOffsets cfg p.cycle).map fun offset => p.place cfg offset scale).find? (fits cfg parts) <;> rfl

theorem State.plan_of_allowed {s : State} {p : Pattern} (hrequest : s.map.request = some p) (hmay : s.mayPlan = true) :
    (∀ part, s.map.planned s.cfg p = some part →
        s.plan = (s.setMap { s.map with pending := some part, window := none, calls := true }, false))
      ∧ (s.map.planned s.cfg p = none →
        s.plan = ((s.setMap { s.map with hold := 8 }).declareCond .slotStarved .planFailed, true)) := by
  unfold State.plan
  rw [hrequest]
  refine ⟨fun part hpart => (if_pos hmay).trans ?_, fun hnone => (if_pos hmay).trans ?_⟩
  · rw [hpart]
  · rw [hnone]

/-- The notice of a failed plan whose request stands: the owner's PREPARED context turns ready by failure, and the request is not given
again (R98). -/
theorem State.planFailed_of_standing {s : State} {p : Option Pattern} (hsettled : s.settled = (s.engine.owner, p))
    (hrequested : s.engine.requested = p) :
    s.planFailed.map = s.map ∧ s.planFailed.mon = s.mon
      ∧ (s.engine.owner = .prepared → ∀ c, s.planFailed.engine.prepared = some c → c.ready = true ∧ c.readyByFailure = true) := by
  have hstands (x : State) (hx : x.settled.2 = x.engine.requested) : x.settle.map = x.map ∧ x.settle.mon = x.mon := by
    unfold State.settle State.giveRequest
    dsimp only
    rw [if_pos hx]
    exact ⟨rfl, rfl⟩
  unfold State.planFailed
  by_cases howner : s.engine.owner = .prepared
  · rw [if_pos howner]
    have hsame : (s.setEngine { s.engine with
        prepared := s.engine.prepared.map fun c => { c with ready := true, readyByFailure := true } }).settled = s.settled := by
      rw [howner] at hsettled
      unfold State.settled at hsettled ⊢
      show (if s.station.state.setpoints then
          if s.engine.active.mode = .forwardOnly ∧ s.engine.active.pattern.isSome then (Owner.active, s.engine.active.pattern)
          else
            match s.engine.prepared.map fun c => { c with ready := true, readyByFailure := true } with
            | some c => if c.ready = false ∨ c.readyByFailure then (.prepared, c.pattern) else (.none, none)
            | none => (.none, none)
        else (.none, none)) = _
      by_cases hpoints : s.station.state.setpoints = true
      · rw [if_pos hpoints] at hsettled ⊢
        rw [if_pos hpoints]
        by_cases hforward : s.engine.active.mode = .forwardOnly ∧ s.engine.active.pattern.isSome = true
        · rw [if_pos hforward, if_pos hforward]
        · rw [if_neg hforward] at hsettled ⊢
          rw [if_neg hforward]
          cases hprepared : s.engine.prepared with
          | none => rfl
          | some c =>
            rw [hprepared] at hsettled
            by_cases hopen : c.ready = false ∨ c.readyByFailure = true
            · simp [hopen]
            · have := congrArg Prod.fst hsettled
              simp [hopen] at this
      · rw [if_neg hpoints, if_neg hpoints]
    obtain ⟨hmap, hmon⟩ := hstands _ ((congrArg Prod.snd (hsame.trans hsettled)).trans hrequested.symm)
    refine ⟨hmap, hmon, fun _ c hc => ?_⟩
    rw [State.settle_engine_prepared] at hc
    obtain ⟨x, _, rfl⟩ := Option.map_eq_some_iff.mp hc
    exact ⟨rfl, rfl⟩
  · rw [if_neg howner]
    obtain ⟨hmap, hmon⟩ := hstands s (by rw [hsettled, hrequested])
    exact ⟨hmap, hmon, fun h => absurd h howner⟩

/-- Settles O41: steps 1 to 3 leave the pair as it is, and step 4 plans. -/
theorem planningTakesTheFirstPlaceThatFits : Obligations.PlanningTakesTheFirstPlaceThatFits := by
  intro s p hrun hflushed ho hf hl hjoined hquiet hhold hnone hrequest hstay aged counted fit candidates u
  obtain ⟨hpeers, hpending, hclock, htracker, hstation, _⟩ := State.takeTask_slotMap_leaves ho hl hf
  have hstays := State.expireUnneeded_atStepTwo (s := s) hstay
  generalize hx : s.atStepTwo.expireUnneeded = x at hstays
  have hxmap : x.map.pending = none ∧ x.map.request = some p ∧ x.map.active = s.map.active ∧ x.map.hold = s.map.hold
      ∧ x.map.peers = aged ∧ x.map.sendDue = s.map.sendDue := by
    rw [hstays]
    exact ⟨hnone, hrequest, rfl, rfl, rfl, rfl⟩
  obtain ⟨hxpending, hxrequest, hxactive, hxhold, hxpeers, _⟩ := hxmap
  have hxblocks : x.station = s.station ∧ x.bus = s.bus ∧ x.engine = s.engine ∧ x.bridge = s.bridge ∧ x.mon = s.mon ∧ x.dose = s.dose := by
    rw [hstays]
    exact ⟨rfl, rfl, rfl, rfl, rfl, rfl⟩
  obtain ⟨hxstation, hxbus, hxengine, hxbridge, hxmon, hxdose⟩ := hxblocks
  have hxcfg : x.cfg = s.cfg := by
    unfold State.cfg
    rw [hxstation]
  have hclosing : (x.map.windowClosed && x.map.pending.isSome) = false := by rw [hxpending]; exact Bool.and_false _
  have hclose : x.closeWindow = (x, false) := State.closeWindow_of_open (.inl hxpending)
  have hzero : x.map.hold - 1 = 0 := by omega
  have hmay : (x.setMap { x.map with hold := x.map.hold - 1 }).mayPlan = true := by
    unfold State.mayPlan
    show (x.station.state == .joined && !x.mon.isDeclared .busErrors && x.map.hold - 1 == 0 && x.map.pending.isNone) = true
    rw [hxstation, hjoined, hxmon, hquiet, hzero, hxpending]
    rfl
  obtain ⟨hplaces, hfails⟩ := State.plan_of_allowed (s := x.setMap { x.map with hold := x.map.hold - 1 }) hxrequest hmay
  have hplanned : (x.setMap { x.map with hold := x.map.hold - 1 }).map.planned (x.setMap { x.map with hold := x.map.hold - 1 }).cfg p
      = candidates.find? (fits s.cfg counted) := by
    have hparts : (x.setMap { x.map with hold := x.map.hold - 1 }).map.allParts = counted := by
      show (x.map.peers.flatMap fun x => x.active.toList ++ x.pending.toList) = counted
      rw [hxpeers]
    have hcfg : (x.setMap { x.map with hold := x.map.hold - 1 }).cfg = s.cfg := hxcfg
    unfold SlotMap.planned
    rw [planOver_eq, hparts, hcfg]
    unfold candidateOffsets
    simp only [List.map_map]
    rfl
  rw [hplanned] at hplaces hfails
  refine ⟨fun hone => ?row, fun before c after hsplit hbefore hfit => ?placed, fun hmiss hsettled hrequested => ?failed⟩
  case row =>
    have hdue : s.holdDue = true := by simp [State.holdDue, hf, hone]
    exact exec_slotMapRow_of_due hrun ho hdue
  case placed =>
    intro sent
    have hfind : candidates.find? (fits s.cfg counted) = some c := by
      rw [hsplit, List.find?_append, List.find?_eq_none.mpr fun y hy => mt (fits_iff s.cfg counted y).mp (hbefore y hy),
        List.find?_cons_of_pos ((fits_iff s.cfg counted c).mpr hfit)]
      rfl
    have hplan : x.countAndPlan false = _ := hplaces c hfind
    have htaken := State.takeTask_slotMap_of (failed := false) ho hl hf hx hclose (by rw [hclosing]; exact hplan)
    rw [State.flushClaim_flushClaim] at htaken
    have hflushed' := State.flushClaim_sent (sent := sent)
      (s := ((x.setMap { x.map with hold := x.map.hold - 1 }).setMap
        { (x.setMap { x.map with hold := x.map.hold - 1 }).map with pending := some c, window := none, calls := true }).setMap
        ((x.setMap { x.map with hold := x.map.hold - 1 }).setMap
          { (x.setMap { x.map with hold := x.map.hold - 1 }).map with pending := some c, window := none, calls := true }).map.refreshed)
      rfl
      (by
        show (x.station.state == .joined || _) = true
        rw [hxstation, hjoined]
        rfl)
      (by
        show x.bus.submit x.station.state (.claim ⟨x.cfg.zoneIndex, x.map.active, some c⟩) .all = sent
        rw [hxbus, hxcfg, hxstation, hjoined, hxactive])
    have hu : u = _ := htaken.trans hflushed'
    have hleaves : u.pending = s.pending ∧ u.clock = s.clock ∧ u.tracker = s.tracker ∧ u.station = s.station :=
      ⟨hpending, hclock, htracker, hstation⟩
    clear_value u sent
    subst hu
    exact ⟨rfl, rfl, hxactive, hxrequest, hzero, hxpeers, rfl, rfl, hxengine, hxbridge, hxmon, hxdose, hleaves⟩
  case failed =>
    have hfind : candidates.find? (fits s.cfg counted) = none :=
      List.find?_eq_none.mpr fun y hy => mt (fits_iff s.cfg counted y).mp (hmiss y hy)
    have hplan : x.countAndPlan false = _ := hfails hfind
    have htaken := State.takeTask_slotMap_of (failed := true) ho hl hf hx hclose (by rw [hclosing]; exact hplan)
    generalize hdeclared : ((x.setMap { x.map with hold := x.map.hold - 1 }).setMap
      { (x.setMap { x.map with hold := x.map.hold - 1 }).map with hold := 8 }).declareCond .slotStarved .planFailed = y at htaken
    have hy : y.map = { x.map with hold := 8 } ∧ y.engine = s.engine ∧ y.station = s.station ∧ y.mon.isDeclared .slotStarved = true := by
      rw [← hdeclared]
      refine ⟨by simp, by simp [hxengine], by simp [hxstation], ?_⟩
      rw [State.declareCond_isDeclared]
      simp
    obtain ⟨hymap, hyengine, hystation, hystarved⟩ := hy
    have hysettled : (y.setMap y.map.refreshed).settled = s.settled :=
      State.settled_of_eq hystation (congrArg Engine.active hyengine) (congrArg Engine.prepared hyengine)
    obtain ⟨hmap, hmon, hready⟩ := State.planFailed_of_standing (s := y.setMap y.map.refreshed) (p := some p)
      (hysettled.trans (hsettled.trans (by rw [← hyengine]; rfl))) ((congrArg Engine.requested hyengine).trans hrequested)
    have hu : u = (State.planFailed (y.setMap y.map.refreshed)).flushClaim.flushClaim := htaken
    have hmapIs : (State.planFailed (y.setMap y.map.refreshed)).map = SlotMap.refreshed { x.map with hold := 8 } := by
      rw [hmap, ← hymap]
      rfl
    have hparts : u.map.hold = 8 ∧ u.map.pending = none ∧ u.map.active = s.map.active ∧ u.map.request = some p ∧ u.map.peers = aged := by
      rw [hu]
      simp only [State.flushClaim_parts, State.flushClaim_kept, hmapIs]
      exact ⟨rfl, hxpending, hxactive, hxrequest, hxpeers⟩
    obtain ⟨hhold8, hupending, huactive, hurequest, hupeers⟩ := hparts
    refine ⟨hhold8, hupending, huactive, hurequest, hupeers, ?_, fun howner c hc => ?_, hpending, hclock, htracker, hstation⟩
    · rw [hu]
      simp only [State.flushClaim_leaves, hmon]
      exact hystarved
    · rw [hu] at hc
      simp only [State.flushClaim_leaves] at hc
      exact hready ((congrArg Engine.owner hyengine).trans howner) c hc

end Sys2Proof.Machine
end

section
/-! PROOFS. Every command completes, and leaves the waiting commands and what its family does not reach as they were. -/

namespace Sys2Proof.Machine

open Sys2Proof

/-! ### The shapes of the commands -/

theorem completes_unlessHeld {p : State → Prop} {s : State} {f : State → State} (hs : p s) (hf : p (f s)) :
    Completes (.next (s.unlessHeld f)) p := ⟨_, rfl, State.unlessHeld_induct hs fun _ => hf⟩

theorem completes_ifHeard {p : State → Prop} {s : State} {g f : State → State} (hs : p s) (hg : p (g s)) (hf : p (f (g s))) :
    Completes (.next (s.unlessHeld fun s => (g s).ifHeard f)) p :=
  completes_unlessHeld hs (State.ifHeard_induct f hg hf)

theorem completes_takeFrame {p : State → Prop} {kind : FrameKind} {act : RxFrame → State → State} {s : State} (hs : p s)
    (hact : ∀ f rest, p (act f (s.withRxRest rest)).flushClaim) : Completes (.next (s.takeFrame kind act)) p :=
  ⟨_, rfl, State.takeFrame_induct kind act hs fun _ f rest _ _ => hact f rest⟩

theorem completes_sense {p : State → Prop} {act : State → State} {s : State} (hs : p s) (hact : p (act s)) :
    Completes (.next (s.sense act)) p := ⟨_, rfl, State.sense_induct act hs fun _ => hact⟩

theorem State.runOwed_induct {p : State → Prop} (t : Task) {s : State} (hs : p s)
    (hrun : p (runTask t (s.setBoundary (s.boundary.paid t))).flushClaim) : p (s.runOwed t) := by
  unfold State.runOwed
  split
  next => exact hrun
  next => exact hs

/-- A row of the table that needs nothing taken before it. -/
theorem completes_ownTaking {p : State → Prop} {t : Task} {due : State → Bool} {s : State} (hneeds : taskNeeds t = []) (hs : p s)
    (hrun : p (runTask t (s.setBoundary (s.boundary.paid t))).flushClaim) : Completes (.next (s.ownTaking t due)) p := by
  have htaken : s.takeTask t = s.runOwed t := by
    unfold State.takeTask
    rw [hneeds]
    rfl
  exact ⟨_, rfl, State.ownTaking_induct t due hs fun _ => htaken ▸ State.runOwed_induct t hs hrun⟩

/-- A row of the table with the choice of log 5 that its command brings; the takings it needs keep what it keeps. -/
theorem completes_chosenTaking {p : State → Prop} {t : Task} {due : State → Bool} {df : Bool} {s : State} (hs : p s)
    (hboundary : ∀ u b, p u → p (u.setBoundary b)) (hneeds : ∀ x ∈ taskNeeds t ++ [t], ∀ u, p u → p (runTask x u).flushClaim) :
    Completes (.next ((s.unlessHeld (State.choose df)).ownTaking t due)) p := by
  have howed (u : State) (x : Task) (hx : x ∈ taskNeeds t ++ [t]) (hu : p u) : p (u.runOwed x) :=
    State.runOwed_induct x hu (hneeds x hx _ (hboundary u _ hu))
  have hall : ∀ (ts : List Task), (∀ x ∈ ts, x ∈ taskNeeds t ++ [t]) → ∀ u, p u → p (ts.foldl (fun s t => s.runOwed t) u) := by
    intro ts
    induction ts with
    | nil => exact fun _ u hu => hu
    | cons x rest ih =>
      exact fun hts u hu => ih (fun y hy => hts y (List.mem_cons_of_mem x hy)) _ (howed u x (hts x List.mem_cons_self) hu)
  have hchosen : p (s.unlessHeld (State.choose df)) := State.unlessHeld_induct hs fun _ => hboundary s _ hs
  refine ⟨_, rfl, State.ownTaking_induct t due hchosen fun _ => ?_⟩
  exact howed _ t (List.mem_append_right _ (List.mem_singleton_self t))
    (hall (taskNeeds t) (fun x hx => List.mem_append_left [t] hx) _ hchosen)

/-! ### The waiting commands -/

theorem runTask_flushed_pending (t : Task) (s : State) : (runTask t s).flushClaim.pending = s.pending := by
  cases t <;> simp [runTask]

/-- No taking of a boundary reaches the command queue. -/
theorem pending_keptByTakings (q : List Instr) : KeptByTakings fun u => u.pending = q where
  boundary _ _ hs := hs
  taking t s hs := (runTask_flushed_pending t s).trans hs

theorem State.hardReset_pending (s : State) : s.hardReset.pending = s.pending := rfl

theorem exec_completes (c : Instr) (s : State) : Completes (exec c s) fun u => u.pending = s.pending := by
  have htakings := pending_keptByTakings s.pending
  have hclock (u : State) (c : Clock) (hu : u.pending = s.pending) : (u.setClock c).pending = s.pending := hu
  have hnow (u : State) (t : Instant) (hu : u.pending = s.pending) : (u.setNow t).pending = s.pending := hu
  cases c
  case blroomRise =>
    rw [exec_blroomRise_eq]
    exact ⟨_, rfl, by split <;> simp⟩
  case hardwareReset => exact ⟨_, rfl, s.hardReset_pending⟩
  case rstnRelease => exact ⟨_, rfl, by simp⟩
  case configurationReadDone t image => exact completes_unlessHeld rfl (by simp)
  case refinEdge t ord df => exact ⟨_, rfl, htakings.clockCommand hclock hnow t (fun s => s.refinEdge_endsSlot ord df) rfl⟩
  case slotTimerExpiry t ord df => exact ⟨_, rfl, htakings.clockCommand hclock hnow t (fun s => s.slotTimer_endsSlot ord df) rfl⟩
  case lossLimitExpiry t ord df => exact ⟨_, rfl, htakings.clockCommand hclock hnow t (fun s => s.lossLimit_endsSlot ord df) rfl⟩
  case holdoverExpiry t ord df =>
    exact ⟨_, rfl, htakings.clockCommand hclock hnow t (fun s => s.holdoverExpiry_endsSlot ord df) rfl⟩
  case answerDue | recipeQueryDue | unavailableQueryDue | carrierQueryDue | peerRecordAgeOut | unneededExpiry | windowClose
      | planningHoldExpiry | refreshDue | claimRetry | tripWindowExpiry | joinCountExpiry =>
    exact completes_ownTaking rfl rfl (runTask_flushed_pending _ _)
  case confirmDeadline df | tripRestEnd df =>
    exact completes_chosenTaking rfl (fun _ _ h => h) fun x _ u hu => (runTask_flushed_pending x u).trans hu
  case selfTestVerdict t => exact ⟨_, rfl, htakings.ownTaking _ _ (State.unlessHeld_induct (p := fun u => u.pending = s.pending) rfl fun _ => rfl)⟩
  case takeAdmit | takeHandover | takeCarrierQuery | takeRecipe | takeRecipeQuery | takeRelease =>
    exact completes_takeFrame rfl fun f rest => by simp [State.withRxRest]
  case entryRising | entryFalling | exitRising | exitFalling | forwardCount | backwardCount =>
    exact completes_sense rfl (by simp)
  case frameEndReceived | rxFrameAbandoned | startMarkReceived | dataSymbolReceived =>
    exact completes_ifHeard rfl (by simp) (by simp)
  case ackReceived | readingReceived | faultReceived => exact completes_unlessHeld rfl (by split <;> simp)
  all_goals exact completes_unlessHeld rfl (by simp)

/-! ### The families -/

theorem State.reportClaim_peers (f : TxFrame) (sent : Bool) (s : State) : (s.reportClaim f sent).map.peers = s.map.peers := by
  unfold State.reportClaim
  split
  case h_1 c _ =>
    split
    next => rfl
    next =>
      cases sent
      case true =>
        show (s.map.claimSent c).peers = s.map.peers
        rw [SlotMap.claimSent_eq]
      case false =>
        show (s.map.claimDropped c).peers = s.map.peers
        rw [SlotMap.claimDropped_eq]
        split <;> rfl
  all_goals rfl

@[simp] theorem State.frameSent_peers (s : State) : s.frameSent.map.peers = s.map.peers := by
  unfold State.frameSent
  split
  next =>
    split
    next => simp [State.reportClaim_peers]
    next => rfl
  next => rfl

@[simp] theorem State.collide_peers (s : State) : s.collide.map.peers = s.map.peers := by
  unfold State.collide
  split
  next f _ =>
    split
    next =>
      dsimp only
      (repeat' split) <;> simp [State.reportClaim_peers]
    next => rfl
  next => rfl

/-- Settles O55: each family's commands have one of the shapes above, and the blocks their operations leave are the laws of the blocks. -/
theorem everyCommandCompletesWithinItsFrame : Obligations.EveryCommandCompletesWithinItsFrame := by
  intro s t look df x b w
  refine ⟨fun c => exec_completes c s, fun c hc => ?bus, fun c hc => ?ends, fun c hc => ?frames, fun c hc => ?cache,
    fun c hc => ?gates, fun c hc => ?map, fun c hc => ?lane, fun c hc => ?link, fun c hc => ?rest, fun c hc => ?station⟩
  all_goals
    simp only [List.mem_cons, List.not_mem_nil, or_false] at hc
  case bus =>
    rcases hc with rfl | rfl | rfl | rfl | rfl | rfl | rfl
    case inl | inr.inl | inr.inr.inl | inr.inr.inr.inl | inr.inr.inr.inr.inl => exact completes_unlessHeld (by simp) (by simp)
    all_goals exact completes_ifHeard (by simp) (by simp) (by simp)
  case ends =>
    rcases hc with rfl | rfl
    all_goals exact completes_ifHeard rfl (by simp) (by simp)
  case frames =>
    rcases hc with rfl | rfl | rfl | rfl | rfl
    all_goals exact completes_takeFrame (by simp) fun f rest => by simp [State.withRxRest]
  case cache =>
    rcases hc with rfl | rfl | rfl
    all_goals exact completes_ownTaking rfl (by simp) (by simp [runTask])
  case gates =>
    rcases hc with rfl | rfl | rfl | rfl | rfl | rfl
    all_goals exact completes_sense (by simp) (by simp)
  case map =>
    rcases hc with rfl | rfl | rfl | rfl | rfl | rfl
    all_goals exact completes_ownTaking rfl (by simp) (by simp [runTask])
  case lane =>
    rcases hc with rfl | rfl | rfl | rfl | rfl
    case inr.inl =>
      rw [exec_blroomRise_eq]
      exact ⟨_, rfl, by split <;> rfl⟩
    case inl | inr.inr.inr.inr => exact completes_unlessHeld rfl rfl
    case inr.inr.inl => exact completes_unlessHeld rfl (by unfold State.sentSetpoint; split <;> rfl)
    case inr.inr.inr.inl => exact completes_unlessHeld rfl (by unfold State.sentOff; split <;> rfl)
  case link =>
    rcases hc with rfl | rfl | rfl | rfl | rfl | rfl
    case inl | inr.inl | inr.inr.inl => exact completes_unlessHeld (by simp) (by simp)
    all_goals exact completes_unlessHeld (by simp) (by split <;> simp)
  case rest =>
    rcases hc with rfl | rfl | rfl
    case inr.inr => exact completes_ownTaking rfl (by simp) (by simp [runTask])
    all_goals
      refine completes_chosenTaking (by simp) (fun _ _ hu => hu) fun x hx u hu => ?_
      simp only [taskNeeds, List.cons_append, List.nil_append, List.mem_cons, List.not_mem_nil, or_false] at hx
      rcases hx with rfl | rfl
      · simpa [runTask] using hu
      · simpa [runTask] using hu
  case station =>
    rcases hc with rfl | rfl | rfl
    case inl =>
      have hadvanced : (s.unlessHeld (State.advance t)).tracker = s.tracker ∧ (s.unlessHeld (State.advance t)).dose = s.dose :=
        State.unlessHeld_induct (p := fun u => u.tracker = s.tracker ∧ u.dose = s.dose) ⟨rfl, rfl⟩ fun _ => ⟨rfl, rfl⟩
      exact completes_ownTaking rfl hadvanced (by simp [runTask, hadvanced])
    all_goals exact completes_ownTaking rfl (by simp) (by simp [runTask])

end Sys2Proof.Machine
end

section
/-! PROOFS. The command lane: placing, the starts and ends of messages, and the setpoints handed (R106 to R112, R121). -/

namespace Sys2Proof.Machine

open Sys2Proof

/-! ### The buffer (R107) -/

theorem any_isSetpoint_iff (ms : List LaneMsg) : ms.any LaneMsg.isSetpoint = true ↔ ∃ x, .setpoint x ∈ ms := by
  rw [List.any_eq_true]
  constructor
  · rintro ⟨m, hm, his⟩
    cases m with
    | setpoint x => exact ⟨x, hm⟩
    | mark l => cases his
    | off => cases his
  · rintro ⟨x, hx⟩
    exact ⟨_, hx, rfl⟩

theorem any_isSetpoint_eq_false (ms : List LaneMsg) : ms.any LaneMsg.isSetpoint = false ↔ ∀ m ∈ ms, m.isSetpoint = false := by
  simp

theorem any_isOff_iff (ms : List LaneMsg) : ms.any LaneMsg.isOff = true ↔ .off ∈ ms := by
  rw [List.any_eq_true]
  constructor
  · rintro ⟨m, hm, his⟩
    cases m with
    | off => exact hm
    | mark l => cases his
    | setpoint x => cases his
  · exact fun h => ⟨_, h, rfl⟩

theorem Bridge.placeSetpoint_of_off {b : Bridge} (sp : Setpoint) (hoff : .off ∈ b.buffer) : b.placeSetpoint sp = b :=
  if_pos ((any_isOff_iff b.buffer).mpr hoff)

theorem Bridge.placeSetpoint_of_none {b : Bridge} (sp : Setpoint) (hoff : .off ∉ b.buffer) (hnone : ¬∃ x, .setpoint x ∈ b.buffer) :
    b.placeSetpoint sp = { b with buffer := b.buffer ++ [.setpoint sp] } :=
  (if_neg (mt (any_isOff_iff b.buffer).mp hoff)).trans (if_neg (mt (any_isSetpoint_iff b.buffer).mp hnone))

theorem Bridge.placeSetpoint_of_waiting {b : Bridge} (sp : Setpoint) {pre post : List LaneMsg} {x : Setpoint}
    (hb : b.buffer = pre ++ .setpoint x :: post) (hoff : .off ∉ b.buffer) (hothers : ∀ m ∈ pre ++ post, m.isSetpoint = false) :
    b.placeSetpoint sp = { b with buffer := pre ++ .setpoint sp :: post } := by
  have hwaits : b.buffer.any LaneMsg.isSetpoint = true := (any_isSetpoint_iff b.buffer).mpr ⟨x, by simp [hb]⟩
  refine (if_neg (mt (any_isOff_iff b.buffer).mp hoff)).trans ((if_pos hwaits).trans ?_)
  rw [hb, updateWhere_of_one LaneMsg.isSetpoint (fun _ => .setpoint sp) rfl hothers]

/-- Behind MARKs alone a SETPOINT stands at the tail. -/
theorem Bridge.placeSetpoint_of_marks {b : Bridge} (sp : Setpoint) (hmarks : ∀ m ∈ b.buffer, ∃ l, m = .mark l) :
    b.placeSetpoint sp = { b with buffer := b.buffer ++ [.setpoint sp] } := by
  refine Bridge.placeSetpoint_of_none sp (fun h => ?_) fun ⟨x, h⟩ => ?_
  all_goals
    obtain ⟨l, hl⟩ := hmarks _ h
    cases hl

/-! ### The slot log (R113) -/

theorem DirClass.changed_joined (d : Dir) (c : DirClass) : (c.joined d).changed = c.changed := by
  cases c <;> cases d <;> rfl

theorem Dir.cls_eq (d : Dir) : d.cls = (match d with | .rest => .rest | .fwd => .fwd | .rev => .rev) := by
  cases d <;> rfl

/-! ### The END of a SETPOINT (R110 to R112, R116, R121) -/

/-- The bridge with the END of a SETPOINT in its slot log and as what was last sent. -/
def Bridge.sentLast (sp : Setpoint) (b : Bridge) : Bridge := { b.logSlot (SlotLog.ended sp) with lastSent := .setpoint sp }

theorem Bridge.setpointEnd_of_same {b : Bridge} (due : Instant) {sp : Setpoint} (h : b.state.dir? = some sp.dir) :
    b.setpointEnd due sp = b.sentLast sp := by
  unfold Bridge.setpointEnd
  cases hstate : b.state <;> simp_all [BridgeState.dir?, Bridge.sentLast]

theorem Bridge.setpointEnd_of_other {b : Bridge} (due : Instant) {sp : Setpoint} {d : Dir} (h : b.state.dir? = some d)
    (hd : d ≠ sp.dir) : b.setpointEnd due sp = (b.sentLast sp).startChange due sp.dir := by
  have hne := Ne.symm hd
  unfold Bridge.setpointEnd
  cases hstate : b.state <;> simp_all [BridgeState.dir?, Bridge.sentLast]

theorem Bridge.setpointEnd_of_changing {b : Bridge} (due : Instant) (sp : Setpoint) (h : b.state = .changing) :
    b.setpointEnd due sp = (b.sentLast sp).startChange due sp.dir := by
  unfold Bridge.setpointEnd
  simp [h, Bridge.sentLast]

theorem Bridge.setpointEnd_of_off {b : Bridge} (due : Instant) (sp : Setpoint) (h : b.state = .off) :
    b.setpointEnd due sp = (b.sentLast sp).setpointEndOff due sp := by
  unfold Bridge.setpointEnd
  simp [h, Bridge.sentLast]

theorem Bridge.setpointEnd_of_tripped {b : Bridge} (due : Instant) (sp : Setpoint) (h : b.state = .tripped) :
    b.setpointEnd due sp = (b.sentLast sp).setpointEndTripped due := by
  unfold Bridge.setpointEnd
  simp [h, Bridge.sentLast]

theorem State.sentSetpoint_of_setpoint {s : State} (t : Instant) {sp : Setpoint} (h : s.bridge.sending = some (.setpoint sp)) :
    s.sentSetpoint t = s.setBridge ((s.bridge.endMessage t).setpointEnd (t + s.confirmTime) sp) := by
  unfold State.sentSetpoint
  rw [h]
  rfl

theorem exec_setpointSent {s : State} (t : Instant) (hrun : s.running) {sp : Setpoint}
    (h : s.bridge.sending = some (.setpoint sp)) :
    exec (.setpointSent t) s = .next { s with
      now := s.at t
      bridge := (s.bridge.endMessage (s.at t)).setpointEnd (s.at t + s.cfg.confirmLimit * 10) sp } :=
  congrArg Host.Outcome.next ((State.unlessHeld_of_running hrun _).trans (State.sentSetpoint_of_setpoint _ h))

/-- Settles O43, first part: the starts and ends of messages. -/
theorem laneMessages_spec (s : State) (t : Instant) (hrun : s.running) (ended : Bridge)
    (hended : ended = { s.bridge with sending := none, blroom := false, take := some ⟨s.at t + 500, true⟩ }) :
    (∀ m rest, s.bridge.buffer = m :: rest → s.bridge.blroom = true → s.bridge.sending = none →
      exec .laneSend s = .next { s with bridge := { s.bridge with sending := some m, buffer := rest } })
      ∧ (s.bridge.buffer = [] ∨ s.bridge.blroom = false ∨ s.bridge.sending ≠ none → exec .laneSend s = .next s)
      ∧ (s.bridge.take = none → exec .blroomRise s = .next { s with bridge := { s.bridge with blroom := true } })
      ∧ (∀ w, s.bridge.take = some w → exec .blroomRise s = .next
        { s with
          bridge :=
            { s.bridge with blroom := true, take := none, missCount := if w.first then 0 else s.bridge.missCount } })
      ∧ (s.bridge.sending = some .off →
        (s.bridge.leaving ≠ .afterOff →
          exec (.offSent t) s = .next { s with now := s.at t, bridge := { ended with lastSent := .off } })
          ∧ (s.bridge.leaving = .afterOff → (∀ m ∈ s.bridge.buffer, ∃ l, m = .mark l) →
            exec (.offSent t) s = .next
              { s with
                now := s.at t
                bridge :=
                  { ended with
                    lastSent := .off, leaving := .placed, buffer := s.bridge.buffer ++ [.setpoint ⟨.rest, 0⟩] } })) := by
  have hsent : exec .laneSend s = .next (s.setBridge s.bridge.send) :=
    congrArg Host.Outcome.next (State.unlessHeld_of_running hrun _)
  have hroom : exec .blroomRise s = .next (s.setBridge s.bridge.room) :=
    (exec_blroomRise_eq s).trans (congrArg Host.Outcome.next (if_neg (Bool.eq_false_iff.mp hrun)))
  subst hended
  refine ⟨fun m rest hb hroomy hidle => ?starts, fun hstays => ?stays, fun hnone => ?quiet, fun w hw => ?taken, fun hoff => ?off⟩
  case starts =>
    rw [hsent]
    simp only [Bridge.send, hb, hroomy, hidle, Option.isNone_none, and_self, if_true]
    rfl
  case stays =>
    have hkept : s.bridge.send = s.bridge := by
      unfold Bridge.send
      split
      next m rest hb =>
        refine if_neg fun ⟨hroomy, hidle⟩ => ?_
        rcases hstays with h | h | h
        · rw [hb] at h
          cases h
        · rw [hroomy] at h
          cases h
        · exact h (Option.isNone_iff_eq_none.mp hidle)
      next => rfl
    rw [hsent, hkept]
    rfl
  case quiet =>
    rw [hroom]
    simp only [Bridge.room, hnone]
    rfl
  case taken =>
    rw [hroom]
    simp only [Bridge.room, hw]
    cases hf : w.first <;> rfl
  case off =>
    have hexec : exec (.offSent t) s = .next { s with now := s.at t, bridge := (s.bridge.endMessage (s.at t)).offEnd } := by
      refine congrArg Host.Outcome.next ((State.unlessHeld_of_running hrun _).trans ?_)
      have hsending : (s.advance t).bridge.sending = some .off := hoff
      unfold State.sentOff
      rw [hsending]
      rfl
    refine ⟨fun hleaving => ?_, fun hleaving hmarks => ?_⟩
    · have hleft : (s.bridge.endMessage (s.at t)).offEnd = { s.bridge.endMessage (s.at t) with lastSent := .off } := if_neg hleaving
      rw [hexec, hleft]
      rfl
    · have hleft : (s.bridge.endMessage (s.at t)).offEnd
          = { ({ s.bridge.endMessage (s.at t) with lastSent := .off } : Bridge).placeSetpoint Setpoint.atRest with leaving := .placed } :=
        if_pos hleaving
      rw [hexec, hleft, Bridge.placeSetpoint_of_marks (b := { s.bridge.endMessage (s.at t) with lastSent := .off }) Setpoint.atRest hmarks]
      rfl

theorem BridgeState.dir?_eq_some_iff (st : BridgeState) (d : Dir) : st.dir? = some d
    ↔ (st = .rest ∧ d = .rest) ∨ (st = .forward ∧ d = .fwd) ∨ (st = .reverse ∧ d = .rev) := by
  cases st <;> cases d <;> simp [BridgeState.dir?]

theorem BridgeState.drives_iff (st : BridgeState) : (∃ d, st.dir? = some d) ↔ st = .rest ∨ st = .forward ∨ st = .reverse := by
  cases st <;> simp [BridgeState.dir?]

/-- Settles O43, second part: the END of a SETPOINT by the bridge state. -/
theorem setpointEnds_spec (s : State) (t : Instant) (hrun : s.running) (sp : Setpoint)
    (hsending : s.bridge.sending = some (.setpoint sp)) (taken changing : Bridge)
    (htaken : taken =
      { s.bridge with
        sending := none, blroom := false, take := some ⟨s.at t + 500, true⟩
        lastSent := .setpoint sp
        log :=
          let l := s.bridge.log.getD SlotLog.first
          some { l with
            reference := max l.reference sp.current
            cls := if l.cls = .off then .off else if l.cls = (match sp.dir with | .rest => .rest | .fwd => .fwd | .rev => .rev) then l.cls else .mixed } })
    (hchanging : changing =
      { taken with
        state := .changing, target := sp.dir, awaited := some (.running (s.at t + s.cfg.confirmLimit * 10))
        log :=
          let l := s.bridge.log.getD SlotLog.first
          some { l with reference := max l.reference sp.current, cls := if l.cls = .off then .off else .mixed } }) :
    let same := (s.bridge.state = .rest ∧ sp.dir = .rest) ∨ (s.bridge.state = .forward ∧ sp.dir = .fwd)
      ∨ (s.bridge.state = .reverse ∧ sp.dir = .rev)
    let drives := s.bridge.state = .rest ∨ s.bridge.state = .forward ∨ s.bridge.state = .reverse
    (drives → same → exec (.setpointSent t) s = .next { s with now := s.at t, bridge := taken })
      ∧ (drives ∧ ¬same ∨ s.bridge.state = .changing →
        exec (.setpointSent t) s = .next { s with now := s.at t, bridge := changing })
      ∧ (s.bridge.state = .off → s.bridge.leaving = .placed → sp.dir = .rest →
        exec (.setpointSent t) s = .next { s with now := s.at t, bridge := { changing with leaving := .no } })
      ∧ (s.bridge.state = .off → ¬(s.bridge.leaving = .placed ∧ sp.dir = .rest) →
        exec (.setpointSent t) s = .next { s with now := s.at t, bridge := taken })
      ∧ (s.bridge.state = .tripped → exec (.setpointSent t) s = .next
        { s with
          now := s.at t
          bridge :=
            { taken with
              awaited :=
                if s.bridge.awaited = some .notStarted ∧ (∀ m ∈ s.bridge.buffer, m.isSetpoint = false)
                then some (.running (s.at t + s.cfg.confirmLimit * 10))
                else s.bridge.awaited } }) := by
  intro same drives
  have htakenIs : taken = (s.bridge.endMessage (s.at t)).sentLast sp := by
    rw [htaken, ← Dir.cls_eq]
    rfl
  have hchangingIs : changing
      = ((s.bridge.endMessage (s.at t)).sentLast sp).startChange (s.at t + s.cfg.confirmLimit * 10) sp.dir := by
    have hclass := DirClass.changed_joined sp.dir ((s.bridge.endMessage (s.at t)).log.getD SlotLog.first).cls
    rw [hchanging, htakenIs]
    simp only [Bridge.startChange, Bridge.sentLast, Bridge.logSlot, Option.getD_some, SlotLog.ended, hclass]
    rfl
  have hsame : same ↔ s.bridge.state.dir? = some sp.dir := (BridgeState.dir?_eq_some_iff _ _).symm
  have hdrives : drives ↔ ∃ d, s.bridge.state.dir? = some d := (BridgeState.drives_iff _).symm
  have hexec := exec_setpointSent t hrun hsending
  clear_value same drives
  clear htaken hchanging
  subst htakenIs hchangingIs
  refine ⟨fun _ h => ?same, fun h => ?changes, fun hstate hleaving hrest => ?leaves, fun hstate hnot => ?stays, fun hstate => ?tripped⟩
  case same => rw [hexec, Bridge.setpointEnd_of_same (b := s.bridge.endMessage (s.at t)) _ (hsame.mp h)]
  case changes =>
    rcases h with ⟨hd, hother⟩ | hstate
    · obtain ⟨d, hdir⟩ := hdrives.mp hd
      have hne : d ≠ sp.dir := fun h => hother (hsame.mpr (h ▸ hdir))
      rw [hexec, Bridge.setpointEnd_of_other (b := s.bridge.endMessage (s.at t)) _ hdir hne]
    · rw [hexec, Bridge.setpointEnd_of_changing (b := s.bridge.endMessage (s.at t)) _ sp hstate]
  case leaves =>
    rw [hexec, Bridge.setpointEnd_of_off (b := s.bridge.endMessage (s.at t)) _ sp hstate, hrest]
    have hended : ((s.bridge.endMessage (s.at t)).sentLast sp).setpointEndOff (s.at t + s.cfg.confirmLimit * 10) sp
        = { ((s.bridge.endMessage (s.at t)).sentLast sp).startChange (s.at t + s.cfg.confirmLimit * 10) .rest with leaving := .no } :=
      if_pos ⟨hleaving, hrest⟩
    rw [hended]
  case stays =>
    rw [hexec, Bridge.setpointEnd_of_off (b := s.bridge.endMessage (s.at t)) _ sp hstate]
    have hended : ((s.bridge.endMessage (s.at t)).sentLast sp).setpointEndOff (s.at t + s.cfg.confirmLimit * 10) sp
        = (s.bridge.endMessage (s.at t)).sentLast sp := if_neg hnot
    rw [hended]
  case tripped =>
    rw [hexec, Bridge.setpointEnd_of_tripped (b := s.bridge.endMessage (s.at t)) _ sp hstate]
    refine congrArg (fun b => Host.Outcome.next { s with now := s.at t, bridge := b }) ?_
    by_cases h : s.bridge.awaited = some .notStarted ∧ (∀ m ∈ s.bridge.buffer, m.isSetpoint = false)
    · rw [if_pos h]
      exact if_pos ⟨h.1, (any_isSetpoint_eq_false s.bridge.buffer).mpr h.2⟩
    · rw [if_neg h]
      exact if_neg fun ⟨ha, hb⟩ => h ⟨ha, (any_isSetpoint_eq_false s.bridge.buffer).mp hb⟩

/-! ### Setpoints handed (R106, R110, R111, R117) -/

theorem Bridge.takeSetpoint_of_drives {b : Bridge} (sp : Setpoint) (h : b.state = .rest ∨ b.state = .forward ∨ b.state = .reverse) :
    b.takeSetpoint sp = b.driveSetpoint sp := by
  unfold Bridge.takeSetpoint
  rcases h with h | h | h
  all_goals rw [h]

theorem Bridge.takeSetpoint_of_refuses {b : Bridge} (sp : Setpoint) (h : b.state = .off ∨ b.state = .tripped) :
    b.takeSetpoint sp = b := by
  unfold Bridge.takeSetpoint
  rcases h with h | h
  all_goals rw [h]

theorem Bridge.takeSetpoint_of_changing {b : Bridge} (sp : Setpoint) (h : b.state = .changing) :
    b.takeSetpoint sp = b.holdSetpoint sp := by
  unfold Bridge.takeSetpoint
  rw [h]

theorem BridgeState.refuses_iff (st : BridgeState) : st.refuses = true ↔ st = .off ∨ st = .tripped := by
  simp [BridgeState.refuses]

theorem Setpoint.lowered_eq (cfg : Cfg) (sp : Setpoint) :
    sp.lowered cfg =
      let current := min sp.current (match sp.dir with
        | .rest => 0 | .fwd => 10 * cfg.forwardRating | .rev => 10 * cfg.reverseRating)
      if current = 0 then ⟨.rest, 0⟩ else ⟨sp.dir, current⟩ := by
  obtain ⟨d, current⟩ := sp
  cases d <;> rfl

theorem State.handSlotSetpoint_of_taken {s : State} (sp : Setpoint) (hoff : s.bridge.state ≠ .off)
    (htripped : s.bridge.state ≠ .tripped) :
    s.handSlotSetpoint sp = s.setBridge ((s.bridge.takeSetpoint (sp.lowered s.cfg)).recordAccepted s.boundary.begun
      (!s.boundary.owed.contains .bridgeSlot) (sp.lowered s.cfg)) :=
  if_neg fun h => ((BridgeState.refuses_iff _).mp h).elim hoff htripped

theorem Bridge.takeSetpoint_log (b : Bridge) (sp : Setpoint) : (b.takeSetpoint sp).log = b.log := by
  unfold Bridge.takeSetpoint Bridge.driveSetpoint Bridge.holdSetpoint Bridge.placeSetpoint
  (repeat' split) <;> rfl

/-- Settles O43: the lane's starts and ends, the placing of a setpoint in the lane, and its way there from the engine. -/
theorem laneMessagesGoOutAndEnd : Obligations.LaneMessagesGoOutAndEnd := by
  refine ⟨?messages, ?placing, ?handing⟩
  case messages =>
    intro s t hrun ended
    obtain ⟨hstarts, hstays, hquiet, hroom, hoff⟩ := laneMessages_spec s t hrun ended rfl
    exact ⟨hstarts, hstays, hquiet, hroom, hoff, fun sp hsending => setpointEnds_spec s t hrun sp hsending _ _ rfl rfl⟩
  case placing =>
    intro b sp drives waits
    have hwaits : b.buffer.any LaneMsg.isSetpoint = true ↔ waits := any_isSetpoint_iff b.buffer
    refine ⟨fun h => Bridge.takeSetpoint_of_refuses sp h, fun h hdir => ?held, fun h hdir => ?rest, fun h hlast hnot => ?equal,
      fun h hplace => ?placed, fun h => Bridge.placeSetpoint_of_off sp h, fun h hnot => Bridge.placeSetpoint_of_none sp h hnot,
      fun pre x post hb hoff hothers => Bridge.placeSetpoint_of_waiting sp hb hoff hothers⟩
    case held => exact (Bridge.takeSetpoint_of_changing sp h).trans (if_neg hdir)
    case rest => exact (Bridge.takeSetpoint_of_changing sp h).trans (if_pos hdir)
    case equal =>
      exact (Bridge.takeSetpoint_of_drives sp h).trans
        (if_pos ⟨hlast, Bool.eq_false_iff.mpr fun hany => hnot (hwaits.mp hany)⟩)
    case placed =>
      refine (Bridge.takeSetpoint_of_drives sp h).trans (if_neg fun ⟨hlast, hnone⟩ => ?_)
      rcases hplace with hne | hw
      · exact hne hlast
      · rw [hwaits.mpr hw] at hnone
        cases hnone
  case handing =>
    intro s sp current lowered taken
    have hlowered : sp.lowered s.cfg = lowered := Setpoint.lowered_eq s.cfg sp
    refine ⟨fun h => if_pos ((BridgeState.refuses_iff _).mpr h), fun hoff htripped howed => ?early, fun hoff htripped howed => ?opened,
      ?now⟩
    case early =>
      have hopen : (!s.boundary.owed.contains .bridgeSlot) = false := by simp [howed]
      rw [State.handSlotSetpoint_of_taken sp hoff htripped, hlowered, hopen]
      rfl
    case opened =>
      have hopen : (!s.boundary.owed.contains .bridgeSlot) = true := by simp [howed]
      rw [State.handSlotSetpoint_of_taken sp hoff htripped, hlowered, hopen]
      have hlog : taken.log = s.bridge.log := Bridge.takeSetpoint_log _ _
      show s.setBridge (taken.logSlot (SlotLog.accept lowered)) = _
      rw [Bridge.logSlot, hlog]
      rfl
    case now =>
      show s.setBridge (s.bridge.takeSetpoint (sp.lowered s.cfg)) = _
      rw [hlowered]
      rfl

end Sys2Proof.Machine
end

section
/-! PROOFS. The station's entry to LOCKOUT (R83, R87, R143, R172). -/

namespace Sys2Proof.Machine

open Sys2Proof

/-! ### The monitor at the entry -/

theorem Monitor.faultnLevel_of_lockout {m : Monitor} (h : m.told = .lockout) : m.faultnLevel = true := by
  simp [Monitor.faultnLevel, h]

theorem State.declareLockout_isDeclared (s : State) : s.declareLockout.mon.isDeclared .lockout = true := by
  unfold State.declareLockout
  rw [State.declareCond_isDeclared]
  simp

/-- The monitor hears of LOCKOUT and of its declaration, in either order (R147; log 5). -/
theorem State.tellLockout_spec (df : Bool) (s : State) :
    (s.tellLockout df).mon.formed ∧ (s.tellLockout df).mon.told = .lockout ∧ (s.tellLockout df).mon.isDeclared .lockout = true
      ∧ (s.tellLockout df).station = { s.station with state := .lockout, joinCount := none } := by
  unfold State.tellLockout
  split
  next =>
    refine ⟨State.tellMonitor_formed _ _, State.tellMonitor_told _ _, ?_, by simp [State.declareLockout, State.setStanding]⟩
    rw [State.tellMonitor_isDeclared]
    exact s.declareLockout_isDeclared
  next =>
    refine ⟨State.declareCond_formed _ _ (State.tellMonitor_formed _ _), ?_, State.declareLockout_isDeclared _,
      by simp [State.declareLockout, State.setStanding]⟩
    exact (State.declareCond_told _ _ _).trans (State.tellMonitor_told _ _)

/-! ### The plan request goes -/

theorem State.cancelPlan_request (s : State) : s.cancelPlan.map.request = none := by
  simp [State.cancelPlan]

theorem State.cancelRequest_request {s : State} (h : s.map.request = none) : s.cancelRequest.map.request = none := by
  unfold State.cancelRequest
  split
  next => exact State.cancelPlan_request _
  next => exact h

theorem State.withdrawalClaim_request (lockout : Bool) (s : State) : (s.withdrawalClaim lockout).map.request = s.map.request := by
  unfold State.withdrawalClaim
  split
  next =>
    rw [State.sendClaim_eq]
    dsimp only
    unfold SlotMap.answered
    split <;> rfl
  next => rfl

theorem State.settled_of_noSetpoints {s : State} (h : s.station.state.setpoints = false) : s.settled = (.none, none) :=
  if_neg (Bool.eq_false_iff.mp h)

theorem State.settle_request_none {s : State} (hstation : s.station.state.setpoints = false) (h : s.map.request = none) :
    s.settle.map.request = none := by
  unfold State.settle
  rw [State.settled_of_noSetpoints hstation]
  unfold State.giveRequest
  dsimp only
  split
  next => exact h
  next => exact State.cancelPlan_request _

theorem State.withdrawNotice_request_none {s : State} (hstation : s.station.state.setpoints = false) (h : s.map.request = none) :
    s.withdrawNotice.map.request = none :=
  State.settle_request_none (by simpa using hstation) (by simpa using h)

theorem State.withdraw_request_none {s : State} (lockout : Bool) (hstation : s.station.state.setpoints = false) :
    (s.withdraw lockout).map.request = none := by
  refine State.withdrawNotice_request_none (by simpa using hstation) ?_
  rw [State.withdrawalClaim_request]
  simp [State.clearStarved, SlotMap.emptied]

/-! ### The engine goes OFF -/

theorem State.cancelPlan_engine (s : State) : s.cancelPlan.engine = s.engine := by simp [State.cancelPlan]

theorem State.cancelRequest_engine (s : State) : s.cancelRequest.engine
    = { s.engine with owner := s.cancelRequest.engine.owner, requested := s.cancelRequest.engine.requested } := by
  unfold State.cancelRequest
  split
  next => rw [State.cancelPlan_engine]; rfl
  next => rfl

theorem State.engineLockout_spec {s : State} (hstation : s.station.state = .lockout) :
    s.engineLockout.engine.active = Context.bare .off none ∧ s.engineLockout.engine.prepared = none
      ∧ s.engineLockout.engine.tripRest = false ∧ s.engineLockout.engine.preTrip = s.engine.preTrip := by
  have hreleased : s.engineLockout
      = ((s.setEngine { s.engine with tripRest := false, committedInRest := false, restThisSlot := false }).discardPrepared.cancelRequest).buildActive
          none := rfl
  generalize hu : (s.setEngine { s.engine with tripRest := false, committedInRest := false, restThisSlot := false }).discardPrepared = u at hreleased
  have hengine : u.engine = { s.engine with tripRest := false, committedInRest := false, restThisSlot := false, prepared := none } := by
    rw [← hu]
    simp [State.discardPrepared]
  have hkept : u.station = s.station := by
    rw [← hu]
    simp
  have hcontext : u.cancelRequest.contextFor none = Context.bare .off none :=
    if_neg (by simp [hkept, hstation, StationState.setpoints])
  have hrest : u.cancelRequest.engine.tripRest = false := by rw [State.cancelRequest_engine, hengine]
  rw [hreleased, State.buildActive_engine, hrest, if_neg Bool.false_ne_true, hcontext]
  refine ⟨rfl, ?_, ?_, ?_⟩
  · rw [State.cancelRequest_engine, hengine]
  · rfl
  · rw [State.cancelRequest_engine, hengine]

/-! ### The entry -/

/-- The station is locked out: it declares it, holds no claim and asks for none, and its engine is OFF. -/
structure LockedOut (u : State) : Prop where
  declared : u.mon.isDeclared .lockout = true
  told : u.mon.told = .lockout
  faultn : u.mon.faultn = true
  active : u.map.active = none
  pending : u.map.pending = none
  request : u.map.request = none
  mode : u.engine.active.mode = .off
  prepared : u.engine.prepared = none
  tripRest : u.engine.tripRest = false

theorem State.enterLockout_station (df : Bool) (s : State) :
    (s.enterLockout df).station = { s.station with state := .lockout, joinCount := none } := by
  obtain ⟨_, _, _, hstation⟩ := s.tellLockout_spec df
  have hkept : (s.enterLockout df).station = (s.tellLockout df).station := by
    unfold State.enterLockout
    dsimp only
    split <;> simp
  rw [hkept, hstation]

theorem State.enterLockout_lockedOut (df : Bool) (s : State) : LockedOut (s.enterLockout df) := by
  obtain ⟨hformed, htold, hdeclared, hstation⟩ := s.tellLockout_spec df
  have hoff : (s.tellLockout df).station.state.setpoints = false := by
    rw [hstation]
    rfl
  generalize hx : (if s.station.state == .joined then ((s.tellLockout df).withdraw true).busLeaveJoined
    else (s.tellLockout df).withdraw true) = x
  have hu : s.enterLockout df = x.engineLockout := by
    rw [← hx]
    rfl
  have hmap : x.map = ((s.tellLockout df).withdraw true).map ∧ x.station = (s.tellLockout df).station
      ∧ MonKept ((s.tellLockout df).withdraw true) x := by
    rw [← hx]
    split
    next => exact ⟨by simp, by simp, State.busLeaveJoined_monKept _⟩
    next => exact ⟨rfl, by simp, .refl _⟩
  obtain ⟨hmap, hxstation, hxmon⟩ := hmap
  have hmon : MonKept (s.tellLockout df) x.engineLockout :=
    ((State.withdraw_monKept true _).trans hxmon).trans (State.engineLockout_monKept x)
  have hxactive : x.map.active = none := by rw [hmap]; exact State.withdraw_active true _
  have hxpending : x.map.pending = none := by rw [hmap]; exact State.withdraw_pending true _
  have hxrequest : x.map.request = none := by rw [hmap]; exact State.withdraw_request_none true hoff
  obtain ⟨hactive, hprepared, hrest, _⟩ := State.engineLockout_spec (s := x) (by rw [hxstation, hstation])
  have htold' : x.engineLockout.mon.told = .lockout := hmon.told.trans htold
  rw [hu]
  constructor
  case declared => exact (hmon.declared .lockout (by decide)).trans hdeclared
  case told => exact htold'
  case faultn => exact (hmon.formed hformed).trans (Monitor.faultnLevel_of_lockout htold')
  case active => simpa using hxactive
  case pending => simp [hxpending]
  case request =>
    have hmap : x.engineLockout.map = (State.cancelRequest (x.setEngine
        { x.engine with tripRest := false, committedInRest := false, restThisSlot := false }).discardPrepared).map := by
      simp [State.engineLockout]
    rw [hmap]
    exact State.cancelRequest_request (by simpa using hxrequest)
  case mode => rw [hactive]; rfl
  case prepared => exact hprepared
  case tripRest => exact hrest

/-- The bridge is OFF as the station enters LOCKOUT, so that the engine's stop hands it nothing (R106). -/
theorem State.enterLockout_bridge (df : Bool) {s : State} (h : s.bridge.state = .off) : (s.enterLockout df).bridge = s.bridge := by
  have htold : (s.tellLockout df).bridge = s.bridge := by
    unfold State.tellLockout
    split <;> simp [State.declareLockout]
  have hwithdrawn : ((s.tellLockout df).withdraw true).bridge = s.bridge := by
    refine (State.withdrawNotice_stops _).2.trans ?_
    have hkept : (((s.tellLockout df).setMap (s.tellLockout df).map.emptied).clearStarved.withdrawalClaim true).bridge = s.bridge := by
      simp [htold]
    rw [hkept, Bridge.takeSetpoint_of_refuses _ (.inl h), ite_self]
  unfold State.enterLockout
  dsimp only
  split <;> simp [hwithdrawn]

theorem State.askLockout_of_onBus (df : Bool) {s : State} (h : s.station.state = .listening ∨ s.station.state = .joined) :
    s.askLockout df = s.enterLockout df := by
  unfold State.askLockout
  rcases h with h | h
  all_goals rw [h]

theorem State.askLockout_of_isolated (df : Bool) {s : State} (h : s.station.state = .isolated) :
    s.askLockout df = s.declareLockout := by
  unfold State.askLockout
  rw [h]

theorem State.askLockout_bridge (df : Bool) {s : State} (h : s.bridge.state = .off) : (s.askLockout df).bridge = s.bridge := by
  unfold State.askLockout
  split
  case h_1 | h_2 => exact State.enterLockout_bridge df h
  case h_3 => simp [State.declareLockout]
  all_goals rfl

end Sys2Proof.Machine
end

section
/-! PROOFS. What a trip does, and the FAULT message (R115, R116, R119, R128). -/

namespace Sys2Proof.Machine

open Sys2Proof

/-! ### The bridge link's own part (R116, R119) -/

/-- Placing a SETPOINT moves the buffer alone. -/
theorem Bridge.placeSetpoint_buffer (sp : Setpoint) (b : Bridge) :
    b.placeSetpoint sp = { b with buffer := (b.placeSetpoint sp).buffer } := by
  unfold Bridge.placeSetpoint
  (repeat' split) <;> rfl

theorem Bridge.placeOff_buffer (b : Bridge) : b.placeOff = { b with buffer := b.placeOff.buffer } := by
  unfold Bridge.placeOff
  (repeat' split) <;> rfl

/-- Steps 1 to 3 of a trip taken outside TRIPPED. -/
def Bridge.restedBy (b : Bridge) : Bridge :=
  { b with
    state := .tripped, target := .rest, held := none, restCount := 0
    buffer := (b.placeSetpoint ⟨.rest, 0⟩).buffer
    awaited :=
      if b.acked = .fwd ∨ b.acked = .rev ∨ b.state = .changing then some .notStarted
      else if b.acked = .rest then none else b.awaited }

theorem Bridge.enterTripped_eq (b : Bridge) : b.enterTripped = if b.state = .tripped then b else b.restedBy := by
  unfold Bridge.enterTripped
  split
  next => rfl
  next =>
    rw [Bridge.placeSetpoint_buffer]
    rfl

theorem Bridge.enterTripped_counts (b : Bridge) : b.enterTripped.log = b.log ∧ b.enterTripped.tripCount = b.tripCount := by
  rw [Bridge.enterTripped_eq]
  split <;> exact ⟨rfl, rfl⟩

theorem updateWhere_any {α : Type} (p : α → Bool) (f : α → α) (xs : List α) (h : xs.any p = true) :
    ∃ x ∈ xs, p x = true ∧ f x ∈ updateWhere p f xs := by
  obtain ⟨x, hx, hp⟩ := List.any_eq_true.mp h
  exact ⟨x, hx, hp, List.mem_map.mpr ⟨x, hx, if_pos hp⟩⟩

theorem Bridge.off_mem_placeOff (b : Bridge) : .off ∈ b.placeOff.buffer := by
  unfold Bridge.placeOff
  split
  next h => exact (any_isOff_iff b.buffer).mp h
  next =>
    split
    next h =>
      obtain ⟨_, _, _, hmem⟩ := updateWhere_any LaneMsg.isSetpoint (fun _ => .off) b.buffer h
      exact hmem
    next => simp

/-! ### The records (R128) -/

theorem ZoneFlag.mask_tripped : ZoneFlag.tripped.mask = 0x100#16 := by decide

theorem OpenRecord.set_tripped : OpenRecord.set .tripped = fun r => { r with flags := r.flags ||| 0x100#16 } := by
  funext r
  rw [OpenRecord.set, ZoneFlag.mask_tripped]

theorem State.flagAll_tripped (s : State) :
    s.flagAll .tripped
      = { s with dose := { s.dose with records := s.dose.records.map fun r => { r with flags := r.flags ||| 0x100#16 } } } := by
  rw [State.flagAll, OpenRecord.set_tripped]
  rfl

/-- A mark of its own leaves another mark standing. -/
theorem OpenRecord.has_set_of_has (f g : ZoneFlag) {r : OpenRecord} (h : r.has f = true) : (r.set g).has f = true := by
  simp only [OpenRecord.has, OpenRecord.set, BitVec.getLsbD_or, Bool.or_eq_true] at h ⊢
  exact .inl h

theorem State.flagAll_has_of_has (f g : ZoneFlag) {s : State} (h : ∀ r ∈ s.dose.records, r.has f = true) :
    ∀ r ∈ (s.flagAll g).dose.records, r.has f = true := by
  intro r hr
  obtain ⟨x, hx, rfl⟩ := List.mem_map.mp hr
  exact OpenRecord.has_set_of_has f g (h x hx)

/-! ### The trip up to the engine -/

/-- What a trip makes of the state before the engine takes it: the bridge link's steps, the TRIP event and the marks of the records. -/
def State.tripMarked (cause : Cause) (s : State) : State :=
  ((s.updateBridge fun b => b.enterTripped.countTrip).raise .trip cause).flagAll .tripped

theorem State.tripMarked_bridge (cause : Cause) (s : State) : (s.tripMarked cause).bridge = s.bridge.enterTripped.countTrip := by
  simp [State.tripMarked, State.updateBridge]

theorem Bridge.countTrip_tripCount (b : Bridge) : b.enterTripped.countTrip.tripCount = min 2 (b.tripCount + 1) := by
  obtain ⟨_, hcount⟩ := b.enterTripped_counts
  simp [Bridge.countTrip, hcount]

theorem State.trip_eq {s : State} (h : s.bridge.state ≠ .off) (cause : Cause) (df : Bool) :
    s.trip cause df = if s.bridge.tripCount = 0 then (s.tripMarked cause).engineTrip
      else ((s.tripMarked cause).engineTrip).escalate df := by
  have hbridge : (s.tripMarked cause).engineTrip.bridge = s.bridge.enterTripped.countTrip := by
    simp [State.tripMarked_bridge]
  have hcount : (s.tripMarked cause).engineTrip.bridge.tripCount = min 2 (s.bridge.tripCount + 1) := by
    rw [hbridge, Bridge.countTrip_tripCount]
  refine (if_neg h).trans ?_
  show (if (s.tripMarked cause).engineTrip.bridge.tripCount = 2 then (s.tripMarked cause).engineTrip.escalate df
    else (s.tripMarked cause).engineTrip) = _
  by_cases hzero : s.bridge.tripCount = 0
  · rw [if_pos hzero, if_neg (by omega)]
  · rw [if_neg hzero, if_pos (by omega)]

/-! ### The engine at a trip (R103) -/

theorem State.engineTrip_of_running {s : State} (h : s.engine.tripRest = false) :
    s.engineTrip.engine.tripRest = true ∧ s.engineTrip.engine.preTrip = s.engine.active.carrier
      ∧ s.engineTrip.engine.setpoint = ⟨.rest, 0⟩
      ∧ s.engineTrip.engine.active = Context.bare .rest s.engine.active.carrier := by
  have htrip : s.engineTrip = ((s.setEngine { s.engine with
      tripRest := true, preTrip := s.engine.active.carrier, setpoint := Setpoint.atRest }).buildActive s.engine.active.carrier).settle :=
    if_neg (Bool.eq_false_iff.mp h)
  rw [htrip, State.settle_engine, State.buildActive_engine]
  exact ⟨rfl, rfl, rfl, rfl⟩

/-! ### The second trip -/

theorem Bridge.escalate_spec (b : Bridge) :
    b.escalate.state = .off ∧ b.escalate.held = none ∧ b.escalate.awaited = none ∧ b.escalate.tripCount = b.tripCount
      ∧ b.escalate.restCount = 0 ∧ b.escalate.missCount = 0 ∧ .off ∈ b.escalate.buffer := by
  refine ⟨rfl, rfl, rfl, ?_, rfl, rfl, b.off_mem_placeOff⟩
  show b.placeOff.tripCount = b.tripCount
  rw [Bridge.placeOff_buffer]

/-- The state that asks for LOCKOUT at an escalation. -/
def State.escalating (s : State) : State := (s.flagAll .unplated).updateBridge Bridge.escalate

theorem State.escalate_bridge (df : Bool) (s : State) : (s.escalate df).bridge = s.bridge.escalate := by
  have hasked : (s.escalating.askLockout df).bridge = s.escalating.bridge := State.askLockout_bridge df rfl
  exact hasked.trans (by simp [State.escalating, State.updateBridge])

theorem State.askLockout_dose (df : Bool) (s : State) : (s.askLockout df).dose = s.dose := by
  unfold State.askLockout
  split
  case h_1 | h_2 =>
    unfold State.enterLockout State.tellLockout
    dsimp only
    (repeat' split) <;> simp [State.declareLockout]
  case h_3 => simp [State.declareLockout]
  all_goals rfl

theorem State.escalate_records {s : State} (df : Bool) (h : ∀ r ∈ s.dose.records, r.has .tripped = true) :
    ∀ r ∈ (s.escalate df).dose.records, r.has .tripped = true ∧ r.has .unplated = true := by
  have hdose : (s.escalate df).dose = (s.flagAll .unplated).dose := (State.askLockout_dose df s.escalating).trans rfl
  rw [hdose]
  exact fun r hr => ⟨State.flagAll_has_of_has .tripped .unplated h r hr, State.flagAll_has .unplated s r hr⟩

/-- Settles O48: a trip up to the engine's part of it, the engine's rest for the carrier it had, and the escalation of the second. -/
theorem tripRestsTheBridgeAndTheSecondLocksOut : Obligations.TripRestsTheBridgeAndTheSecondLocksOut := by
  intro s cause df hoff u tripped raised marked
  have htripped : tripped = s.bridge.enterTripped := (Bridge.enterTripped_eq s.bridge).symm
  have hraised : raised = (s.updateBridge fun b => b.enterTripped.countTrip).raise .trip cause := by
    obtain ⟨hlog, hcount⟩ := s.bridge.enterTripped_counts
    simp only [raised, htripped, State.updateBridge, Bridge.countTrip, Bridge.logSlot, hlog, hcount]
    rfl
  have hmarked : marked = s.tripMarked cause := by
    have hdose : raised.dose = s.dose := by
      rw [hraised]
      simp
    show ({ raised with dose := _ } : State) = _
    rw [State.tripMarked, State.flagAll_tripped, ← hraised, hdose]
  have hu : u = if s.bridge.tripCount = 0 then marked.engineTrip else marked.engineTrip.escalate df := by
    rw [hmarked]
    exact State.trip_eq hoff cause df
  clear_value u marked
  subst hmarked
  clear_value raised tripped
  refine ⟨hu, fun hnot hzero hrest => ?first, fun hone => ?second⟩
  case first =>
    rw [if_pos hzero] at hu
    have hengine : (s.tripMarked cause).engine = s.engine := by simp [State.tripMarked]
    obtain ⟨htrip, hpre, hsp, hactive⟩ := State.engineTrip_of_running (s := s.tripMarked cause) (by rw [hengine, hrest])
    have hdose : (s.tripMarked cause).dose
        = { s.dose with records := s.dose.records.map fun r => { r with flags := r.flags ||| 0x100#16 } } := by
      rw [State.tripMarked, State.flagAll_tripped]
      simp
    subst hu
    refine ⟨?_, ?_, htrip, ?_, hsp, ?_, ?_, ?_⟩
    · have hrested : s.bridge.enterTripped = s.bridge.restedBy := (Bridge.enterTripped_eq s.bridge).trans (if_neg hnot)
      simp only [State.engineTrip_leaves, State.tripMarked_bridge, hrested]
      simp only [Bridge.countTrip, Bridge.logSlot, Bridge.restedBy, hzero]
      rfl
    · simpa using hdose
    · rw [hpre, hengine]
    · rw [hactive]; rfl
    · rw [hactive, hengine]; rfl
    · simp [State.tripMarked]
  case second =>
    rw [if_neg (by omega)] at hu
    generalize hx : (s.tripMarked cause).engineTrip = x at hu
    have hxbridge : x.bridge = s.bridge.enterTripped.countTrip := by
      rw [← hx]
      simp [State.tripMarked_bridge]
    have hxstation : x.station = s.station := by
      rw [← hx]
      simp [State.tripMarked]
    have hxrecords : ∀ r ∈ x.dose.records, r.has .tripped = true := by
      have hdose : x.dose = (((s.updateBridge fun b => b.enterTripped.countTrip).raise .trip cause).flagAll .tripped).dose := by
        rw [← hx]
        simp [State.tripMarked]
      rw [hdose]
      exact State.flagAll_has .tripped _
    have hxcount : x.bridge.tripCount = 2 := by
      rw [hxbridge, Bridge.countTrip_tripCount]
      omega
    have hleaves : x.clock = s.clock ∧ x.tracker = s.tracker ∧ x.pending = s.pending := by
      rw [← hx]
      simp [State.tripMarked]
    obtain ⟨hclock, htracker, hpending⟩ := hleaves
    obtain ⟨hstate, hheld, hawaited, hcount, hrestCount, hmiss, hmem⟩ := x.bridge.escalate_spec
    have hbridge : u.bridge = x.bridge.escalate := by rw [hu, State.escalate_bridge]
    have hestation : x.escalating.station = s.station := by simp [State.escalating, hxstation]
    refine ⟨by rw [hbridge, hstate], by rw [hbridge, hheld], by rw [hbridge, hawaited], by rw [hbridge, hcount, hxcount],
      by rw [hbridge, hrestCount], by rw [hbridge, hmiss], by rw [hbridge]; exact hmem, ?records, ?onBus, ?isolated,
      by simp [hu, hclock], by simp [hu, htracker], by simp [hu, hpending]⟩
    case records =>
      rw [hu]
      exact State.escalate_records df hxrecords
    case onBus =>
      intro hbus
      have hentered : u = x.escalating.enterLockout df :=
        hu.trans (State.askLockout_of_onBus (s := x.escalating) df (by rw [hestation]; exact hbus))
      have hlocked := State.enterLockout_lockedOut df x.escalating
      rw [hentered, State.enterLockout_station, hestation]
      exact ⟨rfl, hlocked.declared, hlocked.told, hlocked.faultn, hlocked.active, hlocked.pending, hlocked.request, hlocked.mode,
        hlocked.prepared, hlocked.tripRest⟩
    case isolated =>
      intro hisolated
      have hdeclared : u = x.escalating.declareLockout :=
        hu.trans (State.askLockout_of_isolated (s := x.escalating) df (by rw [hestation, hisolated]))
      rw [hdeclared]
      refine ⟨?_, State.declareLockout_isDeclared _⟩
      simp [State.declareLockout, hestation]

/-! ### The FAULT message (R115) -/

theorem faultCauseOf_eq_some {n : Nat} {cause : Cause} (h : faultCauseOf n = some cause) :
    cause = .overtemp ∨ cause = .drive ∨ cause = .supply := by
  unfold faultCauseOf at h
  split at h
  all_goals cases h
  case h_1 => exact .inl rfl
  case h_2 => exact .inr (.inl rfl)
  case h_3 => exact .inr (.inr rfl)

theorem readReturn_fault {w : LinkWord} {cause : Cause} (h : readReturn w = some (.fault cause)) :
    cause = .overtemp ∨ cause = .drive ∨ cause = .supply := by
  unfold readReturn at h
  split at h
  next =>
    split at h
    next => cases h
    next =>
      split at h
      next =>
        split at h
        next c hc =>
          cases h
          exact faultCauseOf_eq_some hc
        next => cases h
      next => cases h
  next => cases h

theorem State.trip_of_off {s : State} (h : s.bridge.state = .off) (cause : Cause) (df : Bool) : s.trip cause df = s := if_pos h

theorem exec_faultReceived {s : State} (hrun : s.running) {w : LinkWord} {cause : Cause} (df : Bool)
    (h : readReturn w = some (.fault cause)) : exec (.faultReceived w df) s = .next (s.trip cause df).flushClaim := by
  refine congrArg Host.Outcome.next ((State.unlessHeld_of_running hrun _).trans ?_)
  rw [h]

/-- Settles O47: a FAULT message is a trip with its cause, which OFF does not take. -/
theorem faultMessageIsATrip : Obligations.FaultMessageIsATrip := by
  intro s w df cause hrun h
  refine ⟨readReturn_fault h, fun _ => exec_faultReceived hrun df h, fun hoff hflushed => ?_⟩
  rw [exec_faultReceived hrun df h, State.trip_of_off hoff, State.flushClaim_of_claimsFlushed hflushed]

end Sys2Proof.Machine
end

section
/-! PROOFS. Misses, acknowledgements and readings (R106, R109, R112 to R114, R121). -/

namespace Sys2Proof.Machine

open Sys2Proof

/-! ### Acknowledgements (R106, R112) -/

theorem exec_ackReceived {s : State} (hrun : s.running) {w : LinkWord} {a : AckDir} (df : Bool)
    (h : readReturn w = some (.ack a)) : exec (.ackReceived w df) s = .next (s.takeAck a df).flushClaim := by
  refine congrArg Host.Outcome.next ((State.unlessHeld_of_running hrun _).trans ?_)
  rw [h]

theorem exec_ackReceived_of_other {s : State} (hrun : s.running) {w : LinkWord} (df : Bool)
    (h : ∀ a, readReturn w ≠ some (.ack a)) : exec (.ackReceived w df) s = .next s := by
  refine congrArg Host.Outcome.next ((State.unlessHeld_of_running hrun _).trans ?_)
  split
  next a hread => exact absurd hread (h a)
  all_goals rfl

theorem AckDir.isDir_iff (a : AckDir) (d : Dir) :
    a.isDir d = true ↔ (a = .rest ∧ d = .rest) ∨ (a = .fwd ∧ d = .fwd) ∨ (a = .rev ∧ d = .rev) := by
  cases a <;> cases d <;> simp [AckDir.isDir]

theorem Dir.bridgeState_eq (d : Dir) : d.bridgeState = (match d with | .rest => .rest | .fwd => .forward | .rev => .reverse) := by
  cases d <;> rfl

theorem Bridge.ackInTripped_eq (a : AckDir) (b : Bridge) :
    b.ackInTripped a =
      { b with
        acked := a, awaited := if a = .rest then none else b.awaited
        slowSeen := b.slowSeen || decide (a = .rest ∧ b.awaited = some .runOut) } := by
  unfold Bridge.ackInTripped
  split
  next h =>
    subst h
    by_cases hout : b.awaited = some .runOut
    · simp [hout]
    · simp [hout, beq_false_of_ne hout]
  next h => simp [h]

/-- The bridge as the change it awaited completes, the held setpoint put aside (R112). -/
def Bridge.changed (b : Bridge) : Bridge :=
  { b with
    awaited := none, held := none
    state := match b.target with | .rest => .rest | .fwd => .forward | .rev => .reverse
    slowSeen := b.slowSeen || decide (b.awaited = some .runOut) }

theorem Bridge.completeChange_eq (b : Bridge) : b.completeChange =
    match b.held with
    | some sp => b.changed.driveSetpoint sp
    | none => b.changed := by
  have hbeq : (b.awaited == some .runOut) = decide (b.awaited = some .runOut) := by
    by_cases hout : b.awaited = some .runOut
    · simp [hout]
    · simp [hout, beq_false_of_ne hout]
  have hchanged : ({ b with
      state := b.target.bridgeState, slowSeen := b.slowSeen || b.awaited == some .runOut, awaited := none, held := none } : Bridge)
      = b.changed := by
    rw [Dir.bridgeState_eq, hbeq]
    rfl
  unfold Bridge.completeChange
  cases b.held with
  | none => exact hchanged
  | some sp => exact congrArg (Bridge.driveSetpoint sp) hchanged

/-- Where the bridge drives a direction, an ACK of another one trips. -/
theorem State.takeAck_of_drives {s : State} {d : Dir} (h : s.bridge.state.dir? = some d) (a : AckDir) (df : Bool) :
    s.takeAck a df = if a.isDir d then { s with bridge := { s.bridge with acked := a } }
      else State.trip .wrongDirection df { s with bridge := { s.bridge with acked := a } } := by
  unfold State.takeAck
  cases hstate : s.bridge.state <;> rw [hstate] at h <;> cases h <;> cases a <;> rfl

theorem State.takeAck_of_changing {s : State} (h : s.bridge.state = .changing) (a : AckDir) (df : Bool) :
    s.takeAck a df = if a.isDir s.bridge.target then s.setBridge ({ s.bridge with acked := a } : Bridge).completeChange
      else State.trip .wrongDirection df { s with bridge := { s.bridge with acked := a } } := by
  unfold State.takeAck
  rw [h]
  rfl

/-- Settles O45: the confirm timer's deadline, and the ACK by the bridge state. -/
theorem acknowledgementsCompleteAChange : Obligations.AcknowledgementsCompleteAChange := by
  intro s t w df hrun hflushed
  have htimer : exec (.confirmTimerExpiry t) s = .next { s with now := s.at t, bridge := s.bridge.confirmRunOut (s.at t) } :=
    congrArg Host.Outcome.next (State.unlessHeld_of_running hrun _)
  refine ⟨fun due hdue => ?runs, fun hnot => ?quiet, fun hother => exec_ackReceived_of_other hrun df hother, fun a hread => ?ack⟩
  case runs =>
    have hout : s.bridge.confirmRunOut (s.at t)
        = { s.bridge with awaited := if due ≤ s.at t then some .runOut else s.bridge.awaited } := by
      unfold Bridge.confirmRunOut
      rw [hdue]
      dsimp only
      split
      next => rfl
      next => rw [← hdue]
    rw [htimer, hout]
  case quiet =>
    have hkept : s.bridge.confirmRunOut (s.at t) = s.bridge := by
      unfold Bridge.confirmRunOut
      split
      next due hdue => exact absurd hdue (hnot due)
      all_goals rfl
    rw [htimer, hkept]
  case ack =>
    intro names acked wrong
    have hexec := exec_ackReceived hrun df hread
    have hstill (b : Bridge) : State.flushClaim { s with bridge := b } = { s with bridge := b } :=
      State.flushClaim_of_claimsFlushed hflushed
    have hdriven (d : Dir) (hd : s.bridge.state.dir? = some d) :
        exec (.ackReceived w df) s = .next (if a.isDir d then acked else wrong) := by
      rw [hexec, State.takeAck_of_drives hd]
      split
      next => rw [hstill]
      next => rfl
    refine ⟨fun hoff => ?off, fun htripped => ?tripped, fun hrest => ?rest, fun hforward => ?forward, fun hreverse => ?reverse,
      fun hchanging => ⟨fun hnot => ?other, fun hnames => ?named⟩⟩
    case off =>
      rw [hexec]
      have htaken : s.takeAck a df = if a = .off then acked else s := by
        unfold State.takeAck
        rw [hoff]
        dsimp only
        split
        next h =>
          subst h
          rfl
        next => rfl
      rw [htaken]
      split
      next => rw [hstill]
      next => rw [State.flushClaim_of_claimsFlushed hflushed]
    case tripped =>
      have htaken : s.takeAck a df = { s with bridge := s.bridge.ackInTripped a } := by
        unfold State.takeAck
        rw [htripped]
        rfl
      rw [hexec, htaken, Bridge.ackInTripped_eq, hstill]
    case rest =>
      rw [hdriven .rest (by rw [hrest]; rfl)]
      cases a <;> rfl
    case forward =>
      rw [hdriven .fwd (by rw [hforward]; rfl)]
      cases a <;> rfl
    case reverse =>
      rw [hdriven .rev (by rw [hreverse]; rfl)]
      cases a <;> rfl
    case other =>
      rw [hexec, State.takeAck_of_changing hchanging, if_neg (mt (AckDir.isDir_iff a _).mp hnot)]
    case named =>
      have htaken : exec (.ackReceived w df) s = .next { s with bridge := ({ s.bridge with acked := a } : Bridge).completeChange } := by
        rw [hexec, State.takeAck_of_changing hchanging, if_pos ((AckDir.isDir_iff a _).mpr hnames)]
        exact congrArg Host.Outcome.next (hstill _)
      have hcompletes := Bridge.completeChange_eq { s.bridge with acked := a }
      intro done
      refine ⟨fun hheld => ?_, fun sp hheld => ?_⟩
      · rw [htaken, hcompletes, hheld]
        rfl
      · rw [htaken, hcompletes, hheld]
        rfl

/-! ### Readings (R113, R114) -/

theorem exec_readingReceived {s : State} (hrun : s.running) {w : LinkWord} {current : Int} {voltage slot : Nat} (df : Bool)
    (h : readReturn w = some (.reading current voltage slot)) :
    exec (.readingReceived w df) s = .next (s.takeReading ⟨current, voltage⟩ slot df).flushClaim := by
  refine congrArg Host.Outcome.next ((State.unlessHeld_of_running hrun _).trans ?_)
  rw [h]

/-- The rating against which a current is judged (R114); with no current the direction has none, and nothing is above it. -/
theorem overcurrent_iff (cfg : Cfg) (log : SlotLog) (current : Int) :
    let rating := if current < 0 then 10 * cfg.reverseRating else 10 * cfg.forwardRating
    overcurrent cfg log current = true ↔ current ≠ 0 ∧ (rating < current.natAbs
      ∨ max (log.reference * (100 + cfg.overcurrentMargin) / 100) (rating * 2 / 100) < current.natAbs) := by
  intro rating
  by_cases hzero : current = 0
  · simp [overcurrent, hzero]
  · have hrating : ratingOf cfg (directionOf current) = rating := by
      unfold directionOf
      by_cases hneg : current < 0
      · simp [rating, hneg, ratingOf]
      · have hpos : 0 < current := by omega
        simp [rating, hneg, hpos, ratingOf]
    simp [overcurrent, directionFloor, hrating, hzero]

theorem wrongDirection_iff (cfg : Cfg) (log : SlotLog) (current : Int) :
    let rating := if current < 0 then 10 * cfg.reverseRating else 10 * cfg.forwardRating
    wrongDirection cfg log current = true ↔ rating * 2 / 100 < current.natAbs
      ∧ ((log.cls = .fwd ∧ current < 0) ∨ (log.cls = .rev ∧ 0 < current)) := by
  intro rating
  by_cases hzero : current = 0
  · simp [wrongDirection, hzero]
  · have hrating : ratingOf cfg (directionOf current) = rating := by
      unfold directionOf
      by_cases hneg : current < 0
      · simp [rating, hneg, ratingOf]
      · have hpos : 0 < current := by omega
        simp [rating, hneg, hpos, ratingOf]
    simp [wrongDirection, directionFloor, hrating]

/-- Settles O46: whether the reading is the awaited one, and then how its current stands to the rating and the class of its slot. -/
theorem readingsAreJudgedAndHandedOn : Obligations.ReadingsAreJudgedAndHandedOn := by
  intro s w df current voltage slot hrun hflushed hread
  have hexec := exec_readingReceived hrun df hread
  refine ⟨fun hnot => ?discarded, fun e hoff he hslot => ?awaited⟩
  case discarded =>
    have hkept : s.takeReading ⟨current, voltage⟩ slot df = s := by
      unfold State.takeReading
      rcases hnot with hoff | hother
      · exact if_pos hoff
      · split
        next => rfl
        next =>
          split
          next e he => exact if_neg (hother e he)
          next => rfl
    rw [hexec, hkept, State.flushClaim_of_claimsFlushed hflushed]
  case awaited =>
    intro report taken rating floor exceeds wrong
    have htakes : s.takeReading ⟨current, voltage⟩ slot df = taken.judgeReading e.log current df := by
      unfold State.takeReading
      rw [if_neg hoff, he]
      dsimp only
      rw [if_pos hslot]
      unfold State.takeAwaited
      cases hwindow : e.window with
      | none => simp only [taken, hwindow]; rfl
      | some due => simp only [taken, hwindow]; rfl
    have hkept : taken.cfg = s.cfg ∧ taken.claimsFlushed := by
      simp only [taken]
      split <;> exact ⟨rfl, hflushed⟩
    obtain ⟨hcfg, hstill⟩ := hkept
    have hover : overcurrent taken.cfg e.log current = true ↔ exceeds := by
      rw [hcfg]
      exact overcurrent_iff s.cfg e.log current
    have hwrong : wrongDirection taken.cfg e.log current = true ↔ wrong := by
      rw [hcfg]
      exact wrongDirection_iff s.cfg e.log current
    rw [hexec, htakes]
    clear_value taken exceeds wrong
    refine ⟨fun h => ?_, fun hnot h => ?_, fun hnot hright => ?_⟩
    · rw [State.judgeReading, if_pos (hover.mpr h)]
    · rw [State.judgeReading, if_neg (mt hover.mp hnot), if_pos (hwrong.mpr h)]
    · rw [State.judgeReading, if_neg (mt hover.mp hnot), if_neg (mt hwrong.mp hright), State.flushClaim_of_claimsFlushed hstill]

/-! ### Misses (R108, R109) -/

theorem State.miss_of_off {s : State} (h : s.bridge.state = .off) (df : Bool) : s.miss df = s := if_pos h

theorem State.miss_of_first {s : State} (h : s.bridge.state ≠ .off) (hcount : s.bridge.missCount ≠ 1) (df : Bool) :
    s.miss df = { s with bridge := { s.bridge with missCount := 1 } } := (if_neg h).trans (if_neg hcount)

theorem State.miss_of_second {s : State} (h : s.bridge.state ≠ .off) (hcount : s.bridge.missCount = 1) (df : Bool) :
    s.miss df = State.trip .silent df { s with bridge := { s.bridge with missCount := 0 } } := (if_neg h).trans (if_pos hcount)

/-- A command that misses and then closes with `close`, which leaves no CLAIM called for. -/
theorem missed_of_closed {u : State} {close : State → State} (df : Bool) {o : Host.Outcome State Fault Refusal}
    (ho : o = .next (close (u.miss df)).flushClaim) (hflushed : u.claimsFlushed)
    (hclose : ∀ x : State, x.claimsFlushed → (close x).claimsFlushed) :
    (u.bridge.state = .off → o = .next (close u))
      ∧ (u.bridge.state ≠ .off → u.bridge.missCount ≠ 1 → o = .next (close { u with bridge := { u.bridge with missCount := 1 } }))
      ∧ (u.bridge.state ≠ .off → u.bridge.missCount = 1 →
        o = .next (close ((State.trip .silent df { u with bridge := { u.bridge with missCount := 0 } }))).flushClaim) := by
  subst ho
  refine ⟨fun hoff => ?_, fun hon hcount => ?_, fun hon hcount => ?_⟩
  · rw [State.miss_of_off hoff, State.flushClaim_of_claimsFlushed (hclose u hflushed)]
  · rw [State.miss_of_first hon hcount]
    exact congrArg Host.Outcome.next (State.flushClaim_of_claimsFlushed (hclose _ hflushed))
  · rw [State.miss_of_second hon hcount]

/-! ### The waiting MARK (R107) -/

theorem any_isMark_false {ms : List LaneMsg} (h : ∀ m ∈ ms, m.isMark = false) : ms.filter (fun m => !m.isMark) = ms :=
  List.filter_eq_self.mpr fun m hm => by simp [h m hm]

theorem Bridge.waitingMark_of_none {b : Bridge} (h : ∀ m ∈ b.buffer, m.isMark = false) : b.waitingMark = none := by
  refine List.findSome?_eq_none_iff.mpr fun m hm => ?_
  cases m with
  | mark l => exact absurd (h _ hm) nofun
  | setpoint sp => rfl
  | off => rfl

theorem Bridge.waitingMark_of_first {b : Bridge} {pre post : List LaneMsg} {old : SlotLog} (hb : b.buffer = pre ++ .mark old :: post)
    (h : ∀ m ∈ pre, m.isMark = false) : b.waitingMark = some old := by
  have hnone : Bridge.waitingMark { b with buffer := pre } = none := Bridge.waitingMark_of_none h
  unfold Bridge.waitingMark at hnone ⊢
  rw [hb, List.findSome?_append, hnone]
  rfl

theorem Bridge.placeMark_of_none {b : Bridge} (log : SlotLog) (h : ∀ m ∈ b.buffer, m.isMark = false) :
    b.placeMark log = { b with buffer := b.buffer ++ [.mark log] } := by
  unfold Bridge.placeMark
  rw [any_isMark_false h]

theorem Bridge.placeMark_of_waiting {b : Bridge} (log : SlotLog) {pre post : List LaneMsg} {old : SlotLog}
    (hb : b.buffer = pre ++ .mark old :: post) (h : ∀ m ∈ pre ++ post, m.isMark = false) :
    b.placeMark log = { b with buffer := pre ++ post ++ [.mark log] } := by
  unfold Bridge.placeMark
  have hfilter : (pre ++ .mark old :: post).filter (fun m => !m.isMark) = (pre ++ post).filter fun m => !m.isMark := by
    simp [LaneMsg.isMark]
  rw [hb, hfilter, any_isMark_false h]

/-! ### The windows, the END of a MARK, and the slot that ended -/

/-- Settles O44: the three windows' misses, and the MARK or the report of the slot that ended. -/
theorem missesAreCounted : Obligations.MissesAreCounted := by
  refine ⟨?windows, ?slot⟩
  case windows =>
    intro s t df hrun hflushed missed silent
    have hstill : State.flushClaim { s with now := s.at t } = { s with now := s.at t } := State.flushClaim_of_claimsFlushed hflushed
    refine ⟨fun w hw => ⟨fun hearly => ?takeEarly, fun hdue => ?take⟩, fun e due he hwindow => ⟨fun hearly => ?readEarly, fun hdue => ?read⟩,
      fun l hl => ?mark⟩
    case takeEarly =>
      refine congrArg Host.Outcome.next ((State.unlessHeld_of_running hrun _).trans ?_)
      have hkept : (s.advance t).takeRunOut (s.at t) df = s.advance t := by
        have htake : (s.advance t).bridge.take = some w := hw
        unfold State.takeRunOut
        rw [htake]
        exact if_neg (Nat.not_le.mpr hearly)
      exact (congrArg State.flushClaim hkept).trans hstill
    case take =>
      refine missed_of_closed (close := id) df ?_ hflushed fun _ h => h
      refine congrArg Host.Outcome.next ((State.unlessHeld_of_running hrun _).trans (congrArg State.flushClaim ?_))
      have htake : (s.advance t).bridge.take = some w := hw
      unfold State.takeRunOut
      rw [htake]
      exact if_pos hdue
    case readEarly =>
      refine congrArg Host.Outcome.next ((State.unlessHeld_of_running hrun _).trans ?_)
      have hkept : (s.advance t).readingRunOut (s.at t) df = s.advance t := by
        have hexpect : (s.advance t).bridge.expect = some e := he
        unfold State.readingRunOut
        rw [hexpect]
        dsimp only
        rw [hwindow]
        exact if_neg (Nat.not_le.mpr hearly)
      exact (congrArg State.flushClaim hkept).trans hstill
    case read =>
      intro counted
      refine missed_of_closed (close := id) df ?_ hflushed fun _ h => h
      refine congrArg Host.Outcome.next ((State.unlessHeld_of_running hrun _).trans (congrArg State.flushClaim ?_))
      have hexpect : (s.advance t).bridge.expect = some e := he
      unfold State.readingRunOut
      rw [hexpect]
      dsimp only
      rw [hwindow]
      exact if_pos hdue
    case mark =>
      intro ended expects
      have hsending : (s.advance t).bridge.sending = some (.mark l) := hl
      have hexec : exec (.markSent t df) s = .next
          (expects (((s.advance t).updateBridge (Bridge.endMessage (s.at t))).endExpectation df)).flushClaim := by
        refine congrArg Host.Outcome.next ((State.unlessHeld_of_running hrun _).trans (congrArg State.flushClaim ?_))
        unfold State.sentMark
        rw [hsending]
        rfl
      refine ⟨fun hnone => ?_, fun e due he hwindow => ?_⟩
      · have hended : ((s.advance t).updateBridge (Bridge.endMessage (s.at t))).endExpectation df
            = { s with now := s.at t, bridge := ended } := by
          unfold State.endExpectation
          split
          next e he =>
            dsimp only
            rw [hnone e he]
            rfl
          next he => 
            have hexpect : s.bridge.expect = none := he
            simp only [State.updateBridge, Bridge.endMessage, ended]
            rw [← hexpect]
            rfl
        rw [hexec, hended]
        exact congrArg Host.Outcome.next (State.flushClaim_of_claimsFlushed hflushed)
      · refine missed_of_closed (close := expects) df (hexec.trans ?_) hflushed fun _ h => h
        refine congrArg Host.Outcome.next (congrArg (fun x => (expects x).flushClaim) ?_)
        have hexpect : ((s.advance t).updateBridge (Bridge.endMessage (s.at t))).bridge.expect = some e := he
        unfold State.endExpectation
        rw [hexpect]
        dsimp only
        rw [hwindow]
        rfl
  case slot =>
    intro s log df b report off
    have hoffReport : s.handReport (offReport b log) = { s with dose := report off } := rfl
    refine ⟨fun h => ?none, fun l hl => ?some⟩
    case none =>
      unfold State.endSlotLog
      cases log with
      | none => exact hoffReport
      | some l => exact (if_pos (.inl (h.resolve_right nofun))).trans hoffReport
    case some =>
      subst hl
      intro mark
      refine ⟨fun hfrom => (if_pos (.inr hfrom)).trans hoffReport, fun hon hfrom => ?marks⟩
      have hmarks : s.endSlotLog (some l) df = s.markSlot { l with slot := b.ended, serial := b.endedSerial, duration := b.duration } df :=
        if_neg fun h => h.elim hon (by rw [hfrom]; exact Bool.false_ne_true)
      refine ⟨fun hnone => ?fresh, fun pre old post hb hothers => ?replaces⟩
      case fresh =>
        rw [hmarks]
        unfold State.markSlot
        rw [Bridge.waitingMark_of_none hnone]
        dsimp only
        rw [State.updateBridge, Bridge.placeMark_of_none _ hnone]
        rfl
      case replaces =>
        intro replaced
        have hwaits : s.bridge.waitingMark = some old :=
          Bridge.waitingMark_of_first hb fun m hm => hothers m (List.mem_append_left post hm)
        have htaken : s.endSlotLog (some l) df = replaced.miss df := by
          rw [hmarks]
          unfold State.markSlot
          rw [hwaits]
          dsimp only
          rw [State.updateBridge, Bridge.placeMark_of_waiting _ hb hothers]
          rfl
        rw [htaken]
        split
        next hcount => exact State.miss_of_second (s := replaced) hon hcount df
        next hcount => exact State.miss_of_first (s := replaced) hon hcount df

end Sys2Proof.Machine
end

section
/-! PROOFS. The bridge link's boundary: the deadline, the end of a trip rest and the trip window (R110, R112, R117, R119, R120). -/

namespace Sys2Proof.Machine

open Sys2Proof

/-! ### A report leaves the marks of the open records -/

/-- Every open record carries the flag. -/
def Dose.allHave (f : ZoneFlag) (d : Dose) : Prop := ∀ r ∈ d.records, r.has f = true

theorem Dose.allHave.map {f : ZoneFlag} {d : Dose} {g : OpenRecord → OpenRecord} (hd : d.allHave f)
    (hg : ∀ r, r.has f = true → (g r).has f = true) {e : Dose} (he : e.records = d.records.map g) : e.allHave f := by
  intro r hr
  rw [he] at hr
  obtain ⟨x, hx, rfl⟩ := List.mem_map.mp hr
  exact hg x (hd x hx)

theorem OpenRecord.has_setIf_of_has (b : Bool) (f g : ZoneFlag) {r : OpenRecord} (h : r.has f = true) :
    (r.setIf b g).has f = true := by
  unfold OpenRecord.setIf
  split
  next => exact OpenRecord.has_set_of_has f g h
  next => exact h

theorem Dose.closeSpan_allHave (threshold : Nat) {f : ZoneFlag} {d : Dose} (hd : d.allHave f) : (d.closeSpan threshold).allHave f := by
  unfold Dose.closeSpan
  split
  next p _ =>
    split
    next => exact hd.map (g := OpenRecord.shiftVerdict threshold p.out) (fun r h => OpenRecord.has_setIf_of_has _ f .deviation h) rfl
    next => exact hd
  next => exact hd

theorem Dose.spanStep_allHave (threshold : Nat) (x : SlotRecord) (commanded measured : Nat) {f : ZoneFlag} {d : Dose}
    (hd : d.allHave f) : (d.spanStep threshold x commanded measured).allHave f := by
  unfold Dose.spanStep
  split
  next =>
    have hclosed := Dose.closeSpan_allHave threshold hd
    unfold Dose.openSpan
    split
    next => exact hclosed
    next => exact hclosed
  next => exact hd

theorem Dose.credit_allHave (tag : Nat) (forward : Bool) (charge : Nat) {f : ZoneFlag} {d : Dose} (hd : d.allHave f) :
    (d.credit tag forward charge).allHave f := by
  refine hd.map (fun r h => ?_) rfl
  split
  next => cases forward <;> exact h
  next => exact h

theorem Dose.apportion_allHave (slot serial : Nat) (forward : Bool) (charge : Nat) {f : ZoneFlag} {d : Dose} (hd : d.allHave f) :
    (d.apportion slot serial forward charge).allHave f := by
  unfold Dose.apportion
  split
  next snap _ =>
    unfold Dose.divide
    split
    next => exact hd
    next oldest rest _ =>
      exact Dose.credit_allHave _ _ _ (foldl_induct (p := Dose.allHave f) (fun _ x h => Dose.credit_allHave x.tag forward _ h) _ d hd)
  next => exact hd

theorem Dose.takeReport_allHave (threshold limit : Nat) (r : SlotReport) {f : ZoneFlag} {d : Dose} (hd : d.allHave f) :
    (d.takeReport threshold limit r).allHave f := by
  have hread (u : Dose) (hu : u.allHave f) : (u.takeReading limit r).allHave f :=
    Dose.apportion_allHave r.slot r.serial r.forward r.measured
      (d := { u with measF := u.measF + r.measF, measR := u.measR + r.measR, anodeHigh := u.anodeHigh || r.anodeHigh limit }) hu
  have hunplated (u : Dose) (hu : u.allHave f) : (u.unplate r.slot r.serial).allHave f := by
    unfold Dose.unplate
    split
    next =>
      refine hu.map (fun x h => ?_) rfl
      split
      next => exact OpenRecord.has_set_of_has f .unplated h
      next => exact h
    next => exact hu
  have htaken := hread _ (Dose.spanStep_allHave threshold (d.recordFor r.slot r.serial) r.cmdF r.measF
    (d := { d with cmdF := d.cmdF + r.cmdF, cmdR := d.cmdR + r.cmdR }) hd)
  unfold Dose.takeReport
  dsimp only
  split
  next => exact hunplated _ htaken
  next => exact htaken

/-! ### The end of a slot with no MARK waiting (R109) -/

/-- With no MARK in the buffer the slot that ends is reported, or its MARK is placed, and no miss is counted. -/
theorem State.endSlotLog_of_unmarked {s : State} (log : Option SlotLog) (df : Bool) (h : ∀ m ∈ s.bridge.buffer, m.isMark = false) :
    (∃ r, s.endSlotLog log df = s.handReport r) ∨ ∃ l, s.endSlotLog log df = s.updateBridge (Bridge.placeMark l) := by
  unfold State.endSlotLog
  dsimp only
  split
  next l =>
    split
    next => exact .inl ⟨_, rfl⟩
    next =>
      refine .inr ⟨{ l with slot := s.boundary.ended, serial := s.boundary.endedSerial, duration := s.boundary.duration }, ?_⟩
      unfold State.markSlot
      rw [Bridge.waitingMark_of_none h]
  next => exact .inl ⟨_, rfl⟩

/-- What the end of a slot without a waiting MARK leaves: the bridge but for its buffer, the engine and the records' marks. -/
theorem State.endSlotLog_unmarked_kept {s : State} (log : Option SlotLog) (df : Bool) (h : ∀ m ∈ s.bridge.buffer, m.isMark = false) :
    (∃ ms, (s.endSlotLog log df).bridge = { s.bridge with buffer := ms }) ∧ (s.endSlotLog log df).engine = s.engine
      ∧ (s.endSlotLog log df).station = s.station ∧ ∀ f, s.dose.allHave f → (s.endSlotLog log df).dose.allHave f := by
  rcases State.endSlotLog_of_unmarked log df h with ⟨r, hr⟩ | ⟨l, hl⟩
  · rw [hr]
    exact ⟨⟨_, rfl⟩, rfl, rfl, fun f hf => Dose.takeReport_allHave _ _ r hf⟩
  · rw [hl]
    exact ⟨⟨_, rfl⟩, rfl, rfl, fun _ hf => hf⟩

/-! ### The taking of a boundary by the bridge link -/

/-- With the hand-over of the tracker taken, the bridge link's row is its boundary (log 3). -/
theorem exec_bridgeSlotRow {s : State} {due : State → Bool} {df : Bool} (hrun : s.running) (ho : Task.bridgeSlot ∈ s.boundary.owed)
    (htracker : Task.tracker ∉ s.boundary.owed) (hdue : due (s.choose df) = true) :
    (s.unlessHeld (State.choose df)).ownTaking .bridgeSlot due
      = (State.bridgeSlot ((s.choose df).setBoundary ((s.choose df).boundary.paid .bridgeSlot))).flushClaim := by
  have hchosen : s.unlessHeld (State.choose df) = s.choose df := State.unlessHeld_of_running hrun _
  have hmet : ∀ x ∈ taskNeeds .bridgeSlot, x ∉ (s.choose df).boundary.owed := by
    intro x hx
    obtain rfl := List.mem_singleton.mp hx
    exact htracker
  rw [hchosen, State.ownTaking_of_due (s := s.choose df) hrun ho hdue]
  exact State.takeTask_of_met ho hmet

/-- The boundary after the rest and the deadline have been judged. -/
theorem State.bridgeSlot_of_judged {s u : State} (h : s.tickRest.deadline s.boundary.df = u) :
    s.bridgeSlot = (u.updateBridge (Bridge.beginLog u.boundary.begun)).endSlotLog u.bridge.log s.boundary.df := by
  subst h
  rfl

theorem State.tickRest_of_untripped {s : State} (h : s.bridge.state ≠ .tripped) : s.tickRest = s := if_neg h

theorem State.swapPrepared_tripRest (s : State) : s.swapPrepared.engine.tripRest = s.engine.tripRest := by
  unfold State.swapPrepared
  split
  next => simp
  next => rfl

/-- Both ways out of a trip rest leave the rest as they find it (R104). -/
theorem State.leaveRest_tripRest {s : State} (h : s.engine.tripRest = false) (swap : Bool) :
    (if swap then s.swapPrepared
      else if s.engine.lastDominant = s.engine.preTrip then s.buildActive s.engine.lastDominant
      else (s.buildActive s.engine.lastDominant).markLate s.engine.lastDominant).engine.tripRest = false := by
  split
  next => exact (State.swapPrepared_tripRest s).trans h
  next => split <;> simp [State.buildActive_engine, h]

theorem Bridge.placeSetpoint_unmarked (sp : Setpoint) {b : Bridge} (h : ∀ m ∈ b.buffer, m.isMark = false) :
    ∀ m ∈ (b.placeSetpoint sp).buffer, m.isMark = false := by
  unfold Bridge.placeSetpoint
  split
  next => exact h
  next =>
    split
    next =>
      intro m hm
      obtain ⟨x, hx, rfl⟩ := List.mem_map.mp hm
      split
      next => rfl
      next => exact h x hx
    next =>
      intro m hm
      rcases List.mem_append.mp hm with hm | hm
      · exact h m hm
      · obtain rfl := List.mem_singleton.mp hm
        rfl

theorem State.engineRestEnd_engine {s : State} (h : s.engine.tripRest = true) :
    s.engineRestEnd.engine.tripRest = false ∧ s.engineRestEnd.engine.committedInRest = false := by
  unfold State.engineRestEnd
  rw [if_pos h]
  dsimp only
  rw [State.settle_engine]
  refine ⟨?_, rfl⟩
  exact State.leaveRest_tripRest rfl _

/-- Settles O49: the deadline's trip, the 64th boundary of a rest, and the sixteenth frame boundary of the trip window. -/
theorem deadlineRestEndAndTripWindow : Obligations.DeadlineRestEndAndTripWindow := by
  intro s df hrun hflushed
  have hplain (h : ∀ m ∈ s.bridge.buffer, ∀ l, m ≠ .mark l) : ∀ m ∈ s.bridge.buffer, m.isMark = false := by
    intro m hm
    cases m with
    | mark l => exact absurd rfl (h _ hm l)
    | setpoint sp => rfl
    | off => rfl
  refine ⟨fun ho htracker hmarks => have hmarkless := hplain hmarks
    ⟨fun hstate hout hcount hrest => ?deadline, fun hstate hcount hout hrest => ?restEnd⟩,
    fun ho hcount hwindow => ?window⟩
  case deadline =>
    have hdue : State.deadlineDue (s.choose df) = true := by
      show (s.bridge.awaited == some .runOut) = true
      rw [hout]
      rfl
    refine ⟨_, congrArg Host.Outcome.next (exec_bridgeSlotRow hrun ho htracker hdue), ?_⟩
    generalize hx : (s.choose df).setBoundary ((s.choose df).boundary.paid .bridgeSlot) = x
    have hkept : x.bridge = s.bridge ∧ x.engine = s.engine ∧ x.station = s.station ∧ x.boundary.df = df := by
      rw [← hx]
      exact ⟨rfl, rfl, rfl, rfl⟩
    obtain ⟨hxbridge, hxengine, hxstation, hxdf⟩ := hkept
    have hon : x.bridge.state ≠ .off := by rw [hxbridge, hstate]; nofun
    have huntripped : x.bridge.state ≠ .tripped := by rw [hxbridge, hstate]; nofun
    obtain ⟨_, hfirst, _⟩ := tripRestsTheBridgeAndTheSecondLocksOut x .noConfirm df hon
    obtain ⟨hybridge, hydose, hyrest, _, hysetpoint, _, _, hystation, _⟩ :=
      hfirst huntripped (by rw [hxbridge, hcount]) (by rw [hxengine, hrest])
    have hrecords : (x.trip .noConfirm df).dose.allHave .tripped := by
      rw [hydose, ← OpenRecord.set_tripped]
      exact State.flagAll_has .tripped x
    have hslot : x.bridgeSlot
        = ((x.trip .noConfirm df).updateBridge (Bridge.beginLog (x.trip .noConfirm df).boundary.begun)).endSlotLog
            (x.trip .noConfirm df).bridge.log df := by
      have hdeadline : x.tickRest.deadline x.boundary.df = x.trip .noConfirm df := by
        rw [State.tickRest_of_untripped huntripped, hxdf]
        exact if_pos (by rw [hxbridge, hout])
      rw [State.bridgeSlot_of_judged hdeadline, hxdf]
    have hunmarked : ∀ m ∈ (x.trip .noConfirm df).bridge.buffer, m.isMark = false := by
      rw [hybridge, hxbridge]
      exact Bridge.placeSetpoint_unmarked _ hmarkless
    generalize x.trip .noConfirm df = y at hybridge hyrest hysetpoint hystation hrecords hslot hunmarked
    obtain ⟨⟨ms, hbridge⟩, hengine, hstation, hdose⟩ :=
      State.endSlotLog_unmarked_kept (s := y.updateBridge (Bridge.beginLog y.boundary.begun)) y.bridge.log df hunmarked
    have hleaves : x.pending = s.pending ∧ x.clock = s.clock ∧ x.tracker = s.tracker := by
      rw [← hx]
      exact ⟨rfl, rfl, rfl⟩
    rw [← hslot] at hbridge hengine hstation hdose
    simp only [State.flushClaim_leaves, hbridge, hengine, hstation]
    simp only [State.updateBridge, State.setBridge_bridge, State.setBridge_engine, State.setBridge_station, Bridge.beginLog, hybridge,
      hyrest, hysetpoint, hystation, hxbridge, hxstation]
    simp only [hstate, or_true, if_true, true_and]
    exact ⟨hdose .tripped hrecords, by simp [hleaves]⟩
  case restEnd =>
    have hdue : State.restDue (s.choose df) = true := by
      show (s.bridge.state == .tripped && s.bridge.restCount == 63) = true
      rw [hstate, hcount]
      rfl
    refine ⟨_, congrArg Host.Outcome.next (exec_bridgeSlotRow hrun ho htracker hdue), ?_⟩
    generalize hx : (s.choose df).setBoundary ((s.choose df).boundary.paid .bridgeSlot) = x
    have hkept : x.bridge = s.bridge ∧ x.engine = s.engine ∧ x.station = s.station := by
      rw [← hx]
      exact ⟨rfl, rfl, rfl⟩
    obtain ⟨hxbridge, hxengine, hxstation⟩ := hkept
    generalize hy : (x.updateBridge fun b => { b with state := .rest, restCount := 64 }).engineRestEnd = y
    have hybridge : y.bridge = { s.bridge with state := .rest, restCount := 64 } := by
      rw [← hy, ← hxbridge]
      simp [State.updateBridge]
    have hystation : y.station = s.station := by
      rw [← hy]
      simp [hxstation]
    obtain ⟨hyrest, hycommitted⟩ : y.engine.tripRest = false ∧ y.engine.committedInRest = false := by
      rw [← hy]
      exact State.engineRestEnd_engine (by simp [hxengine, hrest])
    have hslot : x.bridgeSlot
        = (y.updateBridge (Bridge.beginLog y.boundary.begun)).endSlotLog y.bridge.log x.boundary.df := by
      have hticked : x.tickRest = y := by
        unfold State.tickRest
        rw [if_pos (by rw [hxbridge, hstate]), if_pos (by rw [hxbridge, hcount]), hy]
      have hdeadline : y.deadline x.boundary.df = y := if_neg (by rw [hybridge]; exact hout)
      exact State.bridgeSlot_of_judged (by rw [hticked, hdeadline])
    have hunmarked : ∀ m ∈ y.bridge.buffer, m.isMark = false := by
      rw [hybridge]
      exact hmarkless
    obtain ⟨⟨ms, hbridge⟩, hengine, hstation, _⟩ :=
      State.endSlotLog_unmarked_kept (s := y.updateBridge (Bridge.beginLog y.boundary.begun)) y.bridge.log x.boundary.df hunmarked
    have hleaves : x.pending = s.pending ∧ x.clock = s.clock ∧ x.tracker = s.tracker := by
      rw [← hx]
      exact ⟨rfl, rfl, rfl⟩
    rw [← hslot] at hbridge hengine hstation
    simp only [State.flushClaim_leaves, hbridge, hengine, hstation]
    simp only [State.updateBridge, State.setBridge_bridge, State.setBridge_engine, State.setBridge_station, Bridge.beginLog, hybridge,
      hyrest, hycommitted, hystation]
    simp [hleaves]
  case window =>
    intro left judged
    have hdue : s.tripWindowDue = true := by simp [State.tripWindowDue, hcount, hwindow]
    refine congrArg Host.Outcome.next ((State.ownTaking_of_due hrun ho hdue).trans ((State.takeTask_of_owed ho rfl).trans ?_))
    have hticked : (s.setBoundary (s.boundary.paid .bridgeFrame)).updateBridge Bridge.tickWindow = left := by
      have hbridge : s.bridge.tickWindow = { s.bridge with tripCount := 0, tripWindow := 16 } := by
        unfold Bridge.tickWindow
        rw [if_pos hcount, if_pos (by omega)]
      show (s.setBoundary (s.boundary.paid .bridgeFrame)).setBridge s.bridge.tickWindow = left
      rw [hbridge]
      rfl
    have hjudged : runTask .bridgeFrame (s.setBoundary (s.boundary.paid .bridgeFrame))
        = { judged with bridge := { left.bridge with slowSeen := false } } := by
      have hbridge : judged.bridge = left.bridge := by simp [judged]
      rw [← hbridge]
      simp only [judged, ← hticked]
      rfl
    rw [hjudged]
    refine State.flushClaim_of_claimsFlushed ?_
    have hmap : judged.map = s.map := by simp [judged, left]
    show judged.map.calls = false
    rw [hmap]
    exact hflushed

end Sys2Proof.Machine
end

section
/-! PROOFS. The self-test's verdict and the ninth frame boundary of the join count (R163, R168, R169). -/

namespace Sys2Proof.Machine

open Sys2Proof

/-! ### What every submission leaves of the receiver -/

/-- The loop is off and the receiver hunts. -/
def Bus.opened (b : Bus) : Prop := b.loop = false ∧ b.rx = .hunting

theorem Bus.pick_receiver (b : Bus) : b.pick.loop = b.loop ∧ b.pick.rx = b.rx := by
  unfold Bus.pick
  split
  next =>
    split
    next => exact ⟨rfl, rfl⟩
    next => split <;> exact ⟨rfl, rfl⟩
  next => exact ⟨rfl, rfl⟩

theorem Bus.enqueueNormal_receiver (f : TxFrame) (b : Bus) :
    (b.enqueueNormal f).1.loop = b.loop ∧ (b.enqueueNormal f).1.rx = b.rx := by
  unfold Bus.enqueueNormal
  split <;> exact ⟨rfl, rfl⟩

theorem Bus.enqueueUrgent_receiver (f : TxFrame) (b : Bus) :
    (b.enqueueUrgent f).1.loop = b.loop ∧ (b.enqueueUrgent f).1.rx = b.rx := by
  unfold Bus.enqueueUrgent
  split <;> exact ⟨rfl, rfl⟩

theorem Bus.enqueueClaim_receiver (c : ClaimBody) (b : Bus) :
    (b.enqueueClaim c).1.loop = b.loop ∧ (b.enqueueClaim c).1.rx = b.rx := by
  have hurgent := Bus.enqueueUrgent_receiver (freshFrame (.claim c) .all) b
  unfold Bus.enqueueClaim
  split
  next =>
    split
    next => split <;> exact ⟨rfl, rfl⟩
    next =>
      split
      next => exact ⟨rfl, rfl⟩
      next => exact hurgent
  next =>
    split
    next => exact ⟨rfl, rfl⟩
    next => exact hurgent

theorem Bus.opened_keptBySubmissions : KeptBySubmissions Bus.opened := by
  intro st body dest b h
  have hqueued : (b.enqueue body dest).1.loop = b.loop ∧ (b.enqueue body dest).1.rx = b.rx := by
    cases body with
    | claim c => exact Bus.enqueueClaim_receiver c b
    | handover rec => exact Bus.enqueueUrgent_receiver _ b
    | carrierQuery zone ids => exact Bus.enqueueNormal_receiver _ b
    | recipe r => exact Bus.enqueueNormal_receiver _ b
    | recipeQuery key zone => exact Bus.enqueueNormal_receiver _ b
    | condition p => exact Bus.enqueueNormal_receiver _ b
    | test n => exact Bus.enqueueNormal_receiver _ b
  unfold Bus.submit
  split
  next =>
    obtain ⟨hloop, hrx⟩ := Bus.pick_receiver (b.enqueue body dest).1
    exact ⟨(hloop.trans hqueued.1).trans h.1, (hrx.trans hqueued.2).trans h.2⟩
  next => exact h

theorem KeptBySubmissions.flushClaim {p : Bus → Prop} (k : KeptBySubmissions p) {s : State} (hs : p s.bus) : p s.flushClaim.bus := by
  unfold State.flushClaim
  split
  next =>
    unfold State.submitClaim
    split
    next =>
      rw [State.sendClaim_eq]
      exact k _ _ _ _ hs
    next => exact hs
  next => exact hs

/-! ### The context at an entry to LISTENING (R87, R88) -/

theorem State.decideMode_mode (c : Context) (s : State) : (s.decideMode c).mode = .normal ∨ (s.decideMode c).mode = .forwardOnly := by
  unfold State.decideMode
  split
  next => exact .inl rfl
  next =>
    split
    next => exact .inl rfl
    next => exact .inr rfl

theorem State.contextFor_mode {s : State} (h : s.station.state.setpoints = true) (carrier : Option Nat) :
    (s.contextFor carrier).mode ≠ .off := by
  unfold State.contextFor
  rw [if_pos h]
  split
  next => nofun
  next =>
    split
    next tag _ r _ =>
      unfold State.recipeContext
      rcases State.decideMode_mode { Context.bare .normal (some tag) with
        key := some r.key, cycle := r.cycle, segments := r.segments, pattern := r.pattern, needsClaim := r.pattern.isSome } s with h | h
      all_goals
        rw [h]
        nofun
    next => nofun

theorem State.buildActive_mode {s : State} (h : s.station.state.setpoints = true) (carrier : Option Nat) :
    (s.buildActive carrier).engine.active.mode ≠ .off := by
  rw [State.buildActive_engine]
  dsimp only
  split
  next => nofun
  next => exact State.contextFor_mode h carrier

/-! ### The self-test passed (R168) -/

theorem Bridge.leaveOff_of_empty {b : Bridge} (hoff : b.state = .off) (hempty : b.buffer = []) :
    b.leaveOff = { b with leaving := .placed, buffer := [.setpoint ⟨.rest, 0⟩] } := by
  unfold Bridge.leaveOff
  rw [if_pos hoff, hempty]
  show ({ b.placeSetpoint Setpoint.atRest with leaving := .placed } : Bridge) = _
  rw [Bridge.placeSetpoint_of_none Setpoint.atRest (by simp [hempty]) (by simp [hempty]), hempty]
  rfl

theorem Monitor.faultnLevel_of_listening {m : Monitor} (htold : m.told = .listening) (hreached : m.listeningReached = true) :
    m.faultnLevel = m.isDeclared .referenceLost := by
  simp [Monitor.faultnLevel, htold, hreached]

theorem State.tellMonitor_listening (st : StationState) (s : State) :
    (s.tellMonitor st).mon.listeningReached = (s.mon.listeningReached || st == .listening) := by
  unfold State.tellMonitor
  rw [State.offer_listeningReached]
  rfl

/-- Entry to LISTENING from SELF-TEST up to the monitor, which is told last. -/
def State.listened (s : State) : State :=
  let s := (s.setStanding .listening s.station.freshJoin).clearAligned.enliven
  let s := s.setBus (s.bus.leaveLoop s.now)
  (s.setBridge s.bridge.leaveOff).engineListen

theorem State.passSelfTest_eq (s : State) : s.passSelfTest = s.listened.tellMonitor .listening := rfl

theorem State.listened_spec (s : State) :
    s.listened.station = { s.station with state := .listening, joinCount := s.station.freshJoin } ∧ s.listened.bus.opened
      ∧ s.listened.clock = { s.clock with aligned := false, tracker := [] } ∧ s.listened.map.live = true
      ∧ s.listened.bridge = s.bridge.leaveOff ∧ s.listened.engine.active.mode ≠ .off := by
  unfold State.listened
  dsimp only
  generalize hx : (State.setBridge _ _ : State) = x
  have hparts : x.station = { s.station with state := .listening, joinCount := s.station.freshJoin } ∧ x.bus.opened
      ∧ x.clock = { s.clock with aligned := false, tracker := [] } ∧ x.map.live = true ∧ x.bridge = s.bridge.leaveOff := by
    rw [← hx]
    exact ⟨rfl, ⟨rfl, rfl⟩, rfl, rfl, rfl⟩
  obtain ⟨hstation, hbus, hclock, hlive, hbridge⟩ := hparts
  refine ⟨by simp [hstation], ?_, by simp [hclock], ?_, by simp [hbridge], ?_⟩
  · exact Bus.opened_keptBySubmissions.settle (s := x.buildActive _) (by simpa using hbus)
  · simp [State.engineListen, hlive]
  · unfold State.engineListen
    rw [State.settle_engine_active]
    exact State.buildActive_mode (by rw [hstation]; rfl) _

/-! ### The self-test failed (R168) -/

theorem State.isolateBlocks_bridge {s : State} (h : s.bridge.state = .off) : s.isolateBlocks.bridge = s.bridge := by
  have hwithdrawn : (((s.setStanding .isolated none).enliven).withdraw false).bridge = s.bridge := by
    refine (State.withdrawNotice_stops _).2.trans ?_
    have hkept : ((((s.setStanding .isolated none).enliven).setMap ((s.setStanding .isolated none).enliven).map.emptied).clearStarved.withdrawalClaim
        false).bridge = s.bridge := by simp [State.enliven, State.setStanding]
    rw [hkept, Bridge.takeSetpoint_of_refuses _ (.inl h), ite_self]
  unfold State.isolateBlocks
  simp [hwithdrawn]

/-! ### The rows of the station controller -/

theorem State.stationFrame_of_selfTest {s : State} (h : s.station.state = .selfTest) : s.stationFrame = s.selfTestFrame := by
  unfold State.stationFrame
  rw [h]

theorem State.stationFrame_of_listening {s : State} (h : s.station.state = .listening) : s.stationFrame = s.joinFrame := by
  unfold State.stationFrame
  rw [h]

theorem Station.selfPass_iff (st : Station) : st.selfPass = true ↔ st.selfNext = 4 ∧ st.selfFault = false := by
  simp [Station.selfPass]

/-- The state at the second frame boundary of SELF-TEST, its own count risen. -/
def State.secondFrame (t : Instant) (s : State) : State :=
  { s with
    now := s.at t, station := { s.station with selfFrames := 2 }
    boundary := { s.boundary with owed := s.boundary.owed.filter fun x => x != .station } }

theorem exec_selfTestVerdict {s : State} (t : Instant) (hrun : s.running) (ho : Task.station ∈ s.boundary.owed)
    (hstate : s.station.state = .selfTest) (hframes : s.station.selfFrames = 1) :
    exec (.selfTestVerdict t) s
      = .next (if (s.secondFrame t).station.selfPass then (s.secondFrame t).passSelfTest else (s.secondFrame t).failSelfTest).flushClaim := by
  have hadvanced : s.unlessHeld (State.advance t) = s.advance t := State.unlessHeld_of_running hrun _
  have hdue : State.verdictDue (s.advance t) = true := by
    show (s.station.state == .selfTest && s.station.selfFrames == 1) = true
    rw [hstate, hframes]
    rfl
  refine congrArg Host.Outcome.next ?_
  rw [hadvanced, State.ownTaking_of_due (s := s.advance t) hrun ho hdue, State.takeTask_of_owed (s := s.advance t) ho rfl]
  generalize hx : (s.advance t).setBoundary ((s.advance t).boundary.paid .station) = x
  have hxstation : x.station = s.station := by
    rw [← hx]
    rfl
  have htaken : runTask .station x = x.selfTestFrame := State.stationFrame_of_selfTest (by rw [hxstation, hstate])
  have hrisen : x.setStation { x.station with selfFrames := x.station.selfFrames + 1 } = s.secondFrame t := by
    have hcount : x.station.selfFrames + 1 = 2 := by rw [hxstation, hframes]
    rw [hcount, hxstation, ← hx]
    rfl
  have htwo : (s.secondFrame t).station.selfFrames = 2 := rfl
  have hjudged : x.selfTestFrame
      = if (s.secondFrame t).station.selfPass then (s.secondFrame t).passSelfTest else (s.secondFrame t).failSelfTest := by
    unfold State.selfTestFrame
    rw [hrisen]
    exact if_pos htwo
  rw [htaken, hjudged]

/-- Settles O50: both verdicts of the self-test, and the entry to JOINED. -/
theorem selfTestVerdictAndJoinCount : Obligations.SelfTestVerdictAndJoinCount := by
  intro s t hrun hflushed ho
  refine ⟨fun hstate hframes hoff => ⟨fun hnext hfault hempty => ?passed, fun hfailed => ?failed⟩, fun hstate hcount => ?joined⟩
  case passed =>
    have hpass : (s.secondFrame t).station.selfPass = true := (Station.selfPass_iff _).mpr ⟨hnext, hfault⟩
    refine ⟨_, exec_selfTestVerdict t hrun ho hstate hframes, ?_⟩
    rw [if_pos hpass, State.passSelfTest_eq]
    obtain ⟨hstation, hbus, hclock, hlive, hbridge, hmode⟩ := (s.secondFrame t).listened_spec
    have htold := State.tellMonitor_told .listening (s.secondFrame t).listened
    have hreached : ((s.secondFrame t).listened.tellMonitor .listening).mon.listeningReached = true := by
      rw [State.tellMonitor_listening]
      exact Bool.or_true _
    have hformed := (State.tellMonitor_formed .listening (s.secondFrame t).listened).trans (Monitor.faultnLevel_of_listening htold hreached)
    obtain ⟨hloop, hrx⟩ := Bus.opened_keptBySubmissions.flushClaim (Bus.opened_keptBySubmissions.tellMonitor .listening hbus)
    have hleaves : (s.secondFrame t).listened.now = s.at t ∧ (s.secondFrame t).listened.pending = s.pending
        ∧ (s.secondFrame t).listened.tracker = s.tracker ∧ (s.secondFrame t).listened.dose = s.dose := by
      simp [State.listened, State.secondFrame, State.clearAligned, State.enliven, State.setStanding]
    obtain ⟨hnow, hpending, htracker, hdose⟩ := hleaves
    rw [Bridge.leaveOff_of_empty (b := (s.secondFrame t).bridge) hoff hempty] at hbridge
    refine ⟨?_, hloop, hrx, ?_, ?_, ?_, ?_, ?_, ?_, ?_, ?_, ?_, ?_, ?_⟩
    · simp only [State.flushClaim_leaves, State.tellMonitor_leaves, hstation]
      rfl
    · simpa [State.secondFrame] using hclock
    · simpa using hlive
    · simpa [State.secondFrame] using hbridge
    · simpa using hmode
    · simpa using htold
    · simpa using hreached
    · simpa using hformed
    · simpa using hnow
    · simpa using hpending
    · simpa using htracker
    · simpa using hdose
  case failed =>
    have hfail : ¬(s.secondFrame t).station.selfPass = true := by
      rw [Station.selfPass_iff]
      rintro ⟨hnext, hfault⟩
      rcases hfailed with h | h
      · exact h hnext
      · exact Bool.false_ne_true (hfault.symm.trans h)
    refine ⟨_, exec_selfTestVerdict t hrun ho hstate hframes, ?_⟩
    rw [if_neg hfail]
    generalize hx : (s.secondFrame t) = x
    have hkept : x.station = { s.station with selfFrames := 2 } ∧ x.bridge = s.bridge ∧ x.clock = s.clock ∧ x.now = s.at t
        ∧ x.pending = s.pending ∧ x.tracker = s.tracker ∧ x.dose = s.dose := by
      rw [← hx]
      exact ⟨rfl, rfl, rfl, rfl, rfl, rfl, rfl⟩
    obtain ⟨hstation, hbridge, hclock, hnow, hpending, htracker, hdose⟩ := hkept
    obtain ⟨_, _, hactive, hpend, _⟩ := x.isolateBlocks_spec
    have hisolated : x.isolateBlocks.station = { s.station with selfFrames := 2, state := .isolated, joinCount := none } := by
      simp [State.isolateBlocks, State.setStanding, State.enliven, hstation]
    have hbus : x.failSelfTest.bus = x.isolateBlocks.bus.leaveLoop x.isolateBlocks.now :=
      congrArg State.bus (State.tellMonitor_of_offBus rfl (x.isolateBlocks.setBus (x.isolateBlocks.bus.leaveLoop x.isolateBlocks.now)))
    obtain ⟨hloop, hrx⟩ := Bus.opened_keptBySubmissions.flushClaim (s := x.failSelfTest) (by rw [hbus]; exact ⟨rfl, rfl⟩)
    refine ⟨?_, hloop, hrx, ?_, ?_, ?_, ?_, ?_, ?_, ?_, ?_, ?_, ?_⟩
    · simp [State.failSelfTest, hisolated]
    · simp [State.failSelfTest, State.isolateBlocks_bridge (s := x) (by rw [hbridge, hoff]), hbridge]
    · simpa [State.failSelfTest] using hactive
    · simpa [State.failSelfTest] using hpend
    · simp [State.failSelfTest]
    · simp only [State.flushClaim_leaves]
      exact (State.tellMonitor_faultn _ _).trans (Monitor.faultnLevel_of_isolated rfl)
    · simpa using hclock
    · simpa using hnow
    · simpa using hpending
    · simpa using htracker
    · simpa using hdose
  case joined =>
    have hdue : s.joinDue = true := by simp [State.joinDue, hstate, hcount]
    refine ⟨_, congrArg Host.Outcome.next ((State.ownTaking_of_due hrun ho hdue).trans (State.takeTask_of_owed ho rfl)), ?_⟩
    have hentered : runTask .station (s.setBoundary (s.boundary.paid .station)) = (s.setBoundary (s.boundary.paid .station)).enterJoined := by
      refine (State.stationFrame_of_listening (s := s.setBoundary (s.boundary.paid .station)) hstate).trans ?_
      have hjoin : (s.setBoundary (s.boundary.paid .station)).station.joinCount = some 8 := hcount
      unfold State.joinFrame
      rw [hjoin]
      exact if_pos rfl
    rw [hentered]
    refine ⟨?_, ?_, ?_, by simp, by simp, by simp, by simp⟩
    · simp [State.enterJoined, State.setStanding]
    · simp [State.enterJoined, State.setStanding, State.setAligned]
    · simp [State.enterJoined]

end Sys2Proof.Machine
end

section
/-! PROOFS. Charges: their division among the carriers of a slot, the cycle span, and the reports (R127, R129, R130). -/

namespace Sys2Proof.Machine

open Sys2Proof

/-! ### A charge credited (R130) -/

/-- A record with a charge credited to it. -/
def OpenRecord.credited (forward : Bool) (n : Nat) (r : OpenRecord) : OpenRecord :=
  if forward then { r with forward := min (r.forward + n) 281474976710655 }
  else { r with reverse := min (r.reverse + n) 281474976710655 }

theorem OpenRecord.credited_tag (forward : Bool) (n : Nat) (r : OpenRecord) : (r.credited forward n).tag = r.tag := by
  cases forward <;> rfl

/-- Saturation twice is saturation of the sum. -/
theorem OpenRecord.credited_credited (forward : Bool) (n m : Nat) (r : OpenRecord) :
    (r.credited forward n).credited forward m = r.credited forward (n + m) := by
  have hsat (a : Nat) : min (min (a + n) 281474976710655 + m) 281474976710655 = min (a + (n + m)) 281474976710655 := by omega
  cases forward
  · simp only [OpenRecord.credited, Bool.false_eq_true, if_false, hsat]
  · simp only [OpenRecord.credited, if_true, hsat]

/-- The records with a charge credited to one carrier. -/
def creditTo (tag : Nat) (forward : Bool) (n : Nat) (rs : List OpenRecord) : List OpenRecord :=
  updateWhere (fun r => r.tag == tag) (OpenRecord.credited forward n) rs

theorem Dose.credit_eq (tag : Nat) (forward : Bool) (n : Nat) (d : Dose) :
    d.credit tag forward n = { d with records := creditTo tag forward n d.records } := rfl

/-- The records with each share of a snapshot credited. -/
def Snapshot.sharedOut (snap : Snapshot) (forward : Bool) (charge : Nat) (xs : List Share) (rs : List OpenRecord) : List OpenRecord :=
  xs.foldl (fun rs x => creditTo x.tag forward (snap.shareOf charge x.area) rs) rs

/-- The records among which a charge has been divided. -/
def Snapshot.divided (snap : Snapshot) (forward : Bool) (charge : Nat) (rs : List OpenRecord) : List OpenRecord :=
  match snap.shares with
  | [] => rs
  | oldest :: rest =>
    creditTo oldest.tag forward (charge - ((oldest :: rest).map fun x => snap.shareOf charge x.area).sum)
      (snap.sharedOut forward charge (oldest :: rest) rs)

theorem Dose.foldl_credit_eq (snap : Snapshot) (forward : Bool) (charge : Nat) (xs : List Share) (d : Dose) :
    xs.foldl (fun d x => d.credit x.tag forward (snap.shareOf charge x.area)) d
      = { d with records := snap.sharedOut forward charge xs d.records } := by
  induction xs generalizing d with
  | nil => rfl
  | cons x rest ih => exact ih _

theorem Dose.divide_eq (snap : Snapshot) (forward : Bool) (charge : Nat) (d : Dose) :
    d.divide snap forward charge = { d with records := snap.divided forward charge d.records } := by
  unfold Dose.divide Snapshot.divided
  cases snap.shares with
  | nil => rfl
  | cons oldest rest =>
    exact congrArg (fun e => Dose.credit oldest.tag forward (charge - ((oldest :: rest).map fun x => snap.shareOf charge x.area).sum) e)
      (Dose.foldl_credit_eq snap forward charge (oldest :: rest) d)

/-- The records as the snapshot of a slot divides a charge among them. -/
def dividedBy (snap : Option Snapshot) (forward : Bool) (charge : Nat) (rs : List OpenRecord) : List OpenRecord :=
  match snap with
  | some snap => snap.divided forward charge rs
  | none => rs

theorem Dose.apportion_eq (slot serial : Nat) (forward : Bool) (charge : Nat) (d : Dose) :
    d.apportion slot serial forward charge
      = { d with records := dividedBy (d.snapshotFor slot serial) forward charge d.records } := by
  unfold Dose.apportion dividedBy
  cases hsnap : d.snapshotFor slot serial with
  | none => rfl
  | some snap => exact Dose.divide_eq snap forward charge d

theorem Dose.snapshotFor_of_none {d : Dose} {slot : Nat} (serial : Nat) (h : ∀ x ∈ d.snapshots, x.slot ≠ slot) :
    d.snapshotFor slot serial = none := findSlot_eq_none h

/-! ### Each record takes its share (R130) -/

/-- With one share for each tag, a record takes its share, and a record of another carrier nothing. -/
theorem Snapshot.sharedOut_eq (snap : Snapshot) (forward : Bool) (charge : Nat) (xs : List Share) (rs : List OpenRecord)
    (hdistinct : (xs.map Share.tag).Nodup) :
    snap.sharedOut forward charge xs rs = rs.map fun r =>
      match xs.find? fun x => x.tag == r.tag with
      | some x => r.credited forward (snap.shareOf charge x.area)
      | none => r := by
  induction xs generalizing rs with
  | nil => exact (List.map_id' rs).symm
  | cons x rest ih =>
    obtain ⟨hfresh, hrest⟩ := List.nodup_cons.mp hdistinct
    refine (ih _ hrest).trans ?_
    unfold creditTo updateWhere
    rw [List.map_map]
    refine List.map_congr_left fun r _ => ?_
    by_cases htag : r.tag = x.tag
    · have hnone : rest.find? (fun y => y.tag == (r.credited forward (snap.shareOf charge x.area)).tag) = none := by
        refine List.find?_eq_none.mpr fun y hy hyx => hfresh ?_
        rw [OpenRecord.credited_tag, htag] at hyx
        exact List.mem_map.mpr ⟨y, hy, beq_iff_eq.mp hyx⟩
      have hself : (x :: rest).find? (fun y => y.tag == r.tag) = some x := List.find?_cons_of_pos (beq_iff_eq.mpr htag.symm)
      have htest : (r.tag == x.tag) = true := beq_iff_eq.mpr htag
      simp only [Function.comp_apply, htest, if_true, hnone, hself]
    · have hskip : (x :: rest).find? (fun y => y.tag == r.tag) = rest.find? fun y => y.tag == r.tag :=
        List.find?_cons_of_neg (by simpa using Ne.symm htag)
      have htest : (r.tag == x.tag) = false := beq_false_of_ne htag
      simp only [Function.comp_apply, htest, Bool.false_eq_true, if_false, hskip]

/-- The oldest takes the remainder besides its share (R130). -/
theorem Snapshot.divided_eq {snap : Snapshot} (forward : Bool) (charge : Nat) (rs : List OpenRecord) {oldest : Share}
    {rest : List Share} (hshares : snap.shares = oldest :: rest) (hdistinct : (snap.shares.map Share.tag).Nodup) :
    snap.divided forward charge rs = rs.map fun r =>
      match snap.shares.find? fun x => x.tag == r.tag with
      | some x => r.credited forward (charge * x.area / snap.total
          + (if x.tag = oldest.tag then charge - (snap.shares.map fun x => charge * x.area / snap.total).sum else 0))
      | none => r := by
  have hshared := snap.sharedOut_eq forward charge snap.shares rs hdistinct
  unfold Snapshot.divided
  rw [hshares] at hshared ⊢
  dsimp only
  rw [hshared]
  unfold creditTo updateWhere
  rw [List.map_map]
  refine List.map_congr_left fun r _ => ?_
  dsimp only [Function.comp_apply]
  cases hfind : (oldest :: rest).find? fun x => x.tag == r.tag with
  | none =>
    have hother : ¬(r.tag == oldest.tag) = true := by
      have h := List.find?_eq_none.mp hfind oldest List.mem_cons_self
      rw [beq_iff_eq] at h ⊢
      exact Ne.symm h
    exact if_neg hother
  | some x =>
    have htag : x.tag = r.tag := by simpa using List.find?_some hfind
    dsimp only
    have htest : ((r.credited forward (snap.shareOf charge x.area)).tag == oldest.tag) = true ↔ x.tag = oldest.tag := by
      rw [OpenRecord.credited_tag, ← htag, beq_iff_eq]
    by_cases holdest : x.tag = oldest.tag
    · refine (if_pos (htest.mpr holdest)).trans ?_
      rw [if_pos holdest, OpenRecord.credited_credited]
      rfl
    · refine (if_neg (mt htest.mp holdest)).trans ?_
      rw [if_neg holdest]
      rfl

/-! ### The shares are the whole charge (R130) -/

theorem div_add_div_le (a b n : Nat) : a / n + b / n ≤ (a + b) / n := by
  obtain rfl | hn := Nat.eq_zero_or_pos n
  · simp
  · rw [Nat.le_div_iff_mul_le hn, Nat.add_mul]
    exact Nat.add_le_add (Nat.div_mul_le_self a n) (Nat.div_mul_le_self b n)

theorem sum_map_add_share (f g : Share → Nat) (xs : List Share) :
    (xs.map fun x => f x + g x).sum = (xs.map f).sum + (xs.map g).sum := by
  induction xs with
  | nil => rfl
  | cons x rest ih =>
    rw [List.map_cons, List.sum_cons, List.map_cons, List.sum_cons, List.map_cons, List.sum_cons, ih]
    omega

theorem sum_map_zero (xs : List Share) : (xs.map fun _ => 0).sum = 0 := by
  induction xs with
  | nil => rfl
  | cons x rest ih => rw [List.map_cons, List.sum_cons, ih]

theorem sum_map_div_le (charge total : Nat) (xs : List Share) :
    (xs.map fun x => charge * x.area / total).sum ≤ charge * (xs.map Share.area).sum / total := by
  induction xs with
  | nil => exact Nat.zero_le _
  | cons x rest ih =>
    rw [List.map_cons, List.sum_cons, List.map_cons, List.sum_cons, Nat.mul_add]
    exact Nat.le_trans (Nat.add_le_add_left ih _) (div_add_div_le _ _ _)

theorem sum_map_oldest {oldest : Share} {rest : List Share} (hdistinct : ((oldest :: rest).map Share.tag).Nodup) (n : Nat) :
    ((oldest :: rest).map fun x => if x.tag = oldest.tag then n else 0).sum = n := by
  obtain ⟨hfresh, _⟩ := List.nodup_cons.mp hdistinct
  have hzero : (rest.map fun x => if x.tag = oldest.tag then n else 0) = rest.map fun _ => 0 :=
    List.map_congr_left fun x hx => if_neg fun h => hfresh (List.mem_map.mpr ⟨x, hx, h⟩)
  rw [List.map_cons, List.sum_cons, if_pos rfl, hzero, sum_map_zero, Nat.add_zero]

theorem sum_shares {snap : Snapshot} {charge : Nat} {oldest : Share} {rest : List Share} (hshares : snap.shares = oldest :: rest)
    (hdistinct : (snap.shares.map Share.tag).Nodup) (htotal : snap.total = (snap.shares.map Share.area).sum) :
    (snap.shares.map fun x => charge * x.area / snap.total
      + (if x.tag = oldest.tag then charge - (snap.shares.map fun x => charge * x.area / snap.total).sum else 0)).sum = charge := by
  have hgiven : (snap.shares.map fun x => charge * x.area / snap.total).sum ≤ charge := by
    refine Nat.le_trans (sum_map_div_le charge snap.total snap.shares) ?_
    rw [← htotal]
    exact Nat.div_le_of_le_mul (Nat.le_of_eq (Nat.mul_comm charge snap.total))
  have hrest : (snap.shares.map fun x => if x.tag = oldest.tag then
      charge - (snap.shares.map fun x => charge * x.area / snap.total).sum else 0).sum
      = charge - (snap.shares.map fun x => charge * x.area / snap.total).sum := by
    generalize charge - (snap.shares.map fun x => charge * x.area / snap.total).sum = n
    rw [hshares] at hdistinct ⊢
    exact sum_map_oldest hdistinct n
  rw [sum_map_add_share, hrest]
  exact Nat.add_sub_of_le hgiven

end Sys2Proof.Machine
end

section
/-! PROOFS. Slot reports: the frame's sums, the cycle span and the records (R127, R129, R130). -/

namespace Sys2Proof.Machine

open Sys2Proof

/-! ### The cycle span (R129) -/

theorem Mode.plates_iff (m : Mode) : m.plates = true ↔ m = .normal ∨ m = .forwardOnly := by simp [Mode.plates]

/-- The records as the close of a span leaves them (R131). -/
def Dose.judgedRecords (threshold : Nat) (d : Dose) : List OpenRecord :=
  match d.span with
  | some p => if p.judged then d.records.map (OpenRecord.shiftVerdict threshold p.out) else d.records
  | none => d.records

theorem Dose.closeSpan_eq (threshold : Nat) (d : Dose) :
    d.closeSpan threshold = { d with span := none, records := d.judgedRecords threshold } := by
  unfold Dose.closeSpan Dose.judgedRecords
  cases hspan : d.span with
  | none => simp [← hspan]
  | some p =>
    dsimp only
    split
    next => rfl
    next => rfl

/-- A cycle start closes the span before it and opens one, where its mode plates. -/
theorem Dose.spanStep_of_start {x : SlotRecord} (h : x.cycleStart = true) (threshold commanded measured : Nat) (d : Dose) :
    d.spanStep threshold x commanded measured =
      { d with
        records := d.judgedRecords threshold
        span := if x.mode = .normal ∨ x.mode = .forwardOnly then
            some ⟨d.spanSerial, x.key, x.cycle, x.tolerance, 1, commanded, measured, false⟩ else none
        spanSerial := if x.mode = .normal ∨ x.mode = .forwardOnly then d.spanSerial + 1 else d.spanSerial } := by
  refine (if_pos h).trans ?_
  rw [Dose.closeSpan_eq]
  unfold Dose.openSpan
  by_cases hplates : x.mode = .normal ∨ x.mode = .forwardOnly
  · rw [if_pos ((Mode.plates_iff x.mode).mpr hplates), if_pos hplates, if_pos hplates]
    rfl
  · rw [if_neg (mt (Mode.plates_iff x.mode).mp hplates), if_neg hplates, if_neg hplates]

theorem Dose.spanStep_of_later {x : SlotRecord} (h : x.cycleStart = false) (threshold commanded measured : Nat) (d : Dose) :
    d.spanStep threshold x commanded measured = { d with span := d.span.map (Span.add x commanded measured) } :=
  if_neg (Bool.eq_false_iff.mp h)

theorem Span.add_eq (x : SlotRecord) (commanded measured : Nat) (p : Span) :
    p.add x commanded measured =
      { p with
        count := p.count + 1, commanded := p.commanded + commanded, measured := p.measured + measured
        spoiled := p.spoiled || !decide ((x.mode = .normal ∨ x.mode = .forwardOnly) ∧ x.key = p.key) } := by
  have hplates : x.mode.plates = decide (x.mode = .normal ∨ x.mode = .forwardOnly) := by
    rw [Bool.eq_iff_iff, Mode.plates_iff, decide_eq_true_iff]
  have hkey : (x.key == p.key) = decide (x.key = p.key) := by rw [Bool.eq_iff_iff, beq_iff_eq, decide_eq_true_iff]
  unfold Span.add
  rw [hplates, hkey, Bool.decide_and]

/-! ### A report's parts -/

/-- The measured forward charge of a report. -/
theorem SlotReport.measF_eq (r : SlotReport) :
    r.measF = match r.reading with | some m => if 0 ≤ m.current then m.current.natAbs * r.duration else 0 | none => 0 := by
  unfold SlotReport.measF SlotReport.forward SlotReport.measured
  cases r.reading with
  | none => rfl
  | some m => simp [chargeOf]

theorem SlotReport.measR_eq (r : SlotReport) :
    r.measR = match r.reading with | some m => if m.current < 0 then m.current.natAbs * r.duration else 0 | none => 0 := by
  unfold SlotReport.measR SlotReport.forward SlotReport.measured
  cases r.reading with
  | none => rfl
  | some m =>
    by_cases hneg : m.current < 0
    · have hnot : ¬0 ≤ m.current := by omega
      simp [chargeOf, hneg, hnot]
    · have hpos : 0 ≤ m.current := by omega
      simp [hneg, hpos]

theorem SlotReport.measured_eq (r : SlotReport) : r.measured = r.measF + r.measR := by
  unfold SlotReport.measF SlotReport.measR
  cases r.forward
  · simp
  · simp

theorem SlotReport.anodeHigh_iff (limit : Nat) (r : SlotReport) :
    r.anodeHigh limit = true ↔ ∃ m, r.reading = some m ∧ r.cls = .fwd ∧ limit ≠ 0 ∧ limit < m.voltage := by
  unfold SlotReport.anodeHigh
  cases r.reading with
  | none => simp
  | some m => simp [and_assoc]

/-- What a reading adds, and the records it is divided among. -/
theorem Dose.takeReading_eq (limit : Nat) (r : SlotReport) (d : Dose) :
    d.takeReading limit r =
      { d with
        measF := d.measF + r.measF, measR := d.measR + r.measR, anodeHigh := d.anodeHigh || r.anodeHigh limit
        records := dividedBy (d.snapshotFor r.slot r.serial) r.forward r.measured d.records } :=
  Dose.apportion_eq _ _ _ _ _

theorem ZoneFlag.mask_unplated : ZoneFlag.unplated.mask = 0x80#16 := by decide

/-- The records with UNPLATED on the carriers of a slot's snapshot (R127, step 7). -/
def unplatedBy (snap : Option Snapshot) (rs : List OpenRecord) : List OpenRecord :=
  match snap with
  | some snap => rs.map fun o => if snap.shares.any fun x => x.tag == o.tag then { o with flags := o.flags ||| 0x80#16 } else o
  | none => rs

theorem Dose.unplate_eq (slot serial : Nat) (d : Dose) :
    d.unplate slot serial = { d with records := unplatedBy (d.snapshotFor slot serial) d.records } := by
  have hset : OpenRecord.set .unplated = fun r => { r with flags := r.flags ||| 0x80#16 } := by
    funext r
    rw [OpenRecord.set, ZoneFlag.mask_unplated]
  unfold Dose.unplate unplatedBy
  cases d.snapshotFor slot serial with
  | none => rfl
  | some snap =>
    rw [hset]
    rfl

/-- The records after a report. -/
def SlotReport.recordsAfter (r : SlotReport) (snap : Option Snapshot) (rs : List OpenRecord) : List OpenRecord :=
  if r.cls = .off then unplatedBy snap (dividedBy snap r.forward r.measured rs) else dividedBy snap r.forward r.measured rs

/-- A report in its parts: the sums, the voltage test, and the span and the records that its slot record judges. -/
theorem Dose.takeReport_eq (threshold limit : Nat) (r : SlotReport) (d : Dose) :
    d.takeReport threshold limit r =
      let spanned := d.spanStep threshold (d.recordFor r.slot r.serial) r.cmdF r.measF
      { d with
        cmdF := d.cmdF + r.cmdF, cmdR := d.cmdR + r.cmdR, measF := d.measF + r.measF, measR := d.measR + r.measR
        anodeHigh := d.anodeHigh || r.anodeHigh limit
        span := spanned.span, spanSerial := spanned.spanSerial
        records := r.recordsAfter (d.snapshotFor r.slot r.serial) spanned.records } := by
  have hstep : ({ d with cmdF := d.cmdF + r.cmdF, cmdR := d.cmdR + r.cmdR } : Dose).spanStep threshold (d.recordFor r.slot r.serial)
      r.cmdF r.measF
      = { d with
          cmdF := d.cmdF + r.cmdF, cmdR := d.cmdR + r.cmdR
          records := (d.spanStep threshold (d.recordFor r.slot r.serial) r.cmdF r.measF).records
          span := (d.spanStep threshold (d.recordFor r.slot r.serial) r.cmdF r.measF).span
          spanSerial := (d.spanStep threshold (d.recordFor r.slot r.serial) r.cmdF r.measF).spanSerial } := by
    cases hstart : (d.recordFor r.slot r.serial).cycleStart
    · rw [Dose.spanStep_of_later hstart, Dose.spanStep_of_later hstart]
    · rw [Dose.spanStep_of_start hstart, Dose.spanStep_of_start hstart]
      rfl
  have htaken : d.takeReport threshold limit r =
      let e := (({ d with cmdF := d.cmdF + r.cmdF, cmdR := d.cmdR + r.cmdR } : Dose).spanStep threshold (d.recordFor r.slot r.serial)
        r.cmdF r.measF).takeReading limit r
      if r.cls = .off then e.unplate r.slot r.serial else e := rfl
  rw [htaken, hstep]
  generalize d.spanStep threshold (d.recordFor r.slot r.serial) r.cmdF r.measF = spanned
  dsimp only
  rw [Dose.takeReading_eq, Dose.unplate_eq]
  unfold SlotReport.recordsAfter
  split <;> rfl

/-! ### A report leaves the tags -/

theorem updateWhere_tags {p : OpenRecord → Bool} {f : OpenRecord → OpenRecord} (hf : ∀ r, (f r).tag = r.tag) (rs : List OpenRecord) :
    (updateWhere p f rs).map OpenRecord.tag = rs.map OpenRecord.tag := by
  unfold updateWhere
  rw [List.map_map]
  refine List.map_congr_left fun r _ => ?_
  dsimp only [Function.comp_apply]
  split
  next => exact hf r
  next => rfl

theorem creditTo_tags (tag : Nat) (forward : Bool) (n : Nat) (rs : List OpenRecord) :
    (creditTo tag forward n rs).map OpenRecord.tag = rs.map OpenRecord.tag := updateWhere_tags (OpenRecord.credited_tag forward n) rs

theorem dividedBy_tags (snap : Option Snapshot) (forward : Bool) (charge : Nat) (rs : List OpenRecord) :
    (dividedBy snap forward charge rs).map OpenRecord.tag = rs.map OpenRecord.tag := by
  have hshared (snap : Snapshot) (xs : List Share) : (snap.sharedOut forward charge xs rs).map OpenRecord.tag = rs.map OpenRecord.tag := by
    unfold Snapshot.sharedOut
    exact foldl_keeps (List.map OpenRecord.tag) (fun rs x => creditTo_tags x.tag forward (snap.shareOf charge x.area) rs) xs rs
  unfold dividedBy Snapshot.divided
  split
  next =>
    split
    next => rfl
    next => rw [creditTo_tags, hshared]
  next => rfl

theorem unplatedBy_tags (snap : Option Snapshot) (rs : List OpenRecord) :
    (unplatedBy snap rs).map OpenRecord.tag = rs.map OpenRecord.tag := by
  unfold unplatedBy
  split
  next => exact updateWhere_tags (f := fun o => { o with flags := o.flags ||| 0x80#16 }) (fun _ => rfl) rs
  next => rfl

theorem SlotReport.recordsAfter_tags (r : SlotReport) (snap : Option Snapshot) (rs : List OpenRecord) :
    (r.recordsAfter snap rs).map OpenRecord.tag = rs.map OpenRecord.tag := by
  unfold SlotReport.recordsAfter
  split
  next => rw [unplatedBy_tags, dividedBy_tags]
  next => rw [dividedBy_tags]

theorem OpenRecord.setIf_tag (b : Bool) (f : ZoneFlag) (r : OpenRecord) : (r.setIf b f).tag = r.tag := by
  unfold OpenRecord.setIf
  split <;> rfl

theorem Dose.judgedRecords_tags (threshold : Nat) (d : Dose) :
    (d.judgedRecords threshold).map OpenRecord.tag = d.records.map OpenRecord.tag := by
  unfold Dose.judgedRecords
  split
  next =>
    split
    next =>
      rw [List.map_map]
      exact List.map_congr_left fun r _ => OpenRecord.setIf_tag _ _ _
    next => rfl
  next => rfl

/-- Settles O52: the division of a charge, a report by the slot record it finds, and a report that comes late. -/
theorem chargesAreCountedAndDivided : Obligations.ChargesAreCountedAndDivided := by
  refine ⟨?divides, ?report, ?late⟩
  case divides =>
    intro d slot serial forward charge
    refine ⟨fun hnone => ?none, fun snap hsnap => ⟨fun hempty => ?empty, fun oldest rest hshares hdistinct => ?shared⟩⟩
    case none => rw [Dose.apportion_eq, Dose.snapshotFor_of_none serial hnone]; rfl
    case empty =>
      have hkept : dividedBy (some snap) forward charge d.records = d.records := by
        show snap.divided forward charge d.records = d.records
        unfold Snapshot.divided
        rw [hempty]
      rw [Dose.apportion_eq, Dose.snapshotFor_of_isOfSlot hsnap, hkept]
    case shared =>
      intro given share credited
      refine ⟨fun _ => ?_, fun htotal => sum_shares hshares hdistinct htotal⟩
      rw [Dose.apportion_eq, Dose.snapshotFor_of_isOfSlot hsnap]
      exact congrArg (fun rs => { d with records := rs }) (Snapshot.divided_eq forward charge d.records hshares hdistinct)
  case report =>
    intro d threshold limit r u charge forward reverse positive high found
    have hu := Dose.takeReport_eq threshold limit r d
    have hcmdF : r.cmdF = charge .fwd := rfl
    have hcmdR : r.cmdR = charge .rev := rfl
    have hforward : r.measF = forward := r.measF_eq
    have hreverse : r.measR = reverse := r.measR_eq
    have hmeasured : r.measured = forward + reverse := by rw [r.measured_eq, hforward, hreverse]
    have hpositive : r.forward = positive := rfl
    have hfound (x : SlotRecord) (hx : found x) : d.recordFor r.slot r.serial = x := Dose.recordFor_of_isOfSlot hx
    have hdivides (judged : Dose) (hsnapshots : judged.snapshots = d.snapshots)
        (hrecords : u.records = r.recordsAfter (d.snapshotFor r.slot r.serial) judged.records) :
        let shared := (judged.apportion r.slot r.serial positive (forward + reverse)).records
        (r.cls ≠ .off → u.records = shared)
          ∧ (r.cls = .off →
            ((∀ x ∈ d.snapshots, x.slot ≠ r.slot) → u.records = shared)
              ∧ ∀ snap, IsOfSlot Snapshot.slot Snapshot.serial r.slot r.serial d.snapshots snap →
                u.records = shared.map fun o =>
                  if snap.shares.any fun x => x.tag == o.tag then { o with flags := o.flags ||| 0x80#16 } else o) := by
      intro shared
      have hshared : shared = dividedBy (d.snapshotFor r.slot r.serial) r.forward r.measured judged.records := by
        have hsame : judged.snapshotFor r.slot r.serial = d.snapshotFor r.slot r.serial := by
          unfold Dose.snapshotFor
          rw [hsnapshots]
        rw [← hsame, hmeasured, hpositive]
        exact congrArg Dose.records (Dose.apportion_eq _ _ _ _ judged)
      rw [hrecords, hshared]
      unfold SlotReport.recordsAfter
      refine ⟨fun hon => if_neg hon, fun hoff => ⟨fun hnone => ?_, fun snap hsnap => ?_⟩⟩
      · rw [if_pos hoff, Dose.snapshotFor_of_none r.serial hnone]
        rfl
      · rw [if_pos hoff, Dose.snapshotFor_of_isOfSlot hsnap]
        rfl
    have hnotStored (hnone : ∀ x ∈ d.slotRecords, x.slot ≠ r.slot) :
        d.recordFor r.slot r.serial = SlotRecord.absent r.slot r.serial := by
      unfold Dose.recordFor
      rw [findSlot_eq_none hnone]
      rfl
    have hstarts (x : SlotRecord) (hx : found x) (hstart : x.cycleStart = true) := Dose.spanStep_of_start hstart threshold r.cmdF r.measF d
    have hlater (x : SlotRecord) (hstart : x.cycleStart = false) := Dose.spanStep_of_later hstart threshold r.cmdF r.measF d
    have hdefined : u = d.takeReport threshold limit r := rfl
    rw [← hdefined] at hu
    clear_value u
    refine ⟨by rw [hu, hcmdF], by rw [hu, hcmdR], by rw [hu, hforward], by rw [hu, hreverse], ?high, by rw [hu], by rw [hu], ?tags,
      fun x hx hstart => ?start, fun x hx hstart => ?count, fun hnone => ?spoils, fun x hx hstart => ?judges, fun h => ?keeps⟩
    case high =>
      rw [hu]
      simp only [Bool.or_eq_true, SlotReport.anodeHigh_iff]
      exact Iff.rfl
    case tags =>
      rw [hu]
      dsimp only
      rw [SlotReport.recordsAfter_tags]
      cases hstart : (d.recordFor r.slot r.serial).cycleStart
      · rw [Dose.spanStep_of_later hstart]
      · rw [Dose.spanStep_of_start hstart, Dose.judgedRecords_tags]
    case start =>
      have hspan : u.span = if x.mode = .normal ∨ x.mode = .forwardOnly then
          some ⟨d.spanSerial, x.key, x.cycle, x.tolerance, 1, charge .fwd, forward, false⟩ else none := by
        rw [hu, hfound x hx, Dose.spanStep_of_start hstart, hcmdF, hforward]
      exact ⟨fun hplates => hspan.trans (if_pos hplates), fun hnot => hspan.trans (if_neg hnot)⟩
    case count =>
      have hspan : u.span = d.span.map (Span.add x (charge .fwd) forward) := by
        rw [hu, hfound x hx, Dose.spanStep_of_later hstart, hcmdF, hforward]
      refine ⟨fun hnone => by rw [hspan, hnone]; rfl, fun p hp => ?_⟩
      rw [hspan, hp]
      exact congrArg some (Span.add_eq x _ _ p)
    case spoils =>
      rw [hu, hnotStored hnone, Dose.spanStep_of_later (by rfl), hcmdF, hforward]
      refine congrArg (fun f => Option.map f d.span) (funext fun p => ?_)
      rw [Span.add_eq]
      simp [SlotRecord.absent]
    case judges =>
      refine hdivides (d.closeSpan threshold) (by rw [Dose.closeSpan_eq]) ?_
      rw [hu, hfound x hx, Dose.spanStep_of_start hstart, Dose.closeSpan_eq]
    case keeps =>
      refine hdivides d rfl ?_
      have hnoStart : (d.recordFor r.slot r.serial).cycleStart = false := by
        rcases h with hnone | ⟨x, hx, hstart⟩
        · rw [hnotStored hnone]
          rfl
        · rw [hfound x hx, hstart]
      rw [hu, Dose.spanStep_of_later hnoStart]
  case late =>
    intro d counted limit r m hm charge forward added
    have hforward : r.forward = forward := by
      unfold SlotReport.forward
      rw [hm]
    have hmeasured : r.measured = charge := by
      unfold SlotReport.measured
      rw [hm]
      rfl
    have hmeasF : r.measF = if forward then charge else 0 := by
      unfold SlotReport.measF
      rw [hforward, hmeasured]
    have hmeasR : r.measR = if forward then 0 else charge := by
      unfold SlotReport.measR
      rw [hforward, hmeasured]
    have hhigh : r.anodeHigh limit = decide (r.cls = .fwd ∧ limit ≠ 0 ∧ limit < m.voltage) := by
      rw [Bool.eq_iff_iff, SlotReport.anodeHigh_iff, decide_eq_true_iff, hm]
      exact ⟨fun ⟨x, hx, h⟩ => (Option.some.inj hx) ▸ h, fun h => ⟨m, rfl, h⟩⟩
    have hadded : added = { d.lateSpan counted r.measF with
        measF := d.measF + r.measF, measR := d.measR + r.measR, anodeHigh := d.anodeHigh || r.anodeHigh limit } := by
      simp only [added, hmeasF, hmeasR, hhigh]
      rfl
    rw [hadded, ← hforward, ← hmeasured]
    rfl

end Sys2Proof.Machine
end

section
/-! PROOFS. Cycle verdicts, the close of a record, slot records, and the verdicts of a frame boundary (R126, R129, R131 to R135). -/

namespace Sys2Proof.Machine

open Sys2Proof

/-! ### Cycle verdicts (R129, R131) -/

theorem Span.out_eq (p : Span) :
    p.out = decide (p.commanded * p.tolerance < (((p.measured : Int) - (p.commanded : Int)).natAbs) * 100) := by
  have hdiff : max p.measured p.commanded - min p.measured p.commanded = ((p.measured : Int) - (p.commanded : Int)).natAbs := by omega
  unfold Span.out
  rw [hdiff]

theorem Span.judged_iff (p : Span) : p.judged = true ↔ p.spoiled = false ∧ p.count = p.cycle := by simp [Span.judged]

theorem ZoneFlag.mask_deviation : ZoneFlag.deviation.mask = 0x400#16 := by decide

theorem ZoneFlag.mask_underdose : ZoneFlag.underdose.mask = 0x200#16 := by decide

theorem OpenRecord.shiftVerdict_eq (threshold : Nat) (out : Bool) (r : OpenRecord) :
    r.shiftVerdict threshold out =
      let history := (out :: r.history).take 8
      { r with
        history := history, deviations := if out then min 255 (r.deviations + 1) else r.deviations
        flags := if threshold ≤ history.count true then r.flags ||| 0x400#16 else r.flags } := by
  unfold OpenRecord.shiftVerdict OpenRecord.setIf
  dsimp only
  by_cases h : threshold ≤ ((out :: r.history).take 8).count true
  · rw [if_pos (decide_eq_true h), if_pos h, OpenRecord.set, ZoneFlag.mask_deviation]
  · rw [if_neg (mt of_decide_eq_true h), if_neg h]

/-! ### The close of a record (R134, R135, R179) -/

theorem getLsbD_foldl_or (g : Nat → Bool) {j : Nat} (hj : j < 8) (xs : List Nat) (b : BitVec 8) :
    (xs.foldl (fun b i => if g i then b ||| BitVec.twoPow 8 (7 - i) else b) b).getLsbD j
      = (b.getLsbD j || xs.any fun i => g i && decide (7 - i = j)) := by
  induction xs generalizing b with
  | nil => simp
  | cons x rest ih =>
    rw [List.foldl_cons, ih, List.any_cons]
    cases g x
    · simp
    · simp [BitVec.getLsbD_or, BitVec.getLsbD_twoPow, hj, Bool.or_assoc, eq_comm (a := j) (b := 7 - x)]

/-- Place `i + 1` of the history stands in bit `7 - i` (R179). -/
theorem historyByte_getLsbD (history : List Bool) {i : Nat} (hi : i < 8) :
    (historyByte history).getLsbD (7 - i) = history.getD i false := by
  unfold historyByte
  rw [getLsbD_foldl_or (fun i => history.getD i false) (by omega), BitVec.getLsbD_zero, Bool.false_or, Bool.eq_iff_iff,
    List.any_eq_true]
  constructor
  · rintro ⟨k, hk, h⟩
    rw [Bool.and_eq_true, decide_eq_true_iff] at h
    have hsame : k = i := by
      have := List.mem_range.mp hk
      omega
    exact hsame ▸ h.1
  · exact fun h => ⟨i, List.mem_range.mpr hi, by simp only [h, decide_true, Bool.and_self]⟩

theorem OpenRecord.close_flags (zone station tolerance : Nat) (r : OpenRecord) :
    (r.close zone station tolerance).flags
      = if 0 < r.target ∧ toMilliAmpSeconds r.forward * 100 < r.target * (100 - tolerance) then r.flags ||| 0x200#16 else r.flags := by
  have hunder : r.underdose tolerance = true ↔ 0 < r.target ∧ toMilliAmpSeconds r.forward * 100 < r.target * (100 - tolerance) := by
    simp [OpenRecord.underdose]
  show (r.setIf (r.underdose tolerance) .underdose).flags = _
  unfold OpenRecord.setIf
  by_cases h : 0 < r.target ∧ toMilliAmpSeconds r.forward * 100 < r.target * (100 - tolerance)
  · rw [if_pos (hunder.mpr h), if_pos h, OpenRecord.set, ZoneFlag.mask_underdose]
  · rw [if_neg (mt hunder.mp h), if_neg h]

/-! ### Slot records (R126, R128) -/

theorem OpenRecord.has_setIf (b : Bool) (f g : ZoneFlag) (r : OpenRecord) :
    (r.setIf b f).has g = (r.has g || (b && decide (g = f))) := by
  unfold OpenRecord.setIf
  cases b
  · simp
  · simp [OpenRecord.has_set_iff]

theorem mixedRecipes_iff (table : List Entry) :
    mixedRecipes table = true ↔ ∃ x ∈ table, ∃ y ∈ table,
      x.present = true ∧ y.present = true ∧ x.record.recipe ≠ y.record.recipe := by
  have hmem (e : Entry) : e ∈ table.filter Entry.present ↔ e ∈ table ∧ e.present = true := List.mem_filter
  unfold mixedRecipes
  cases hpresent : table.filter Entry.present with
  | nil =>
    simp only [Bool.false_eq_true, false_iff]
    rintro ⟨x, hx, _, _, hxp, _⟩
    have h := (hmem x).mpr ⟨hx, hxp⟩
    rw [hpresent] at h
    cases h
  | cons e rest =>
    rw [hpresent] at hmem
    simp only [List.any_eq_true, bne_iff_ne]
    constructor
    · rintro ⟨x, hx, hne⟩
      obtain ⟨hxt, hxp⟩ := (hmem x).mp (List.mem_cons_of_mem e hx)
      obtain ⟨het, hep⟩ := (hmem e).mp List.mem_cons_self
      exact ⟨x, hxt, e, het, hxp, hep, hne⟩
    · rintro ⟨x, hx, y, hy, hxp, hyp, hne⟩
      refine Classical.byContradiction fun hall => ?_
      have hsame (z : Entry) (hz : z ∈ table) (hzp : z.present = true) : z.record.recipe = e.record.recipe := by
        rcases List.mem_cons.mp ((hmem z).mpr ⟨hz, hzp⟩) with rfl | hz
        · rfl
        · exact Classical.byContradiction fun hzne => hall ⟨z, hz, hzne⟩
      exact hne ((hsame x hx hxp).trans (hsame y hy hyp).symm)

theorem SlotRecord.reverseAsRest_iff (r : SlotRecord) :
    r.reverseAsRest = true ↔ r.segment = some .reverse ∧ r.runAsRest = true := by simp [SlotRecord.reverseAsRest]

/-- An open record but for its flags. -/
def OpenRecord.unmarked (r : OpenRecord) : OpenRecord := { r with flags := 0#16 }

theorem OpenRecord.setIf_unmarked (b : Bool) (f : ZoneFlag) (r : OpenRecord) : (r.setIf b f).unmarked = r.unmarked := by
  unfold OpenRecord.setIf
  split <;> rfl

theorem OpenRecord.eq_of_unmarked {o r : OpenRecord} (h : o.unmarked = r.unmarked) : o = { r with flags := o.flags } := by
  obtain ⟨flags, rfl⟩ : ∃ flags, o = { r with flags := flags } := by
    cases o
    cases r
    simp only [OpenRecord.unmarked, OpenRecord.mk.injEq] at h ⊢
    simpa using h
  rfl

/-- The marks that a slot record sets. -/
def SlotRecord.marks (r : SlotRecord) (mixed anode : Bool) (o : OpenRecord) : OpenRecord :=
  (((((o.setIf (r.mode == .holding) .held).setIf r.reverseAsRest .forwardOnly).setIf
    (r.mode == .normal && decide (2 ≤ r.scale) && decide (r.scale ≤ 7)) .reduced).setIf r.clamped .clamped).setIf mixed .mixed).setIf
    anode .anode

theorem SlotRecord.marks_eq (r : SlotRecord) (mixed anode : Bool) (o : OpenRecord) :
    r.marks mixed anode o = { o with flags := (r.marks mixed anode o).flags } := by
  refine OpenRecord.eq_of_unmarked ?_
  unfold SlotRecord.marks
  simp only [OpenRecord.setIf_unmarked]

/-- What a slot record makes of an open record besides its flags. -/
theorem SlotRecord.applyTo_eq (r : SlotRecord) (mixed anode : Bool) (o : OpenRecord) :
    r.applyTo mixed anode o = { o with
      minScale := r.scaleAfter o.minScale, recipeUsed := if r.key = none then o.recipeUsed else r.key
      flags := (r.applyTo mixed anode o).flags } := by
  have hused : (if r.key.isSome then r.key else o.recipeUsed) = if r.key = none then o.recipeUsed else r.key := by
    cases r.key <;> rfl
  have happlied : r.applyTo mixed anode o = { r.marks mixed anode o with
      minScale := r.scaleAfter (r.marks mixed anode o).minScale
      recipeUsed := if r.key.isSome then r.key else (r.marks mixed anode o).recipeUsed } := rfl
  rw [happlied, SlotRecord.marks_eq]
  dsimp only
  rw [hused]

/-- The marks of a slot record. -/
theorem SlotRecord.applyTo_has (r : SlotRecord) (mixed anode : Bool) (o : OpenRecord) (f : ZoneFlag) :
    (r.applyTo mixed anode o).has f = (o.has f
      || ((r.mode == .holding) && decide (f = .held)) || (r.reverseAsRest && decide (f = .forwardOnly))
      || ((r.mode == .normal && decide (2 ≤ r.scale) && decide (r.scale ≤ 7)) && decide (f = .reduced))
      || (r.clamped && decide (f = .clamped)) || (mixed && decide (f = .mixed)) || (anode && decide (f = .anode))) := by
  simp only [← OpenRecord.has_setIf]
  rfl

theorem State.takeSlotRecord_dose (r : SlotRecord) (s : State) :
    (s.takeSlotRecord r).dose = { s.dose with
      slotRecords := (s.dose.slotRecords ++ [r]).drop (s.dose.slotRecords.length - 1)
      records := s.dose.records.map (r.applyTo (mixedRecipes s.tracker.table) (s.mon.isDeclared .anodeVoltage)) } := by
  have hlast : lastTwo (s.dose.slotRecords ++ [r]) = (s.dose.slotRecords ++ [r]).drop (s.dose.slotRecords.length - 1) := by
    unfold lastTwo
    rw [List.length_append, List.length_singleton]
    rfl
  rw [← hlast]
  rfl

/-! ### The frame (R132, R133, R162) -/

theorem Dose.deficit_eq (d : Dose) : d.deficit = decide (d.cmdR ≠ 0 ∧ d.measR * 100 < d.cmdR * 85) := by
  unfold Dose.deficit
  rw [Bool.decide_and, bne, decide_not]
  congr 2

/-- The dominant carrier's first record, whose history says whether its dose deviates (R133). -/
theorem State.deviationOut_iff (s : State) : s.deviationOut = true
    ↔ ∃ tag pre r post, s.tracker.dominant = some tag ∧ s.dose.records = pre ++ r :: post ∧ r.tag = tag
      ∧ (∀ x ∈ pre, x.tag ≠ tag) ∧ s.cfg.deviationThreshold ≤ r.history.count true := by
  unfold State.deviationOut
  cases hdominant : s.tracker.dominant with
  | none => simp
  | some tag =>
    dsimp only
    cases hfind : s.dose.records.find? fun r => r.tag == tag with
    | none =>
      simp only [Bool.false_eq_true, false_iff]
      rintro ⟨tag', pre, r, post, htag, hrecords, hr, _⟩
      obtain rfl := Option.some.inj htag
      exact List.find?_eq_none.mp hfind r (by rw [hrecords]; simp) (beq_iff_eq.mpr hr)
    | some r =>
      obtain ⟨hr, pre, post, hrecords, hpre⟩ := List.find?_eq_some_iff_append.mp hfind
      rw [decide_eq_true_iff]
      constructor
      · refine fun hcount => ⟨tag, pre, r, post, rfl, hrecords, beq_iff_eq.mp hr, fun x hx htag => ?_, hcount⟩
        have h := hpre x hx
        rw [htag] at h
        simp at h
      · rintro ⟨tag', pre', r', post', htag, hrecords', hr', hpre', hcount⟩
        obtain rfl := Option.some.inj htag
        have hfirst : s.dose.records.find? (fun r => r.tag == tag) = some r' := by
          refine List.find?_eq_some_iff_append.mpr ⟨beq_iff_eq.mpr hr', pre', post', hrecords', fun x hx => ?_⟩
          simp [hpre' x hx]
        rw [hfirst] at hfind
        obtain rfl := Option.some.inj hfind
        exact hcount

theorem State.followDeviation_dose (out : Bool) (s : State) : (s.followDeviation out).dose = s.dose := by simp

theorem State.doseFrame_eq (s : State) (deviates : Bool) (h : s.deviationOut = deviates) :
    s.doseFrame =
      { ((s.verdict .reverseDeficit s.dose.deficit .frames).verdict .anodeVoltage s.dose.anodeHigh .frames).followDeviation deviates with
        dose := s.dose.newFrame } := by
  have hkept (u : State) (hdose : u.dose = s.dose) (htracker : u.tracker = s.tracker) (hcfg : u.cfg = s.cfg) :
      u.deviationOut = deviates := by
    rw [← h]
    unfold State.deviationOut
    rw [hdose, htracker, hcfg]
  unfold State.doseFrame
  dsimp only
  generalize hx : s.verdict .reverseDeficit s.dose.deficit .frames = x
  have hxdose : x.dose = s.dose := by
    rw [← hx]
    simp
  rw [hxdose]
  generalize hy : x.verdict .anodeVoltage s.dose.anodeHigh .frames = y
  have hydose : y.dose = s.dose := by
    rw [← hy]
    simp [hxdose]
  have hyout : y.deviationOut = deviates := by
    refine hkept y hydose ?_ ?_
    · rw [← hy, ← hx]
      simp
    · unfold State.cfg
      rw [← hy, ← hx]
      simp
  rw [hyout, State.followDeviation_dose, hydose]
  rfl

/-- Settles O53: the close of a span and of a record, the slot record's marks, and the verdicts of a frame boundary. -/
theorem verdictsAndCloses : Obligations.VerdictsAndCloses := by
  refine ⟨?span, ?close, ?slot, ?frame, ?bus⟩
  case span =>
    intro d p threshold hp out
    have hout : p.out = out := p.out_eq
    refine ⟨fun h => ?whole, fun h => ?dropped⟩
    case whole =>
      rw [Dose.closeSpan_eq, Dose.judgedRecords, hp]
      dsimp only
      rw [if_pos (p.judged_iff.mpr h), hout]
      refine congrArg (fun f => ({ d with span := none, records := d.records.map f } : Dose)) (funext fun r => ?_)
      exact OpenRecord.shiftVerdict_eq threshold out r
    case dropped =>
      have hnot : ¬p.judged = true := by
        rw [p.judged_iff]
        rintro ⟨hclean, hcount⟩
        rcases h with h | h
        · exact Bool.false_ne_true (hclean.symm.trans h)
        · exact h hcount
      rw [Dose.closeSpan_eq, Dose.judgedRecords, hp]
      dsimp only
      rw [if_neg hnot]
  case close =>
    intro r zone station tolerance milli closed
    exact ⟨rfl, rfl, rfl, rfl, rfl, rfl, rfl, rfl, rfl, fun i hi => historyByte_getLsbD r.history hi, r.close_flags zone station tolerance⟩
  case slot =>
    intro s r asRest mixed u
    have hdose : u.dose = _ := s.takeSlotRecord_dose r
    have hmixed : mixedRecipes s.tracker.table = true ↔ mixed := mixedRecipes_iff _
    have hasRest : r.reverseAsRest = true ↔ asRest := r.reverseAsRest_iff
    clear_value u mixed asRest
    refine ⟨by rw [hdose], by rw [hdose]; exact List.length_map _, fun i o o' ho ho' => ?_⟩
    have happlied : o' = r.applyTo (mixedRecipes s.tracker.table) (s.mon.isDeclared .anodeVoltage) o := by
      rw [hdose, List.getElem?_map, ho] at ho'
      exact (Option.some.inj ho').symm
    have hparts := r.applyTo_eq (mixedRecipes s.tracker.table) (s.mon.isDeclared .anodeVoltage) o
    have hhas (f : ZoneFlag) := r.applyTo_has (mixedRecipes s.tracker.table) (s.mon.isDeclared .anodeVoltage) o f
    rw [← happlied] at hparts hhas
    have hscale : o'.minScale = r.scaleAfter o.minScale := by rw [hparts]
    refine ⟨?same, by rw [hparts], fun h => ?rests, fun hseg hrun hmode => ?scales, fun hseg => ?keeps, ?held, ?forwardOnly, ?reduced,
      ?clamped, ?mixed, ?anode, fun flag hflag => ?others⟩
    case same =>
      rw [hparts]
    case rests =>
      rw [hscale]
      exact if_pos (hasRest.mpr h)
    case scales =>
      have hnot : ¬r.reverseAsRest = true := by simp [SlotRecord.reverseAsRest, hrun]
      rw [hscale]
      exact (if_neg hnot).trans (if_pos ⟨hseg, hmode⟩)
    case keeps =>
      have hnot : ¬r.reverseAsRest = true := by simp [SlotRecord.reverseAsRest, hseg]
      rw [hscale]
      exact (if_neg hnot).trans (if_neg fun h => hseg h.1)
    case held => simp [hhas]
    case forwardOnly => simp [hhas, hasRest]
    case reduced => simp [hhas, and_assoc]
    case clamped => simp [hhas]
    case mixed => simp [hhas, hmixed]
    case anode => simp [hhas]
    case others =>
      rw [hhas]
      simp only [List.mem_cons, List.not_mem_nil, or_false] at hflag
      rcases hflag with rfl | rfl | rfl | rfl | rfl | rfl | rfl | rfl | rfl | rfl
      all_goals simp
  case frame =>
    intro s bad out judged cleared
    have hbad : s.dose.deficit = bad := s.dose.deficit_eq
    have hcleared : s.dose.newFrame = cleared := rfl
    have hout : s.deviationOut = true ↔ out := s.deviationOut_iff
    clear_value out
    refine ⟨fun h => ?_, fun h => ?_⟩
    · rw [s.doseFrame_eq true (hout.mpr h), hbad, hcleared]
    · rw [s.doseFrame_eq false (Bool.eq_false_iff.mpr (mt hout.mp h)), hbad, hcleared]
  case bus =>
    intro s f cause judged
    rfl

end Sys2Proof.Machine
end

section
/-! PROOFS. Verdicts, the pending report set and its submissions (R137 to R144). -/

namespace Sys2Proof.Machine

open Sys2Proof

/-! ### Verdicts (R138, R139) -/

theorem Monitor.setRuns_declared (k : CountedKind) (r : RunCounts) (m : Monitor) : (m.setRuns k r).declared = m.declared := by
  cases k <;> rfl

theorem State.followDeviation_of_same {s : State} {out : Bool} (h : out = s.mon.isDeclared .doseDeviation) :
    s.followDeviation out = s := by
  unfold State.followDeviation
  cases out
  · rw [if_neg Bool.false_ne_true]
    unfold State.clearCond
    rw [← h]
    rfl
  · rw [if_pos rfl]
    unfold State.declareCond
    rw [← h]
    rfl

theorem State.followDeviation_isDeclared (out : Bool) (s : State) : (s.followDeviation out).mon.isDeclared .doseDeviation = out := by
  unfold State.followDeviation
  cases out
  · rw [if_neg Bool.false_ne_true, State.clearCond_isDeclared]
    simp [Kind.sticky]
  · rw [if_pos rfl, State.declareCond_isDeclared]
    simp

/-! ### The pending report set (R142) -/

theorem Kind.priority_inj {k l : Kind} (h : k.priority = l.priority) : k = l := Kind.bit_inj.mp (congrArg (fun n => n - 1) h)

theorem eq_of_kind {rs : List Report} (hrs : reportsInOrder rs) {x y : Report} (hx : x ∈ rs) (hy : y ∈ rs) (h : x.kind = y.kind) :
    x = y := by
  have hprio : x.kind.priority = y.kind.priority := congrArg Kind.priority h
  have horder := hrs.1
  clear hrs
  induction rs with
  | nil => cases hx
  | cons z rest ih =>
    obtain ⟨hfirst, hrest⟩ := List.pairwise_cons.mp horder
    rcases List.mem_cons.mp hx with hxz | hx
    · rcases List.mem_cons.mp hy with hyz | hy
      · exact hxz.trans hyz.symm
      · exact absurd hprio (hxz ▸ Nat.ne_of_lt (hfirst y hy))
    · rcases List.mem_cons.mp hy with hyz | hy
      · exact absurd hprio (hyz ▸ Nat.ne_of_gt (hfirst x hx))
      · exact ih hx hy hrest

theorem supersede_kind (r x : Report) : (supersede r x).kind = x.kind := by
  unfold supersede
  split
  next h => exact h.symm
  next => rfl

theorem supersede_of_kind {r x : Report} (h : x.kind = r.kind) : supersede r x = ⟨r.kind, r.change, r.cause, min 15 (x.superseded + 1)⟩ :=
  if_pos h

theorem supersede_of_other {r x : Report} (h : x.kind ≠ r.kind) : supersede r x = x := if_neg h

theorem mem_insertReport (r x : Report) (rs : List Report) : x ∈ insertReport r rs ↔ x = r ∨ x ∈ rs := by
  induction rs with
  | nil => simp [insertReport]
  | cons y rest ih =>
    unfold insertReport
    split
    next => rw [List.mem_cons]
    next => rw [List.mem_cons, List.mem_cons, ih, or_left_comm]

theorem insertReport_inOrder {r : Report} {rs : List Report} (hrs : reportsInOrder rs) (hr : r.superseded ≤ 15)
    (hnew : ∀ x ∈ rs, x.kind ≠ r.kind) : reportsInOrder (insertReport r rs) := by
  refine ⟨?_, fun x hx => ?_⟩
  · have horder := hrs.1
    clear hrs
    induction rs with
    | nil => exact List.pairwise_singleton _ r
    | cons y rest ih =>
      obtain ⟨hfirst, hrest⟩ := List.pairwise_cons.mp horder
      unfold insertReport
      split
      next hlt =>
        refine List.pairwise_cons.mpr ⟨fun x hx => ?_, horder⟩
        rcases List.mem_cons.mp hx with rfl | hx
        · exact hlt
        · exact Nat.lt_trans hlt (hfirst x hx)
      next hlt =>
        have hyr : y.kind.priority < r.kind.priority := by
          have hne : y.kind.priority ≠ r.kind.priority := fun h => hnew y List.mem_cons_self (Kind.priority_inj h)
          omega
        refine List.pairwise_cons.mpr ⟨fun x hx => ?_, ih (fun x hx => hnew x (List.mem_cons_of_mem y hx)) hrest⟩
        rcases (mem_insertReport r x rest).mp hx with rfl | hx
        · exact hyr
        · exact hfirst x hx
  · rcases (mem_insertReport r x rs).mp hx with rfl | hx
    · exact hr
    · exact hrs.2 x hx

theorem map_supersede_inOrder (r : Report) {rs : List Report} (hrs : reportsInOrder rs) : reportsInOrder (rs.map (supersede r)) := by
  refine ⟨List.pairwise_map.mpr (hrs.1.imp fun {a b} h => ?_), fun x hx => ?_⟩
  · rw [supersede_kind, supersede_kind]
    exact h
  · obtain ⟨y, hy, rfl⟩ := List.mem_map.mp hx
    unfold supersede
    split
    next => exact Nat.min_le_left 15 _
    next => exact hrs.2 y hy

theorem placeIn_of_held {r : Report} {rs : List Report} {y : Report} (hy : y ∈ rs) (hk : y.kind = r.kind) :
    placeIn r rs = rs.map (supersede r) := by
  have hheld : (rs.any fun x => x.kind == r.kind) = true := List.any_eq_true.mpr ⟨y, hy, beq_iff_eq.mpr hk⟩
  exact if_pos hheld

theorem placeIn_of_new {r : Report} {rs : List Report} (hnew : ∀ x ∈ rs, x.kind ≠ r.kind) : placeIn r rs = insertReport r rs :=
  if_neg fun h => by
    obtain ⟨x, hx, hk⟩ := List.any_eq_true.mp h
    exact hnew x hx (beq_iff_eq.mp hk)

/-- A report placed stands alone for its kind, in its place, with the count of the one it supersedes (R142). -/
theorem placeIn_spec {rs : List Report} (hrs : reportsInOrder rs) (kind : Kind) (change : Change) (cause : Cause) :
    reportsInOrder (placeIn ⟨kind, change, cause, 0⟩ rs)
      ∧ (∀ x ∈ placeIn ⟨kind, change, cause, 0⟩ rs, x.kind = kind → x.change = change ∧ x.cause = cause
        ∧ x.superseded = match rs.find? fun y => y.kind == kind with | some y => min 15 (y.superseded + 1) | none => 0)
      ∧ (∃ x ∈ placeIn ⟨kind, change, cause, 0⟩ rs, x.kind = kind)
      ∧ ∀ x, x.kind ≠ kind → (x ∈ placeIn ⟨kind, change, cause, 0⟩ rs ↔ x ∈ rs) := by
  generalize hr : (⟨kind, change, cause, 0⟩ : Report) = r
  have hkind : r.kind = kind := by rw [← hr]
  cases hfind : rs.find? fun y => y.kind == kind with
  | some y =>
    have hy : y ∈ rs := List.mem_of_find?_eq_some hfind
    have hyk : y.kind = kind := by simpa using List.find?_some hfind
    rw [placeIn_of_held hy (hyk.trans hkind.symm)]
    refine ⟨map_supersede_inOrder r hrs, fun x hx hxk => ?_, ?_, fun x hxk => ⟨fun hx => ?_, fun hx => ?_⟩⟩
    · obtain ⟨z, hz, rfl⟩ := List.mem_map.mp hx
      rw [supersede_kind] at hxk
      obtain rfl := eq_of_kind hrs hz hy (hxk.trans hyk.symm)
      rw [supersede_of_kind (hxk.trans hkind.symm), ← hr]
      exact ⟨rfl, rfl, rfl⟩
    · exact ⟨supersede r y, List.mem_map.mpr ⟨y, hy, rfl⟩, (supersede_kind r y).trans hyk⟩
    · obtain ⟨z, hz, rfl⟩ := List.mem_map.mp hx
      rw [supersede_kind, ← hkind] at hxk
      rw [supersede_of_other hxk]
      exact hz
    · rw [← hkind] at hxk
      exact List.mem_map.mpr ⟨x, hx, supersede_of_other hxk⟩
  | none =>
    have hnew : ∀ x ∈ rs, x.kind ≠ r.kind := by
      intro x hx hxk
      exact List.find?_eq_none.mp hfind x hx (beq_iff_eq.mpr (hxk.trans hkind))
    rw [placeIn_of_new hnew]
    refine ⟨insertReport_inOrder hrs (by rw [← hr]; exact Nat.zero_le 15) hnew, fun x hx hxk => ?_, ?_, fun x hxk => ?_⟩
    · rcases (mem_insertReport r x rs).mp hx with rfl | hx
      · rw [← hr]
        exact ⟨rfl, rfl, rfl⟩
      · exact absurd (hxk.trans hkind.symm) (hnew x hx)
    · exact ⟨r, (mem_insertReport r r rs).mpr (.inl rfl), hkind⟩
    · rw [mem_insertReport]
      exact or_iff_right fun h => hxk (h ▸ hkind)

/-! ### Submission occasions (R143, R144) -/

theorem StationState.onBus_iff (st : StationState) : st.onBus = true ↔ st = .listening ∨ st = .joined ∨ st = .lockout := by
  cases st <;> simp [StationState.onBus]

theorem SlotMap.claimState_eq (m : SlotMap) :
    m.claimState = if m.active.isNone ∧ m.pending.isNone then .idle else if m.active.isNone then .proposed
      else if m.pending.isNone then .settled else .moving := by
  unfold SlotMap.claimState
  cases m.active <;> cases m.pending <;> simp

theorem State.dominantId_eq (s : State) :
    s.dominantId = ((s.tracker.dominant.bind fun tag => s.tracker.table.find? fun e => e.tag == tag).map
      fun e => e.record.carrierId).getD 0 := by
  unfold State.dominantId State.entry?
  cases s.tracker.dominant with
  | none => rfl
  | some tag =>
    dsimp only [Option.bind_some]
    cases s.tracker.table.find? fun e => e.tag == tag <;> rfl

theorem offerReports_succ {s : State} {r : Report} {rest : List Report} (hreports : s.mon.reports = r :: rest) (n : Nat) :
    offerReports (n + 1) s =
      let sent := s.bus.submit s.station.state (.condition (s.conditionFor r)) .all
      if sent.2 then offerReports n { s with bus := sent.1, mon := { s.mon with reports := rest } } else s := by
  have hsubmit : s.submit (.condition (s.conditionFor r)) .all
      = (s.setBus (s.bus.submit s.station.state (.condition (s.conditionFor r)) .all).1,
        (s.bus.submit s.station.state (.condition (s.conditionFor r)) .all).2) := rfl
  conv => lhs; unfold offerReports
  rw [hreports]
  dsimp only
  rw [hsubmit]
  cases (s.bus.submit s.station.state (.condition (s.conditionFor r)) .all).2 <;> rfl

/-- Settles O54: verdicts by the condition's state, the report set, and the submissions while the station state told allows them. -/
theorem verdictsDeclareAndReportsAreKept : Obligations.VerdictsDeclareAndReportsAreKept := by
  refine ⟨?verdict, ?deviation, ?event, fun rs kind change cause hrs => placeIn_spec hrs kind change cause, ?offer⟩
  case verdict =>
    intro s k bad cause runs limits counts bit flips
    unfold State.verdict Monitor.unmark Monitor.mark
    simp only [Monitor.setRuns_declared]
    rfl
  case deviation =>
    exact fun s out => ⟨State.followDeviation_of_same, fun _ => s.followDeviation_isDeclared out⟩
  case event => exact fun s kind cause => ⟨rfl, fun change => rfl⟩
  case offer =>
    intro s allowed claim dominantId
    have hallowed : s.mon.told.onBus = true ↔ allowed := StationState.onBus_iff _
    refine ⟨fun h => ?silent, fun r rest hon hreports => ?sends⟩
    case silent =>
      unfold State.offer
      split
      next hon =>
        rcases h with hnot | hnone
        · exact absurd (hallowed.mp hon) hnot
        · rw [hnone]
          rfl
      next => rfl
    case sends =>
      intro sent
      have hpayload : s.conditionFor r = ⟨r, s.mon.declared, s.mon.told, claim, dominantId⟩ := by
        unfold State.conditionFor
        rw [SlotMap.claimState_eq, State.dominantId_eq]
      have honBus := hallowed.mpr hon
      have hoffer : s.offer = if sent.2 then offerReports rest.length { s with bus := sent.1, mon := { s.mon with reports := rest } } else s := by
        refine (if_pos honBus).trans ?_
        rw [hreports, List.length_cons, offerReports_succ hreports, hpayload]
      have hnext : State.offer { s with bus := sent.1, mon := { s.mon with reports := rest } }
          = offerReports rest.length { s with bus := sent.1, mon := { s.mon with reports := rest } } := if_pos honBus
      refine ⟨fun htaken => ?_, fun hrefused => ?_⟩
      · rw [hoffer, if_pos htaken, hnext]
      · rw [hoffer, if_neg (Bool.eq_false_iff.mp hrefused)]

end Sys2Proof.Machine
end

section
/-! PROOFS. Setpoints, the settled request, and the hand-over (R91 to R97). -/

namespace Sys2Proof.Machine

open Sys2Proof

/-! ### The segment in force, and the drive it gives (R91 to R93) -/

theorem StationState.setpoints_iff (st : StationState) : st.setpoints = true ↔ st = .listening ∨ st = .joined ∨ st = .isolated := by
  cases st <;> simp [StationState.setpoints]

/-- Past the lengths of the segments before it, a position lies in a segment while that one lasts (R91). -/
theorem segmentAt_append (g : Segment) (post : List Segment) {pos : Nat} :
    ∀ (pre : List Segment) (start : Nat), start + (pre.map Segment.len).sum ≤ pos →
      (pos < start + (pre.map Segment.len).sum + g.len → segmentAt start (pre ++ g :: post) pos = some g)
        ∧ segmentAt start pre pos = none
  | [], start, _ => ⟨fun h => if_pos (by simpa using h), rfl⟩
  | x :: xs, start, hpos => by
    rw [List.map_cons, List.sum_cons] at hpos ⊢
    have hnot : ¬pos < start + x.len := by omega
    obtain ⟨hsome, hnone⟩ := segmentAt_append g post (pos := pos) xs (start + x.len) (by omega)
    refine ⟨fun h => ?_, (if_neg hnot).trans hnone⟩
    have hlt : pos < start + x.len + (xs.map Segment.len).sum + g.len := by omega
    exact (if_neg hnot).trans (hsome hlt)

/-- Among the runs of a pattern the ceiling is that of the first that covers the position (R93). -/
theorem ceilingAt_of_first {cycle pos : Nat} {r : Run} {k : Nat} (hr : r.covers cycle pos = true) :
    ∀ (rs : List Run) (ks : List Nat) (i : Nat), rs[i]? = some r → ks[i]? = some k →
      (∀ (j : Nat) (x : Run), j < i → rs[j]? = some x → x.covers cycle pos = false) → ceilingAt cycle pos rs ks = k
  | [], _, _, hri, _, _ => by simp at hri
  | _ :: _, [], _, _, hki, _ => by simp at hki
  | x :: _, y :: _, 0, hri, hki, _ => by
    obtain rfl : x = r := by simpa using hri
    obtain rfl : y = k := by simpa using hki
    exact if_pos hr
  | x :: xs, y :: ys, i + 1, hri, hki, hbefore => by
    have hx : x.covers cycle pos = false := hbefore 0 x (Nat.succ_pos i) rfl
    exact (if_neg (Bool.eq_false_iff.mp hx)).trans
      (ceilingAt_of_first hr xs ys i (by simpa using hri) (by simpa using hki)
        fun j z hj hz => hbefore (j + 1) z (by omega) (by simpa using hz))

theorem coversOpt_iff (slot : Nat) (c : Option ClaimPart) : coversOpt slot c = true ↔ ∃ part, c = some part ∧ part.covers slot = true := by
  cases c <;> simp [coversOpt]

theorem driveOf_setpoint (dir : Dir) (formed limit : Nat) :
    (driveOf dir formed limit).setpoint = if min formed limit = 0 then ⟨.rest, 0⟩ else ⟨dir, min formed limit⟩ := by
  unfold driveOf
  split <;> rfl

theorem driveOf_current_le (dir : Dir) (formed limit : Nat) : (driveOf dir formed limit).setpoint.current ≤ limit := by
  rw [driveOf_setpoint]
  split
  · exact Nat.zero_le limit
  · exact Nat.min_le_right formed limit

theorem State.drive_of_rest {c : Context} {slot : Nat} {g : Segment} {s : State} (hg : g.kind = .rest) :
    (s.drive c slot g).setpoint = ⟨.rest, 0⟩ := by
  unfold State.drive
  rw [hg]
  rfl

theorem State.drive_of_forward {c : Context} {slot : Nat} {g : Segment} {s : State} (hg : g.kind = .forward) :
    s.drive c slot g = driveOf .fwd (forwardCurrent g.density s.engine.area) (10 * s.cfg.forwardRating) := by
  unfold State.drive
  rw [hg]

theorem State.drive_of_reverse {c : Context} {slot : Nat} {g : Segment} {s : State} (hg : g.kind = .reverse) :
    s.drive c slot g =
      if c.mode = .normal ∧ coversOpt slot s.map.active then
        driveOf .rev (reverseCurrent g.density s.engine.area c.scale) (reverseLimit s.cfg c (c.position slot))
      else ⟨Setpoint.atRest, false, true⟩ := by
  unfold State.drive
  rw [hg]

/-- A reverse setpoint stands in a slot that the own active part covers, at most at the reverse rating (R93). -/
theorem State.drive_rev_bounds {c : Context} {slot : Nat} {g : Segment} {s : State} (h : (s.drive c slot g).setpoint.dir = .rev) :
    coversOpt slot s.map.active = true ∧ (s.drive c slot g).setpoint.current ≤ 10 * s.cfg.reverseRating := by
  cases hg : g.kind with
  | rest => rw [State.drive_of_rest hg] at h; cases h
  | forward =>
    rw [State.drive_of_forward hg, driveOf_setpoint] at h
    split at h <;> cases h
  | reverse =>
    rw [State.drive_of_reverse hg] at h ⊢
    split at h
    next hnormal =>
      rw [if_pos hnormal]
      exact ⟨hnormal.2, Nat.le_trans (driveOf_current_le _ _ _) (Nat.min_le_right _ _)⟩
    next => cases h

theorem State.slotRecordFor_setpoint_of_some {c : Context} {slot : Nat} {g : Segment} {s : State}
    (hg : segmentAt 0 c.segments (c.position slot) = some g) :
    (s.slotRecordFor c slot).setpoint = (s.drive c slot g).setpoint := by
  unfold State.slotRecordFor
  dsimp only
  rw [hg]

theorem State.slotRecordFor_setpoint_of_none {c : Context} {slot : Nat} {s : State}
    (hg : segmentAt 0 c.segments (c.position slot) = none) : (s.slotRecordFor c slot).setpoint = ⟨.rest, 0⟩ := by
  unfold State.slotRecordFor
  dsimp only
  rw [hg]
  rfl

/-- The engine's slot boundary outside a trip rest's last slot: the setpoint and the slot record of the ACTIVE context (R91 to R94). -/
theorem State.engineSlot_of_setpoints {s : State} (hset : s.station.state.setpoints = true) (hrest : s.engine.restThisSlot = false) :
    s.engineSlot.engine.setpoint = (s.slotRecordFor s.engine.active s.boundary.begun).setpoint
      ∧ s.engineSlot.dose.slotRecords.getLast? = some (s.slotRecordFor s.engine.active s.boundary.begun) := by
  have hgoverning : s.engine.governing = s.engine.active := if_neg (by simp [hrest])
  unfold State.engineSlot
  dsimp only
  rw [hgoverning, if_pos (by simpa using hset)]
  refine ⟨by simp, ?_⟩
  rw [State.takeSlotRecord_dose]
  dsimp only
  rw [List.drop_append_of_le_length (by simp), List.getLast?_append]
  rfl

/-- The setpoint of the engine's slot boundary (R91 to R94). -/
theorem State.engineSlot_forms {s : State} (hset : s.station.state.setpoints = true) (hrest : s.engine.restThisSlot = false) :
    let c := s.engine.active
    let slot := s.boundary.begun
    let pos := (slot + c.cycle - c.offset) % c.cycle
    let area := s.engine.area
    let sp := s.engineSlot.engine.setpoint
    let driven (d : Dir) (n : Nat) : Setpoint := if n = 0 then ⟨.rest, 0⟩ else ⟨d, n⟩
    let covered := ∃ part, s.map.active = some part ∧ part.covers slot = true
    (segmentAt 0 c.segments pos = none → sp = ⟨.rest, 0⟩)
      ∧ (∀ g, segmentAt 0 c.segments pos = some g →
        (g.kind = .rest → sp = ⟨.rest, 0⟩)
          ∧ (g.kind = .forward → sp = driven .fwd (min (g.density * area / 1000) (10 * s.cfg.forwardRating)))
          ∧ (g.kind = .reverse → ¬(c.mode = .normal ∧ covered) → sp = ⟨.rest, 0⟩)
          ∧ (g.kind = .reverse → c.mode = .normal → covered → ∀ (p : Pattern) (i : Nat) (r : Run) (k : Nat),
            c.pattern = some p → p.runs[i]? = some r →
            c.ceilings[i]? = some k → r.covers c.cycle pos = true →
            (∀ (j : Nat) (x : Run), j < i → p.runs[j]? = some x → x.covers c.cycle pos = false) →
            sp = driven .rev (min (g.density * area * c.scale / 8000) (min (10 * k) (10 * s.cfg.reverseRating)))))
      ∧ (sp.dir = .rev → covered ∧ sp.current ≤ 10 * s.cfg.reverseRating)
      ∧ ∃ r, s.engineSlot.dose.slotRecords.getLast? = some r ∧ r.slot = slot ∧ r.setpoint = sp ∧ r.mode = c.mode ∧ r.key = c.key
        ∧ r.cycle = c.cycle := by
  intro c slot pos area sp driven covered
  obtain ⟨hsp, hlast⟩ := State.engineSlot_of_setpoints hset hrest
  have hcovered : coversOpt slot s.map.active = true ↔ covered := coversOpt_iff slot s.map.active
  have hsome (g : Segment) (hg : segmentAt 0 c.segments pos = some g) : sp = (s.drive c slot g).setpoint :=
    hsp.trans (State.slotRecordFor_setpoint_of_some hg)
  have hnone (hg : segmentAt 0 c.segments pos = none) : sp = ⟨.rest, 0⟩ := hsp.trans (State.slotRecordFor_setpoint_of_none hg)
  refine ⟨hnone, fun g hg => ⟨fun hk => ?_, fun hk => ?_, fun hk hnot => ?_, fun hk hmode hcov p i r k hp hr hceil hcovers hfirst => ?_⟩,
    fun hrev => ?reverse, _, hlast, rfl, hsp.symm, rfl, rfl, rfl⟩
  · exact (hsome g hg).trans (State.drive_of_rest hk)
  · rw [hsome g hg, State.drive_of_forward hk]
    exact driveOf_setpoint _ _ _
  · rw [hsome g hg, State.drive_of_reverse hk, if_neg fun h => hnot ⟨h.1, hcovered.mp h.2⟩]
    rfl
  · have hlimit : reverseLimit s.cfg c pos = min (10 * k) (10 * s.cfg.reverseRating) := by
      unfold reverseLimit
      rw [hp]
      dsimp only
      rw [ceilingAt_of_first hcovers p.runs c.ceilings i hr hceil hfirst]
    rw [hsome g hg, State.drive_of_reverse hk, if_pos ⟨hmode, hcovered.mpr hcov⟩]
    refine (driveOf_setpoint _ _ _).trans ?_
    rw [show c.position slot = pos from rfl, hlimit]
    rfl
  case reverse =>
    cases hg : segmentAt 0 c.segments pos with
    | none => rw [hnone hg] at hrev; cases hrev
    | some g =>
      have heq := hsome g hg
      rw [heq] at hrev
      obtain ⟨hcov, hle⟩ := State.drive_rev_bounds hrev
      exact ⟨hcovered.mp hcov, heq ▸ hle⟩

/-! ### The settled request (R97) -/

theorem State.settled_of_forwardOnly {s : State} (hset : s.station.state.setpoints = true) (hmode : s.engine.active.mode = .forwardOnly)
    (hpattern : s.engine.active.pattern ≠ none) : s.settled = (.active, s.engine.active.pattern) :=
  (if_pos hset).trans (if_pos ⟨hmode, Option.isSome_iff_ne_none.mpr hpattern⟩)

theorem State.settled_of_prepared {s : State} (hset : s.station.state.setpoints = true)
    (hnot : ¬(s.engine.active.mode = .forwardOnly ∧ s.engine.active.pattern ≠ none)) :
    (s.engine.prepared = none → s.settled = (.none, none))
      ∧ ∀ x, s.engine.prepared = some x →
        s.settled = if x.ready = false ∨ x.readyByFailure = true then (.prepared, x.pattern) else (.none, none) := by
  have hactive : ¬(s.engine.active.mode = .forwardOnly ∧ s.engine.active.pattern.isSome) :=
    fun h => hnot ⟨h.1, Option.isSome_iff_ne_none.mp h.2⟩
  unfold State.settled
  rw [if_pos hset, if_neg hactive]
  refine ⟨fun h => ?_, fun x h => ?_⟩
  all_goals rw [h]

end Sys2Proof.Machine
end

section
/-! PROOFS. The frame boundary hand-over, step by step (R95, R96). -/

namespace Sys2Proof.Machine

open Sys2Proof

/-! ### The contexts that are built for a carrier (R88, R89) -/

/-- The re-decided mode of a context moves nothing that its recipe gave it (R89). -/
theorem State.decideMode_recipe (c : Context) (s : State) : (s.decideMode c).segments = c.segments ∧ (s.decideMode c).cycle = c.cycle
    ∧ (s.decideMode c).pattern = c.pattern := by
  unfold State.decideMode
  split
  next => exact ⟨rfl, rfl, rfl⟩
  next => split <;> exact ⟨rfl, rfl, rfl⟩

theorem State.contextFor_none {s : State} (hset : s.station.state.setpoints = true) : s.contextFor none = Context.bare .rest none :=
  if_pos hset

theorem State.contextFor_of_noRecipe {s : State} (hset : s.station.state.setpoints = true) {tag : Nat} (h : s.carrierRecipe tag = none) :
    s.contextFor (some tag) = holdingContext s.cfg tag := by
  unfold State.contextFor
  rw [if_pos hset]
  dsimp only
  rw [h]

theorem State.contextFor_carrier {s : State} (hset : s.station.state.setpoints = true) (carrier : Option Nat) :
    (s.contextFor carrier).carrier = carrier := by
  cases carrier with
  | none => rw [State.contextFor_none hset]; rfl
  | some tag =>
    cases hr : s.carrierRecipe tag with
    | none => rw [State.contextFor_of_noRecipe hset hr]; rfl
    | some r =>
      rw [State.contextFor_of_recipe hset hr]
      exact (s.decideMode_names _).1

/-- The entry of a carrier: in the table, or as it left it (R50, R88; log 21). -/
theorem State.carrier?_of_stands {s : State} {tag : Nat} {e : Entry}
    (h : s.entry? tag = some e ∨ (s.entry? tag = none ∧ s.tracker.departed.find? (fun x => x.tag == tag) = some e)) :
    s.carrier? tag = some e := by
  obtain h | ⟨hnone, h⟩ := h
  · exact State.carrier?_of_entry h
  · rw [State.carrier?_of_departed hnone, h]

theorem State.carrierRecipe_of_carrier {s : State} {tag : Nat} {e : Entry} (h : s.carrier? tag = some e) :
    s.carrierRecipe tag = if e.recipePending then none else s.recipeOf e := by
  unfold State.carrierRecipe
  rw [h]

theorem State.namedKey_of_carrier {s : State} {tag : Nat} {e : Entry} (h : s.carrier? tag = some e) :
    s.namedKey (some tag) = e.record.recipe := by
  unfold State.namedKey
  dsimp only
  rw [h]

/-- A carrier without a held recipe is plated in HOLDING (R88). -/
theorem State.contextFor_of_holding {s : State} (hset : s.station.state.setpoints = true) {tag : Nat} {e : Entry}
    (he : s.carrier? tag = some e) (h : e.recipePending = true ∨ e.record.recipe = none) :
    s.contextFor (some tag) = holdingContext s.cfg tag := by
  refine State.contextFor_of_noRecipe hset ?_
  rw [State.carrierRecipe_of_carrier he]
  obtain h | h := h
  · rw [if_pos h]
  · simp [State.recipeOf, h]

/-- A carrier is plated under the held recipe it names (R88). -/
theorem State.contextFor_of_held {s : State} (hset : s.station.state.setpoints = true) {tag : Nat} {e : Entry} {k : Key} {r : Recipe}
    (he : s.carrier? tag = some e) (hpending : e.recipePending = false) (hk : e.record.recipe = some k) (hr : s.cache.recipe? k = some r) :
    (s.contextFor (some tag)).key = some r.key ∧ (s.contextFor (some tag)).segments = r.segments
      ∧ (s.contextFor (some tag)).cycle = r.cycle ∧ (s.contextFor (some tag)).pattern = r.pattern := by
  have hrecipe : s.carrierRecipe tag = some r := by
    rw [State.carrierRecipe_of_carrier he, hpending]
    simpa [State.recipeOf, hk] using hr
  rw [State.contextFor_of_recipe hset hrecipe]
  obtain ⟨hsegments, hcycle, hpattern⟩ := s.decideMode_recipe
    { Context.bare .normal (some tag) with
      key := some r.key, cycle := r.cycle, segments := r.segments, pattern := r.pattern, needsClaim := r.pattern.isSome }
  exact ⟨(s.decideMode_names _).2, hsegments, hcycle, hpattern⟩

/-! ### Steps 1 to 6 -/

theorem State.dropStale_engine (f : Option Nat) (s : State) : (s.dropStale f).engine
    = { s.engine with prepared := s.engine.prepared.filter fun c => c.carrier = f } := by
  unfold State.dropStale
  cases h : s.engine.prepared with
  | none => dsimp only; rw [Option.filter_none, ← h]
  | some c =>
    have hfilter : (some c).filter (fun c => c.carrier = f) = if c.carrier = f then some c else none := by
      simp [Option.filter]
    dsimp only
    rw [hfilter]
    split
    next => rw [← h]
    next => simp [State.discardPrepared]

theorem State.dropStale_prepared_iff (f : Option Nat) (s : State) (x : Context) :
    (s.dropStale f).engine.prepared = some x ↔ s.engine.prepared = some x ∧ x.carrier = f := by
  rw [State.dropStale_engine]
  simp

theorem State.dropStale_of_none {f : Option Nat} {s : State} (h : s.engine.prepared = none) : s.dropStale f = s := by
  unfold State.dropStale
  rw [h]

theorem Engine.readyFor_iff (d : Option Nat) (e : Engine) :
    e.readyFor d = true ↔ ∃ x, e.prepared = some x ∧ x.ready = true ∧ x.carrier = d := by
  unfold Engine.readyFor
  cases e.prepared <;> simp

theorem State.goneCarrier_iff (carrier : Option Nat) (s : State) :
    s.goneCarrier carrier = true ↔ ∀ tag, carrier = some tag → s.entry? tag = none := by
  unfold State.goneCarrier
  cases carrier <;> simp

theorem State.mustRebuild_iff (d : Option Nat) (s : State) : s.mustRebuild d = true
    ↔ d ≠ s.engine.active.carrier
      ∧ (d ≠ s.engine.lastDominant ∨ ∀ tag, s.engine.active.carrier = some tag → s.entry? tag = none) := by
  unfold State.mustRebuild
  rw [Bool.and_eq_true, Bool.or_eq_true, bne_iff_ne, bne_iff_ne, State.goneCarrier_iff]

theorem State.dropPreparedFor_engine (d : Option Nat) (s : State) :
    ∃ p, (p = none ∨ p = s.engine.prepared) ∧ (s.dropPreparedFor d).engine = { s.engine with prepared := p } := by
  unfold State.dropPreparedFor
  split
  next => exact ⟨none, .inl rfl, by simp [State.discardPrepared]⟩
  next => exact ⟨_, .inr rfl, rfl⟩

/-- LATE on the dominant carrier's open record (R95, R104). -/
theorem State.markLate_dose {tag : Nat} {s : State} :
    (s.engine.active.mode = .forwardOnly → s.station.state = .joined → (s.markLate (some tag)).dose.records
        = s.dose.records.map fun r => if r.tag = tag then { r with flags := r.flags ||| 0x1000#16 } else r)
      ∧ (¬(s.engine.active.mode = .forwardOnly ∧ s.station.state = .joined) → (s.markLate (some tag)).dose = s.dose) := by
  have hmask : ZoneFlag.late.mask = 0x1000#16 := by decide
  unfold State.markLate
  refine ⟨fun hmode hstate => ?_, fun hnot => by rw [if_neg hnot]⟩
  rw [if_pos ⟨hmode, hstate⟩]
  refine List.map_congr_left fun r _ => ?_
  simp [OpenRecord.set, hmask]

/-- Steps 2 to 4 keep the station and the PREPARED context, or leave none (R95). -/
theorem State.followDominant_prepared {d : Option Nat} {s : State} {x : Context}
    (h : (s.followDominant d).engine.prepared = some x) : s.engine.prepared = some x := by
  unfold State.followDominant at h
  split at h
  next hready =>
    obtain ⟨y, hy, -⟩ := (Engine.readyFor_iff d s.engine).mp hready
    rw [State.swapPrepared_engine hy] at h
    cases h
  next =>
    split at h
    next =>
      obtain ⟨p, hp, hengine⟩ := State.dropPreparedFor_engine d ((s.buildActive d).markLate d)
      rw [hengine] at h
      obtain rfl | rfl := hp
      · cases h
      · simpa [State.buildActive_engine] using h
    next =>
      split at h
      next => simpa [State.buildActive_engine] using h
      next => exact h

theorem State.followDominant_of_ready {d : Option Nat} {s : State} {x : Context} (hx : s.engine.prepared = some x)
    (hready : x.ready = true) (hd : x.carrier = d) :
    (s.followDominant d).engine = { s.engine with active := (if x.key.isSome then s.decideMode x else x).activated, prepared := none }
      ∧ (s.followDominant d).dose = s.dose := by
  have h : s.followDominant d = s.swapPrepared := if_pos ((Engine.readyFor_iff d s.engine).mpr ⟨x, hx, hready, hd⟩)
  rw [h]
  exact ⟨State.swapPrepared_engine hx, by simp⟩

theorem State.followDominant_of_rebuild {d : Option Nat} {s : State} (hready : s.engine.readyFor d = false)
    (h : s.mustRebuild d = true) : s.followDominant d = ((s.buildActive d).markLate d).dropPreparedFor d :=
  (if_neg (Bool.eq_false_iff.mp hready)).trans (if_pos h)

theorem State.followDominant_of_changed {tag : Nat} {s : State} (hready : s.engine.readyFor (some tag) = false)
    (hd : some tag = s.engine.active.carrier) (h : s.namedKey (some tag) ≠ s.engine.active.key) :
    s.followDominant (some tag) = s.buildActive (some tag) := by
  have hnot : ¬s.mustRebuild (some tag) = true := fun hm => ((s.mustRebuild_iff _).mp hm).1 hd
  exact (if_neg (Bool.eq_false_iff.mp hready)).trans ((if_neg hnot).trans (if_pos ⟨hd, rfl, h⟩))

theorem State.followDominant_of_stays {d : Option Nat} {s : State} (hready : s.engine.readyFor d = false)
    (hnot : s.mustRebuild d = false) (h : d = s.engine.active.carrier → d.isSome → s.namedKey d = s.engine.active.key) :
    s.followDominant d = s :=
  (if_neg (Bool.eq_false_iff.mp hready)).trans
    ((if_neg (Bool.eq_false_iff.mp hnot)).trans (if_neg fun ⟨hd, hsome, hne⟩ => hne (h hd hsome)))

theorem State.restIfNone_of_some (tag : Nat) (s : State) : s.restIfNone (some tag) = s := if_neg fun h => Bool.false_ne_true h.1

theorem State.restIfNone_of_rest {d : Option Nat} {s : State} (h : s.engine.active.mode = .rest) : s.restIfNone d = s :=
  if_neg fun hnot => hnot.2 h

theorem State.restIfNone_prepared (d : Option Nat) (s : State) : (s.restIfNone d).engine.prepared = s.engine.prepared := by
  unfold State.restIfNone
  split
  next => rw [State.buildActive_engine]
  next => rfl

theorem State.prepareFor_engine (f : Option Nat) (s : State) : ∃ p, (s.prepareFor f).engine = { s.engine with prepared := p } := by
  unfold State.prepareFor
  split
  next =>
    split
    next => exact ⟨_, by simp [State.buildPrepared]; rfl⟩
    next => exact ⟨_, rfl⟩
  next => exact ⟨_, rfl⟩

theorem State.prepareFor_of_governing {f : Option Nat} {s : State} (h : f = s.engine.active.carrier) : s.prepareFor f = s := by
  unfold State.prepareFor
  split
  next => exact if_neg fun hnot => hnot.1 h
  next => rfl

/-- Step 6 leaves a PREPARED context for F where F does not govern already (R95). -/
theorem State.prepareFor_prepared {f : Option Nat} {s : State} (hset : s.station.state.setpoints = true)
    (h : ∀ x, s.engine.prepared = some x → x.carrier = f) :
    (∀ x, (s.prepareFor f).engine.prepared = some x → x.carrier = f)
      ∧ (f ≠ none → f ≠ s.engine.active.carrier → ∃ x, (s.prepareFor f).engine.prepared = some x) := by
  cases f with
  | none => exact ⟨h, fun hnone => absurd rfl hnone⟩
  | some tag =>
    cases hp : s.engine.prepared with
    | some y =>
      have hsame : s.prepareFor (some tag) = s := if_neg fun hnot => by simp [hp] at hnot
      rw [hsame]
      exact ⟨h, fun _ _ => ⟨y, hp⟩⟩
    | none =>
      by_cases hgoverns : some tag = s.engine.active.carrier
      · rw [State.prepareFor_of_governing hgoverns]
        exact ⟨h, fun _ hne => absurd hgoverns hne⟩
      · have hbuilt : s.prepareFor (some tag) = s.buildPrepared tag := if_pos ⟨hgoverns, by rw [hp]; rfl⟩
        rw [hbuilt]
        refine ⟨fun x hx => ?_, fun _ _ => ⟨_, by simp [State.buildPrepared]; rfl⟩⟩
        have hx' : { s.contextFor (some tag) with
            ready := (s.pinContext (s.contextFor (some tag)).key).readyAtBuild (s.contextFor (some tag)) } = x := by
          simpa [State.buildPrepared] using hx
        rw [← hx']
        exact State.contextFor_carrier hset (some tag)

/-- Step 7 moves the request and its owner alone (R95, R97). -/
theorem State.settleAfter_engine (stale : Bool) (s : State) :
    (s.settleAfter stale).engine = { s.engine with owner := s.settled.1, requested := s.settled.2 } := by
  unfold State.settleAfter
  split
  next =>
    have hsettled : s.cancelRequest.settled = s.settled := by
      refine State.settled_of_eq (by simp) ?_ ?_
      all_goals rw [State.cancelRequest_engine]
    rw [State.settle_engine, hsettled, State.cancelRequest_engine]
  next => exact s.settle_engine

end Sys2Proof.Machine
end

section
/-! PROOFS. The frame boundary hand-over as a whole (R95, R96). -/

namespace Sys2Proof.Machine

open Sys2Proof

/-! ### The state that step 5 leaves -/

/-- Steps 1 to 5 of the hand-over; during a trip rest without the swap and the rebuild (R95, R103). -/
def State.governed (d f : Option Nat) (s : State) : State :=
  (if (s.dropStale f).engine.tripRest then s.dropStale f else (s.dropStale f).followDominant d).restIfNone d

theorem State.handOver_of_off {d f : Option Nat} {s : State} (h : s.engine.active.mode = .off) :
    s.handOver d f = s.setEngine { s.engine with lastDominant := d } := if_pos h

theorem State.handOver_of_running {d f : Option Nat} {s : State} (h : s.engine.active.mode ≠ .off) :
    ∃ stale, s.handOver d f = (((s.governed d f).prepareFor f).settleAfter stale).setEngine
      { (((s.governed d f).prepareFor f).settleAfter stale).engine with lastDominant := d } :=
  ⟨s.engine.staleOwner f, if_neg h⟩

theorem State.handOver_lastDominant (d f : Option Nat) (s : State) : (s.handOver d f).engine.lastDominant = d := by
  by_cases h : s.engine.active.mode = .off
  · rw [State.handOver_of_off h]; rfl
  · obtain ⟨stale, hu⟩ := State.handOver_of_running (d := d) (f := f) h
    rw [hu]; rfl

/-- Steps 6 and 7 leave the ACTIVE context and the dose integrator alone. -/
theorem State.handOver_leavesGoverned {d f : Option Nat} {s : State} (h : s.engine.active.mode ≠ .off) :
    (s.handOver d f).engine.active = (s.governed d f).engine.active ∧ (s.handOver d f).dose = (s.governed d f).dose
      ∧ (s.handOver d f).engine.prepared = ((s.governed d f).prepareFor f).engine.prepared
      ∧ ((s.handOver d f).engine.owner, (s.handOver d f).engine.requested) = (s.handOver d f).settled := by
  obtain ⟨stale, hu⟩ := State.handOver_of_running (d := d) (f := f) h
  obtain ⟨p, hp⟩ := State.prepareFor_engine f (s.governed d f)
  have hengine := State.settleAfter_engine stale ((s.governed d f).prepareFor f)
  rw [hu]
  refine ⟨?_, by simp, ?_, ?_⟩
  · simp [hengine, hp]
  · simp [hengine]
  · have hsettled : ((((s.governed d f).prepareFor f).settleAfter stale).setEngine
        { (((s.governed d f).prepareFor f).settleAfter stale).engine with lastDominant := d }).settled
        = ((s.governed d f).prepareFor f).settled := by
      refine State.settled_of_eq (by simp) ?_ ?_
      all_goals simp [hengine]
    rw [hsettled]
    simp [hengine]

theorem State.governed_of_running {d f : Option Nat} {s : State} (h : s.engine.tripRest = false) :
    s.governed d f = ((s.dropStale f).followDominant d).restIfNone d := by
  have hnot : ¬(s.dropStale f).engine.tripRest = true := by simp [State.dropStale_engine, h]
  unfold State.governed
  rw [if_neg hnot]

theorem State.governed_station (d f : Option Nat) (s : State) : (s.governed d f).station = s.station := by
  unfold State.governed
  split <;> simp

/-- After step 1 every PREPARED context is for F, and no later step makes another (R95). -/
theorem State.governed_prepared {d f : Option Nat} {s : State} {x : Context} (h : (s.governed d f).engine.prepared = some x) :
    x.carrier = f := by
  unfold State.governed at h
  rw [State.restIfNone_prepared] at h
  split at h
  next => exact ((s.dropStale_prepared_iff f x).mp h).2
  next => exact ((s.dropStale_prepared_iff f x).mp (State.followDominant_prepared h)).2

/-- What the hand-over leaves of the PREPARED context (R95, steps 1 and 6). -/
theorem State.handOver_prepared {d f : Option Nat} {s : State} (h : s.engine.active.mode ≠ .off)
    (hset : s.station.state.setpoints = true) :
    (∀ x, (s.handOver d f).engine.prepared = some x → x.carrier = f)
      ∧ (f ≠ none → f ≠ (s.handOver d f).engine.active.carrier → ∃ x, (s.handOver d f).engine.prepared = some x) := by
  obtain ⟨hactive, _, hprepared, _⟩ := State.handOver_leavesGoverned (d := d) (f := f) h
  rw [hactive, hprepared]
  exact State.prepareFor_prepared (by rw [State.governed_station]; exact hset) fun _ hx => State.governed_prepared hx

/-- During a trip rest the REST context stays (R103). -/
theorem State.handOver_of_tripRest {d f : Option Nat} {s : State} (hrest : s.engine.tripRest = true)
    (hmode : s.engine.active.mode = .rest) :
    (s.handOver d f).engine.active = s.engine.active ∧ (s.handOver d f).dose = s.dose := by
  obtain ⟨hactive, hdose, _⟩ := State.handOver_leavesGoverned (d := d) (f := f) (s := s) (by simp [hmode])
  have hstale : (s.dropStale f).engine.tripRest = true := by simp [State.dropStale_engine, hrest]
  have hgoverned : s.governed d f = s.dropStale f := by
    unfold State.governed
    rw [if_pos hstale]
    exact State.restIfNone_of_rest (by simp [State.dropStale_engine, hmode])
  rw [hactive, hdose, hgoverned]
  exact ⟨by simp [State.dropStale_engine], by simp⟩

/-! ### Steps 2 to 5 outside a trip rest -/

section Running

variable {d f : Option Nat} {s : State}

/-- The swap (R95, step 2). -/
theorem State.handOver_of_ready (hmode : s.engine.active.mode ≠ .off) (hrest : s.engine.tripRest = false) {x : Context}
    (hx : s.engine.prepared = some x) (hf : x.carrier = f) (hready : x.ready = true) (hd : x.carrier = d) (hsome : x.carrier ≠ none) :
    (s.handOver d f).engine.active.carrier = d ∧ (s.handOver d f).engine.active.key = x.key
      ∧ (s.handOver d f).engine.active.segments = x.segments
      ∧ (s.handOver d f).engine.prepared = none ∧ (s.handOver d f).dose = s.dose := by
  obtain ⟨tag, htag⟩ := Option.ne_none_iff_exists'.mp (hd ▸ hsome)
  obtain ⟨hactive, hdose, hprepared, _⟩ := State.handOver_leavesGoverned (d := d) (f := f) hmode
  obtain ⟨hengine, hkept⟩ := State.followDominant_of_ready ((s.dropStale_prepared_iff f x).mpr ⟨hx, hf⟩) hready hd
  have hgoverned : s.governed d f = (s.dropStale f).followDominant d := by
    rw [State.governed_of_running hrest, htag]
    exact State.restIfNone_of_some tag _
  have hnew : (s.governed d f).engine.active = (if x.key.isSome then (s.dropStale f).decideMode x else x).activated := by
    rw [hgoverned, hengine]
  have hnames : (s.governed d f).engine.active.carrier = x.carrier ∧ (s.governed d f).engine.active.key = x.key
      ∧ (s.governed d f).engine.active.segments = x.segments := by
    obtain ⟨hcarrier, hkey⟩ := (s.dropStale f).decideMode_names x
    obtain ⟨hsegments, _⟩ := (s.dropStale f).decideMode_recipe x
    rw [hnew]
    unfold Context.activated
    split
    · exact ⟨hcarrier, hkey, hsegments⟩
    · exact ⟨rfl, rfl, rfl⟩
  obtain ⟨hcarrier, hkey, hsegments⟩ := hnames
  have hnoPrepared : (s.governed d f).engine.prepared = none := by rw [hgoverned, hengine]
  rw [hactive, hdose, hprepared, State.prepareFor_of_governing (by rw [hcarrier, hf])]
  refine ⟨hcarrier.trans hd, hkey, hsegments, hnoPrepared, ?_⟩
  rw [hgoverned, hkept]
  simp

/-- The PREPARED context that step 1 leaves is not ready for D. -/
theorem State.dropStale_readyFor_of_not
    (h : ¬∃ x, s.engine.prepared = some x ∧ x.carrier = f ∧ x.ready = true ∧ x.carrier = d) :
    (s.dropStale f).engine.readyFor d = false := by
  rw [Bool.eq_false_iff]
  intro hready
  obtain ⟨x, hx, hxready, hxd⟩ := (Engine.readyFor_iff _ _).mp hready
  obtain ⟨hx, hxf⟩ := (s.dropStale_prepared_iff f x).mp hx
  exact h ⟨x, hx, hxf, hxready, hxd⟩

theorem State.dropStale_mustRebuild : (s.dropStale f).mustRebuild d = s.mustRebuild d := by
  have hentry (tag : Nat) : (s.dropStale f).entry? tag = s.entry? tag := by simp [State.entry?]
  unfold State.mustRebuild State.goneCarrier
  simp [State.dropStale_engine, hentry]

/-- The ACTIVE context is built for the new dominant carrier (R95, step 3). -/
theorem State.handOver_of_rebuild (hmode : s.engine.active.mode ≠ .off) (hrest : s.engine.tripRest = false) {tag : Nat}
    (hready : (s.dropStale f).engine.readyFor (some tag) = false) (hm : s.mustRebuild (some tag) = true) :
    (s.handOver (some tag) f).engine.active = (s.dropStale f).contextFor (some tag)
      ∧ ((s.handOver (some tag) f).engine.active.mode = .forwardOnly → s.station.state = .joined →
        (s.handOver (some tag) f).dose.records
          = s.dose.records.map fun r => if r.tag = tag then { r with flags := r.flags ||| 0x1000#16 } else r)
      ∧ (¬((s.handOver (some tag) f).engine.active.mode = .forwardOnly ∧ s.station.state = .joined) →
        (s.handOver (some tag) f).dose = s.dose) := by
  obtain ⟨hactive, hdose, _⟩ := State.handOver_leavesGoverned (d := some tag) (f := f) hmode
  have hgoverned : s.governed (some tag) f
      = (((s.dropStale f).buildActive (some tag)).markLate (some tag)).dropPreparedFor (some tag) := by
    rw [State.governed_of_running hrest, State.restIfNone_of_some,
      State.followDominant_of_rebuild hready (State.dropStale_mustRebuild.trans hm)]
  obtain ⟨p, -, hengine⟩ := State.dropPreparedFor_engine (some tag) (((s.dropStale f).buildActive (some tag)).markLate (some tag))
  have hbuilt : ((s.dropStale f).buildActive (some tag)).engine.active = (s.dropStale f).contextFor (some tag) := by
    rw [State.buildActive_engine]
    exact if_neg (by simp [State.dropStale_engine, hrest])
  have hnew : (s.handOver (some tag) f).engine.active = (s.dropStale f).contextFor (some tag) := by
    rw [hactive, hgoverned, hengine, ← hbuilt]
    simp
  have hmarked : (s.handOver (some tag) f).dose = (((s.dropStale f).buildActive (some tag)).markLate (some tag)).dose := by
    rw [hdose, hgoverned]
    simp
  have hstation : ((s.dropStale f).buildActive (some tag)).station = s.station := by simp
  have hbefore : ((s.dropStale f).buildActive (some tag)).dose = s.dose := by simp
  obtain ⟨hlate, hnot⟩ := State.markLate_dose (tag := tag) (s := (s.dropStale f).buildActive (some tag))
  rw [hbuilt, hstation, hbefore] at hlate hnot
  rw [hnew, hmarked]
  exact ⟨rfl, hlate, hnot⟩

/-- The ACTIVE context is built anew for the recipe that its carrier names now (R95, step 4). -/
theorem State.handOver_of_changed (hmode : s.engine.active.mode ≠ .off) (hrest : s.engine.tripRest = false) {tag : Nat}
    (hready : (s.dropStale f).engine.readyFor (some tag) = false) (hd : some tag = s.engine.active.carrier)
    (h : s.namedKey (some tag) ≠ s.engine.active.key) :
    (s.handOver (some tag) f).engine.active = (s.dropStale f).contextFor (some tag)
      ∧ (s.handOver (some tag) f).dose = s.dose := by
  obtain ⟨hactive, hdose, _⟩ := State.handOver_leavesGoverned (d := some tag) (f := f) hmode
  have hkey : (s.dropStale f).namedKey (some tag) ≠ (s.dropStale f).engine.active.key := by
    have hnamed : (s.dropStale f).namedKey (some tag) = s.namedKey (some tag) := by
      simp [State.namedKey, State.carrier?, State.entry?]
    rw [hnamed, State.dropStale_engine]
    exact h
  have hgoverned : s.governed (some tag) f = (s.dropStale f).buildActive (some tag) := by
    rw [State.governed_of_running hrest, State.restIfNone_of_some,
      State.followDominant_of_changed hready (by rw [State.dropStale_engine]; exact hd) hkey]
  rw [hactive, hdose, hgoverned, State.buildActive_engine]
  exact ⟨if_neg (by simp [State.dropStale_engine, hrest]), by simp⟩

/-- A dominant carrier that calls for no step leaves the ACTIVE context (R95). -/
theorem State.handOver_of_stays (hmode : s.engine.active.mode ≠ .off) (hrest : s.engine.tripRest = false) {tag : Nat}
    (hready : (s.dropStale f).engine.readyFor (some tag) = false) (hm : s.mustRebuild (some tag) = false)
    (h : some tag = s.engine.active.carrier → s.namedKey (some tag) = s.engine.active.key) :
    (s.handOver (some tag) f).engine.active = s.engine.active ∧ (s.handOver (some tag) f).dose = s.dose := by
  obtain ⟨hactive, hdose, _⟩ := State.handOver_leavesGoverned (d := some tag) (f := f) hmode
  have hnamed : (s.dropStale f).namedKey (some tag) = s.namedKey (some tag) := by
    simp [State.namedKey, State.carrier?, State.entry?]
  have hgoverned : s.governed (some tag) f = s.dropStale f := by
    rw [State.governed_of_running hrest, State.restIfNone_of_some]
    refine State.followDominant_of_stays hready (State.dropStale_mustRebuild.trans hm) fun hd _ => ?_
    rw [hnamed, State.dropStale_engine]
    rw [State.dropStale_engine] at hd
    exact h hd
  rw [hactive, hdose, hgoverned]
  exact ⟨by rw [State.dropStale_engine], by simp⟩

/-- With no dominant carrier the ACTIVE context is REST (R95, step 5). -/
theorem State.handOver_of_noDominant (hmode : s.engine.active.mode ≠ .off) (hrest : s.engine.tripRest = false)
    (hset : s.station.state.setpoints = true) (hready : (s.dropStale f).engine.readyFor none = false)
    (hnotRest : s.engine.active.mode ≠ .rest) :
    (s.handOver none f).engine.active = Context.bare .rest none ∧ (s.handOver none f).dose = s.dose := by
  obtain ⟨hactive, hdose, _⟩ := State.handOver_leavesGoverned (d := none) (f := f) hmode
  have htrip : (s.dropStale f).engine.tripRest = false := by simp [State.dropStale_engine, hrest]
  have hstation : (s.dropStale f).station = s.station := by simp
  have hbuilt : ((s.dropStale f).buildActive none).engine.active = Context.bare .rest none := by
    rw [State.buildActive_engine, htrip]
    exact State.contextFor_none (by rw [hstation]; exact hset)
  rw [hactive, hdose, State.governed_of_running hrest]
  cases hm : (s.dropStale f).mustRebuild none with
  | true =>
    have hunmarked : ((s.dropStale f).buildActive none).markLate none = (s.dropStale f).buildActive none := by
      unfold State.markLate
      exact if_neg fun h => by rw [hbuilt] at h; cases h.1
    obtain ⟨p, -, hengine⟩ := State.dropPreparedFor_engine none ((s.dropStale f).buildActive none)
    have hnew : (((s.dropStale f).buildActive none).dropPreparedFor none).engine.active = Context.bare .rest none := by
      rw [hengine]
      exact hbuilt
    rw [State.followDominant_of_rebuild hready hm, hunmarked, State.restIfNone_of_rest (by rw [hnew]; rfl)]
    exact ⟨hnew, by simp⟩
  | false =>
    have hrestNow : (s.dropStale f).restIfNone none = (s.dropStale f).buildActive none := by
      refine if_pos ⟨rfl, ?_⟩
      rw [State.dropStale_engine]
      exact hnotRest
    rw [State.followDominant_of_stays hready hm (fun _ h => absurd h Bool.false_ne_true), hrestNow]
    exact ⟨hbuilt, by simp⟩

end Running

/-- The hand-over outside a trip rest, by the step that D calls for (R95, steps 2 to 5). -/
theorem State.handOver_follows {s : State} {d f : Option Nat} (hprepared : ∀ c, s.engine.prepared = some c → c.carrier ≠ none)
    (hmode : s.engine.active.mode ≠ .off) (hset : s.station.state.setpoints = true) (hrest : s.engine.tripRest = false) :
    let u := s.handOver d f
    let c := s.engine.active
    let readyForD := ∃ x, s.engine.prepared = some x ∧ x.carrier = f ∧ x.ready = true ∧ x.carrier = d
    let stands (tag : Nat) (e : Entry) := s.entry? tag = some e
      ∨ (s.entry? tag = none ∧ s.tracker.departed.find? (fun x => x.tag == tag) = some e)
    let gone (a : Option Nat) := ∀ tag, a = some tag → s.entry? tag = none
    let rebuilds := d ≠ c.carrier ∧ (d ≠ s.engine.lastDominant ∨ gone c.carrier)
    (readyForD → ∀ x, s.engine.prepared = some x →
      u.engine.active.carrier = d ∧ u.engine.active.key = x.key ∧ u.engine.active.segments = x.segments
        ∧ u.engine.prepared = none ∧ u.dose = s.dose)
      ∧ (¬readyForD → rebuilds → ∀ tag, d = some tag →
        u.engine.active.carrier = d
          ∧ (u.engine.active.mode = .forwardOnly → s.station.state = .joined →
            u.dose.records = s.dose.records.map fun r => if r.tag = tag then { r with flags := r.flags ||| 0x1000#16 } else r)
          ∧ (¬(u.engine.active.mode = .forwardOnly ∧ s.station.state = .joined) → u.dose = s.dose)
          ∧ (s.engine.prepared = none → ∀ e, stands tag e →
            (e.recipePending = true ∨ e.record.recipe = none →
              u.engine.active.mode = .holding ∧ u.engine.active.key = none
                ∧ u.engine.active.segments = [⟨.forward, 64, s.cfg.holdingDensity⟩])
              ∧ ∀ k r, e.recipePending = false → e.record.recipe = some k → s.cache.recipe? k = some r →
                u.engine.active.key = some r.key ∧ u.engine.active.segments = r.segments
                  ∧ u.engine.active.cycle = r.cycle ∧ u.engine.active.pattern = r.pattern))
      ∧ (∀ tag e, d = some tag → d = c.carrier → ¬readyForD → stands tag e →
        (e.record.recipe = c.key → u.engine.active = c ∧ u.dose = s.dose)
          ∧ (e.record.recipe ≠ c.key →
            u.engine.active.carrier = d ∧ u.dose = s.dose
              ∧ ∀ k r, s.engine.prepared = none → e.recipePending = false →
                e.record.recipe = some k → s.cache.recipe? k = some r → u.engine.active.key = some r.key))
      ∧ (d ≠ none → d ≠ c.carrier → ¬readyForD → ¬rebuilds → u.engine.active = c ∧ u.dose = s.dose)
      ∧ (d = none → c.mode ≠ .rest →
        u.engine.active.mode = .rest ∧ u.engine.active.carrier = none ∧ u.engine.active.key = none ∧ u.dose = s.dose) := by
  intro u c readyForD stands gone rebuilds
  have hrebuilds : s.mustRebuild d = true ↔ rebuilds := s.mustRebuild_iff d
  have hnotReady (h : ¬readyForD) : (s.dropStale f).engine.readyFor d = false := State.dropStale_readyFor_of_not h
  have hcarrier (tag : Nat) : ((s.dropStale f).contextFor (some tag)).carrier = some tag :=
    State.contextFor_carrier (by simpa using hset) _
  refine ⟨?swap, fun hr hm tag hd => ?rebuild, fun tag e hd hgoverns hr he => ?changed, fun hd hgoverns hr hm => ?stays,
    fun hd hnotRest => ?none⟩
  case swap =>
    rintro ⟨y, hy, hyf, hyready, hyd⟩ x hx
    obtain rfl : y = x := Option.some.inj (hy.symm.trans hx)
    exact State.handOver_of_ready hmode hrest hy hyf hyready hyd (hprepared y hy)
  case rebuild =>
    subst hd
    obtain ⟨hnew, hlate, hsame⟩ := State.handOver_of_rebuild hmode hrest (hnotReady hr) (hrebuilds.mpr hm)
    refine ⟨(congrArg Context.carrier hnew).trans (hcarrier tag), hlate, hsame, fun hnone e he => ?_⟩
    rw [State.dropStale_of_none hnone] at hnew
    refine ⟨fun hholding => ?_, fun k r hpending hk hkr => ?_⟩
    · rw [hnew, State.contextFor_of_holding hset (State.carrier?_of_stands he) hholding]
      exact ⟨rfl, rfl, rfl⟩
    · rw [hnew]
      exact State.contextFor_of_held hset (State.carrier?_of_stands he) hpending hk hkr
  case changed =>
    subst hd
    have hcarries := State.carrier?_of_stands he
    have hnamed := State.namedKey_of_carrier hcarries
    have hm : s.mustRebuild (some tag) = false := Bool.eq_false_iff.mpr fun h => (hrebuilds.mp h).1 hgoverns
    refine ⟨fun hkey => State.handOver_of_stays hmode hrest (hnotReady hr) hm fun _ => hnamed.trans hkey, fun hkey => ?_⟩
    obtain ⟨hnew, hdose⟩ := State.handOver_of_changed hmode hrest (hnotReady hr) hgoverns (hnamed ▸ hkey)
    refine ⟨(congrArg Context.carrier hnew).trans (hcarrier tag), hdose, fun k r hnone hpending hk hkr => ?_⟩
    rw [State.dropStale_of_none hnone] at hnew
    rw [hnew]
    exact (State.contextFor_of_held hset hcarries hpending hk hkr).1
  case stays =>
    obtain ⟨tag, rfl⟩ := Option.ne_none_iff_exists'.mp hd
    exact State.handOver_of_stays hmode hrest (hnotReady hr) (Bool.eq_false_iff.mpr fun h => hm (hrebuilds.mp h))
      fun h => absurd h hgoverns
  case none =>
    subst hd
    have hr : ¬readyForD := fun ⟨x, hx, _, _, hxnone⟩ => hprepared x hx hxnone
    obtain ⟨hnew, hdose⟩ := State.handOver_of_noDominant hmode hrest hset (hnotReady hr) hnotRest
    rw [hnew]
    exact ⟨rfl, rfl, rfl, hdose⟩

/-- Settles O51: the segment in force, the drive it gives, the settled request, and the hand-over step by step. -/
theorem engineFollowsTheCarrierAndFormsSetpoints : Obligations.EngineFollowsTheCarrierAndFormsSetpoints := by
  refine ⟨StationState.setpoints_iff, fun pre g post pos h => ?_, fun s => State.engineSlot_forms, fun s => ?settled,
    fun s d f hprepared => ?handOver⟩
  · simpa using segmentAt_append g post pre 0 (by simpa using h)
  case settled =>
    exact ⟨State.settled_of_noSetpoints, fun hset => ⟨State.settled_of_forwardOnly hset, State.settled_of_prepared hset⟩⟩
  case handOver =>
    intro u c readyForD stands gone rebuilds
    refine ⟨s.handOver_lastDominant d f, by simp [u], by simp [u], by simp [u], by simp [u], by simp [u],
      State.handOver_of_off, fun hmode hset => ?_, fun hmode hset hrest => State.handOver_follows hprepared hmode hset hrest⟩
    obtain ⟨_, _, _, hsettled⟩ := State.handOver_leavesGoverned (d := d) (f := f) hmode
    obtain ⟨hfor, hmade⟩ := State.handOver_prepared (d := d) (f := f) hmode hset
    exact ⟨hsettled, hfor, hmade, State.handOver_of_tripRest⟩

end Sys2Proof.Machine
end

section
/-! PROOFS. The layout of a CLAIM payload, and what a claim part covers (R62, R178). -/

namespace Sys2Proof.Machine

open Sys2Proof

/-! ### Byte order (R175) -/

theorem byteOf_toNat (b : Byte) : byteOf b.toNat = b := by
  unfold byteOf
  rw [BitVec.ofNat_toNat, BitVec.setWidth_eq]

theorem toNat_byteOf {n : Nat} (h : n < 256) : (byteOf n).toNat = n := by
  unfold byteOf
  rw [BitVec.toNat_ofNat]
  exact Nat.mod_eq_of_lt h

theorem toBE16_be16 (hi lo : Byte) : toBE16 (be16 hi lo) = [hi, lo] := by
  have hlo := lo.isLt
  have hdiv : be16 hi lo / 256 = hi.toNat := by unfold be16; omega
  have hlow : byteOf (be16 hi lo) = lo := by
    refine BitVec.eq_of_toNat_eq ?_
    unfold byteOf be16
    rw [BitVec.toNat_ofNat]
    omega
  unfold toBE16
  rw [hdiv, hlow, byteOf_toNat]

theorem be16_toBE16 {n : Nat} (h : n < 65536) : be16 (byteOf (n / 256)) (byteOf n) = n := by
  unfold be16 byteOf
  rw [BitVec.toNat_ofNat, BitVec.toNat_ofNat]
  omega

/-! ### Claim runs and parts (R178) -/

def ClaimRun.bytes (r : ClaimRun) : List Byte := [byteOf r.start, byteOf r.len] ++ toBE16 r.current

theorem ClaimPart.bytes_eq (c : ClaimPart) :
    c.bytes = [byteOf c.cycle, byteOf c.offset, byteOf c.scale, byteOf c.runs.length] ++ c.runs.flatMap ClaimRun.bytes := rfl

/-- The fields of a run that its bytes hold. -/
def ClaimRun.Sized (r : ClaimRun) : Prop := r.start < 256 ∧ r.len < 256 ∧ r.current < 65536

/-- The fields of a part that its bytes hold, with the run counts that R178 allows. -/
def ClaimPart.Sized (c : ClaimPart) : Prop :=
  c.cycle < 256 ∧ c.offset < 256 ∧ c.scale < 256 ∧ (1 ≤ c.runs.length ∧ c.runs.length ≤ 4) ∧ ∀ r ∈ c.runs, r.Sized

theorem readClaimRuns_layout : ∀ {n : Nat} {bs rest : List Byte} {runs : List ClaimRun},
    readClaimRuns n bs = some (runs, rest) → runs.length = n ∧ bs = runs.flatMap ClaimRun.bytes ++ rest
  | 0, bs, rest, runs, h => by
    obtain ⟨rfl, rfl⟩ := Prod.mk.inj (Option.some.inj h)
    exact ⟨rfl, rfl⟩
  | n + 1, [], _, _, h | n + 1, [_], _, _, h | n + 1, [_, _], _, _, h | n + 1, [_, _, _], _, _, h => by cases h
  | n + 1, a :: b :: c :: d :: bs, rest, runs, h => by
    unfold readClaimRuns at h
    cases hmore : readClaimRuns n bs with
    | none => rw [hmore] at h; cases h
    | some read =>
      obtain ⟨more, rest'⟩ := read
      rw [hmore] at h
      obtain ⟨rfl, rfl⟩ := Prod.mk.inj (Option.some.inj h)
      obtain ⟨hlen, hbs⟩ := readClaimRuns_layout hmore
      refine ⟨congrArg (· + 1) hlen, ?_⟩
      rw [List.flatMap_cons, hbs]
      simp [ClaimRun.bytes, byteOf_toNat, toBE16_be16]

theorem readClaimRuns_bytes (rest : List Byte) : ∀ {runs : List ClaimRun}, (∀ r ∈ runs, r.Sized) →
    readClaimRuns runs.length (runs.flatMap ClaimRun.bytes ++ rest) = some (runs, rest)
  | [], _ => rfl
  | r :: runs, h => by
    obtain ⟨⟨hstart, hlen, hcurrent⟩, hmore⟩ := List.forall_mem_cons.mp h
    rw [List.length_cons, List.flatMap_cons, List.append_assoc]
    show (match readClaimRuns runs.length (runs.flatMap ClaimRun.bytes ++ rest) with
      | some (more, left) => some ((⟨(byteOf r.start).toNat, (byteOf r.len).toNat,
          be16 (byteOf (r.current / 256)) (byteOf r.current)⟩ : ClaimRun) :: more, left)
      | none => none) = some (r :: runs, rest)
    rw [readClaimRuns_bytes rest hmore, toNat_byteOf hstart, toNat_byteOf hlen, be16_toBE16 hcurrent]

theorem readClaimPart_layout {bs rest : List Byte} {c : ClaimPart} (h : readClaimPart bs = some (c, rest)) : bs = c.bytes ++ rest := by
  unfold readClaimPart at h
  split at h
  next n p scale r bs =>
    split at h
    next =>
      cases hruns : readClaimRuns r.toNat bs with
      | none => rw [hruns] at h; cases h
      | some read =>
        obtain ⟨runs, rest'⟩ := read
        rw [hruns] at h
        obtain ⟨rfl, rfl⟩ := Prod.mk.inj (Option.some.inj h)
        obtain ⟨hlen, hbs⟩ := readClaimRuns_layout hruns
        rw [ClaimPart.bytes_eq, hbs, hlen]
        simp [byteOf_toNat]
    next => cases h
  next => cases h

theorem readClaimPart_bytes {c : ClaimPart} (h : c.Sized) (rest : List Byte) : readClaimPart (c.bytes ++ rest) = some (c, rest) := by
  obtain ⟨hcycle, hoffset, hscale, hcount, hruns⟩ := h
  have hlength : (byteOf c.runs.length).toNat = c.runs.length := toNat_byteOf (by omega)
  rw [ClaimPart.bytes_eq, List.append_assoc]
  unfold readClaimPart
  simp only [List.cons_append, List.nil_append]
  rw [hlength, if_pos hcount, readClaimRuns_bytes rest hruns, toNat_byteOf hcycle, toNat_byteOf hoffset, toNat_byteOf hscale]

theorem readOptionalPart_layout {present : Bool} {bs rest : List Byte} {c : Option ClaimPart}
    (h : readOptionalPart present bs = some (c, rest)) : present = c.isSome ∧ bs = partBytes c ++ rest := by
  unfold readOptionalPart at h
  cases present with
  | false =>
    obtain ⟨rfl, rfl⟩ := Prod.mk.inj (Option.some.inj ((if_neg Bool.false_ne_true).symm.trans h))
    exact ⟨rfl, rfl⟩
  | true =>
    rw [if_pos rfl] at h
    cases hpart : readClaimPart bs with
    | none => rw [hpart] at h; cases h
    | some read =>
      obtain ⟨part, rest'⟩ := read
      rw [hpart] at h
      obtain ⟨rfl, rfl⟩ := Prod.mk.inj (Option.some.inj h)
      exact ⟨rfl, readClaimPart_layout hpart⟩

theorem readOptionalPart_bytes {c : Option ClaimPart} (h : ∀ part ∈ c.toList, part.Sized) (rest : List Byte) :
    readOptionalPart c.isSome (partBytes c ++ rest) = some (c, rest) := by
  cases c with
  | none => rfl
  | some part =>
    unfold readOptionalPart
    rw [if_pos (by rfl)]
    unfold partBytes
    dsimp only
    rw [readClaimPart_bytes (h part (by simp)) rest]

/-- The parts-present byte of two parts. -/
def presentByte (active pending : Option ClaimPart) : Byte := byteOf (active.toList.length + 2 * pending.toList.length)

theorem presentByte_bits (active pending : Option ClaimPart) : (presentByte active pending).toNat < 4
    ∧ (presentByte active pending).getLsbD 0 = active.isSome ∧ (presentByte active pending).getLsbD 1 = pending.isSome := by
  cases active <;> cases pending <;> simp [presentByte, byteOf]

theorem eq_presentByte {b : Byte} {active pending : Option ClaimPart} (h : b.toNat < 4) (h0 : b.getLsbD 0 = active.isSome)
    (h1 : b.getLsbD 1 = pending.isSome) : b = presentByte active pending := by
  have hb : b = 0#8 ∨ b = 1#8 ∨ b = 2#8 ∨ b = 3#8 := by bv_omega
  rcases hb with rfl | rfl | rfl | rfl
  all_goals cases active <;> cases pending <;> simp [presentByte, byteOf] at h0 h1 ⊢

theorem readClaimParts_layout {x y z : Byte} {bs : List Byte} {active pending : Option ClaimPart}
    (h : readClaimParts (x :: y :: z :: bs) = some (active, pending)) :
    z = presentByte active pending ∧ bs = partBytes active ++ partBytes pending := by
  have hread : (if z.toNat < 4 then
      match readOptionalPart (z.getLsbD 0) bs with
      | some (active, rest) =>
        match readOptionalPart (z.getLsbD 1) rest with
        | some (pending, []) => some (active, pending)
        | _ => none
      | none => none
    else none) = some (active, pending) := h
  split at hread
  next hz =>
    cases ha : readOptionalPart (z.getLsbD 0) bs with
    | none => rw [ha] at hread; cases hread
    | some first =>
      obtain ⟨active', rest⟩ := first
      rw [ha] at hread
      dsimp only at hread
      obtain ⟨hbit0, hbs⟩ := readOptionalPart_layout ha
      cases hp : readOptionalPart (z.getLsbD 1) rest with
      | none => rw [hp] at hread; cases hread
      | some second =>
        obtain ⟨pending', left⟩ := second
        rw [hp] at hread
        obtain ⟨hbit1, hrest⟩ := readOptionalPart_layout hp
        cases left with
        | cons => cases hread
        | nil =>
          obtain ⟨rfl, rfl⟩ := Prod.mk.inj (Option.some.inj hread)
          exact ⟨eq_presentByte hz hbit0 hbit1, by rw [hbs, hrest, List.append_nil]⟩
  next => cases hread

theorem readClaimParts_bytes {active pending : Option ClaimPart} (h : ∀ c ∈ active.toList ++ pending.toList, c.Sized) (x y : Byte) :
    readClaimParts (x :: y :: presentByte active pending :: (partBytes active ++ partBytes pending)) = some (active, pending) := by
  obtain ⟨hlt, hbit0, hbit1⟩ := presentByte_bits active pending
  have hactive := readOptionalPart_bytes (c := active) (fun c hc => h c (List.mem_append_left _ hc)) (partBytes pending)
  have hpending := readOptionalPart_bytes (c := pending) (fun c hc => h c (List.mem_append_right _ hc)) []
  rw [List.append_nil] at hpending
  unfold readClaimParts
  simp only [List.getD_cons_succ, List.getD_cons_zero, List.drop_succ_cons, List.drop_zero]
  rw [if_pos hlt, hbit0, hbit1, hactive]
  dsimp only
  rw [hpending]

/-! ### Valid parts (R62) -/

theorem risingStarts_iff (runs : List ClaimRun) : risingStarts runs = true ↔ runs.Pairwise fun a b => a.start < b.start := by
  induction runs with
  | nil => simp [risingStarts]
  | cons a rest ih =>
    cases rest with
    | nil => simp [risingStarts]
    | cons b rest =>
      have hstep : risingStarts (a :: b :: rest) = true ↔ a.start < b.start ∧ risingStarts (b :: rest) = true := by
        simp [risingStarts]
      rw [hstep, ih, List.pairwise_cons (a := a)]
      refine and_congr_left fun hrises => ⟨fun hab => List.forall_mem_cons.mpr ⟨hab, fun x hx => ?_⟩,
        fun h => h b List.mem_cons_self⟩
      exact Nat.lt_trans hab ((List.pairwise_cons.mp hrises).1 x hx)

/-- The positions of two runs stand apart (R62). -/
def ClaimRun.Apart (cycle : Nat) (a b : ClaimRun) : Prop :=
  ∀ i j, i < a.len → j < b.len → (a.start + i) % cycle ≠ (b.start + j) % cycle

theorem ClaimRun.mem_positions {cycle : Nat} {r : ClaimRun} {x : Nat} :
    x ∈ r.positions cycle ↔ ∃ i, i < r.len ∧ (r.start + i) % cycle = x := by simp [ClaimRun.positions]

theorem ClaimRun.positions_nodup {cycle : Nat} {r : ClaimRun} (h : r.len ≤ cycle) : (r.positions cycle).Nodup := by
  refine List.pairwise_map.mpr (List.pairwise_lt_range.imp_of_mem fun {i j} _ hj hlt hij => ?_)
  rw [List.mem_range] at hj
  have hmod : (r.start + j - (r.start + i)) % cycle = 0 := Nat.sub_mod_eq_zero_of_mod_eq hij.symm
  rw [Nat.mod_eq_of_lt (by omega)] at hmod
  omega

theorem positions_nodup_iff {cycle : Nat} {runs : List ClaimRun} (h : ∀ r ∈ runs, r.len ≤ cycle) :
    (runs.flatMap (ClaimRun.positions cycle)).Nodup ↔ runs.Pairwise (ClaimRun.Apart cycle) := by
  induction runs with
  | nil => simp
  | cons a rest ih =>
    obtain ⟨ha, hrest⟩ := List.forall_mem_cons.mp h
    have hapart : (∀ x ∈ a.positions cycle, ∀ y ∈ rest.flatMap (ClaimRun.positions cycle), x ≠ y) ↔ ∀ b ∈ rest, a.Apart cycle b := by
      constructor
      · intro hd b hb i j hi hj
        exact hd _ (ClaimRun.mem_positions.mpr ⟨i, hi, rfl⟩) _
          (List.mem_flatMap.mpr ⟨b, hb, ClaimRun.mem_positions.mpr ⟨j, hj, rfl⟩⟩)
      · intro hd x hx y hy
        obtain ⟨b, hb, hyb⟩ := List.mem_flatMap.mp hy
        obtain ⟨i, hi, rfl⟩ := ClaimRun.mem_positions.mp hx
        obtain ⟨j, hj, rfl⟩ := ClaimRun.mem_positions.mp hyb
        exact hd b hb i j hi hj
    rw [List.flatMap_cons, List.nodup_append, List.pairwise_cons, ih hrest, hapart]
    exact ⟨fun ⟨_, hpair, hd⟩ => ⟨hd, hpair⟩, fun ⟨hd, hpair⟩ => ⟨ClaimRun.positions_nodup ha, hpair, hd⟩⟩

theorem ClaimPart.valid_iff (c : ClaimPart) : c.valid = true ↔
    c.cycle ∈ [4, 8, 16, 32, 64] ∧ c.offset < c.cycle ∧ 2 ≤ c.scale ∧ c.scale ≤ 8 ∧ 1 ≤ c.runs.length ∧ c.runs.length ≤ 4
      ∧ (∀ r ∈ c.runs, r.start < c.cycle ∧ 1 ≤ r.len ∧ r.len ≤ c.cycle ∧ 1 ≤ r.current ∧ r.current ≤ 6000)
      ∧ c.runs.Pairwise (fun a b => a.start < b.start ∧ ClaimRun.Apart c.cycle a b) := by
  have hranges : c.runs.all (ClaimRun.inRange c.cycle) = true
      ↔ ∀ r ∈ c.runs, r.start < c.cycle ∧ 1 ≤ r.len ∧ r.len ≤ c.cycle ∧ 1 ≤ r.current ∧ r.current ≤ 6000 := by
    simp [ClaimRun.inRange, and_assoc]
  have hcycle : cycleLengths.contains c.cycle = true ↔ c.cycle ∈ [4, 8, 16, 32, 64] := List.contains_iff_mem
  unfold ClaimPart.valid
  simp only [Bool.and_eq_true, decide_eq_true_eq, hranges, hcycle, risingStarts_iff, and_assoc]
  refine and_congr_right fun _ => and_congr_right fun _ => and_congr_right fun _ => and_congr_right fun _ => and_congr_right fun _ =>
    and_congr_right fun _ => and_congr_right fun hruns => ?_
  rw [positions_nodup_iff fun r hr => (hruns r hr).2.2.1, List.pairwise_and_iff]

theorem ClaimPart.Sized.of_valid {c : ClaimPart} (h : c.valid = true) : c.Sized := by
  obtain ⟨hcycle, hoffset, _, hscale, hsome, hfew, hruns, _⟩ := c.valid_iff.mp h
  have hlong : c.cycle ≤ 64 := by
    simp only [List.mem_cons, List.not_mem_nil, or_false] at hcycle
    omega
  refine ⟨by omega, by omega, by omega, ⟨hsome, hfew⟩, fun r hr => ?_⟩
  obtain ⟨hstart, _, hlen, _, hcurrent⟩ := hruns r hr
  exact ⟨by omega, by omega, by omega⟩

theorem validPart_iff (c : Option ClaimPart) : validPart c = true ↔ ∀ part ∈ c.toList, part.valid = true := by
  cases c <;> simp [validPart]

/-- The field test: the zone index, the layout and the parts (R63, step 2; R178). -/
theorem fieldTest_eq_some {zone : Nat} {payload : List Byte} {active pending : Option ClaimPart} (hlen : 3 ≤ payload.length) :
    fieldTest zone payload = some (active, pending) ↔
      1 ≤ zone ∧ zone ≤ 48 ∧ (∀ c ∈ active.toList ++ pending.toList, c.valid = true)
        ∧ ∃ stamp zoneByte, payload = stamp :: zoneByte :: presentByte active pending :: (partBytes active ++ partBytes pending) := by
  obtain ⟨x, y, z, bs, rfl⟩ : ∃ x y z bs, payload = x :: y :: z :: bs := by
    match payload, hlen with
    | x :: y :: z :: bs, _ => exact ⟨x, y, z, bs, rfl⟩
  have hvalid : (validPart active = true ∧ validPart pending = true) ↔ ∀ c ∈ active.toList ++ pending.toList, c.valid = true := by
    rw [validPart_iff, validPart_iff, List.forall_mem_append]
  constructor
  · intro h
    unfold fieldTest at h
    split at h
    next hzone =>
      cases hparts : readClaimParts (x :: y :: z :: bs) with
      | none => rw [hparts] at h; cases h
      | some parts =>
        obtain ⟨active', pending'⟩ := parts
        rw [hparts] at h
        dsimp only at h
        split at h
        next hok =>
          obtain ⟨rfl, rfl⟩ := Prod.mk.inj (Option.some.inj h)
          obtain ⟨rfl, rfl⟩ := readClaimParts_layout hparts
          exact ⟨hzone.1, hzone.2, hvalid.mp hok, x, y, rfl⟩
        next => cases h
    next => cases h
  · rintro ⟨hlow, hhigh, hok, stamp, zoneByte, heq⟩
    unfold fieldTest
    rw [if_pos ⟨hlow, hhigh⟩, heq, readClaimParts_bytes fun c hc => .of_valid (hok c hc)]
    exact if_pos (hvalid.mpr hok)

/-! ### What a part covers (R62) -/

section Covers

variable {c : ClaimPart} {r : ClaimRun}

/-- The place of a frame slot in the repetition of a run, as the remainder of a difference (R62). -/
def ClaimPart.placeOf (c : ClaimPart) (r : ClaimRun) (x : Nat) : Int := ((x : Int) - c.offset - r.start) % c.cycle

theorem ClaimPart.phase_eq (hoffset : c.offset < c.cycle) (hstart : r.start < c.cycle) (x : Nat) :
    (c.phase r x : Int) = c.placeOf r x := by
  have hsum : ((x + 2 * c.cycle - c.offset - r.start : Nat) : Int) = ((x : Int) - c.offset - r.start) + c.cycle * 2 := by omega
  unfold ClaimPart.phase ClaimPart.placeOf
  rw [Int.natCast_emod, hsum, Int.add_mul_emod_self_left]

theorem ClaimPart.runCovers_iff (hoffset : c.offset < c.cycle) (hstart : r.start < c.cycle) (x : Nat) :
    c.runCovers x r = true ↔ c.placeOf r x < r.len := by
  rw [← ClaimPart.phase_eq hoffset hstart]
  simp [ClaimPart.runCovers]

theorem ClaimPart.covers_iff (hoffset : c.offset < c.cycle) (hruns : ∀ r ∈ c.runs, r.start < c.cycle) (x : Nat) :
    c.covers x = true ↔ ∃ r ∈ c.runs, c.placeOf r x < r.len := by
  unfold ClaimPart.covers
  rw [List.any_eq_true]
  exact exists_congr fun r => and_congr_right fun hr => ClaimPart.runCovers_iff hoffset (hruns r hr) x

/-- The current of the first run that covers the slot. -/
theorem ClaimPart.current_of_first (hoffset : c.offset < c.cycle) (hruns : ∀ r ∈ c.runs, r.start < c.cycle) {x : Nat}
    {pre post : List ClaimRun} (hc : c.runs = pre ++ r :: post) (hpre : ∀ y ∈ pre, (y.len : Int) ≤ c.placeOf y x)
    (hr : c.placeOf r x < r.len) : c.current x = r.current := by
  have hcovers : c.runCovers x r = true := (ClaimPart.runCovers_iff hoffset (hruns r (by simp [hc])) x).mpr hr
  have hbefore (y : ClaimRun) (hy : y ∈ pre) : ¬c.runCovers x y = true := fun h =>
    absurd ((ClaimPart.runCovers_iff hoffset (hruns y (by simp [hc, hy])) x).mp h) (Int.not_lt.mpr (hpre y hy))
  have hfind : c.runs.find? (c.runCovers x) = some r := by
    rw [hc, List.find?_append, List.find?_eq_none.mpr hbefore, Option.none_or, List.find?_cons_of_pos hcovers]
  unfold ClaimPart.current
  rw [hfind]
  rfl

theorem ClaimPart.current_of_none (hoffset : c.offset < c.cycle) (hruns : ∀ r ∈ c.runs, r.start < c.cycle) {x : Nat}
    (h : ∀ r ∈ c.runs, (r.len : Int) ≤ c.placeOf r x) : c.current x = 0 := by
  have hfind : c.runs.find? (c.runCovers x) = none := List.find?_eq_none.mpr fun r hr hcovers =>
    absurd ((ClaimPart.runCovers_iff hoffset (hruns r hr) x).mp hcovers) (Int.not_lt.mpr (h r hr))
  unfold ClaimPart.current
  rw [hfind]
  rfl

theorem ClaimPart.onsets_eq (hoffset : c.offset < c.cycle) (hruns : ∀ r ∈ c.runs, r.start < c.cycle) (x : Nat) :
    ((∃ r ∈ c.runs, c.placeOf r x = 0) → c.onsets x = 1) ∧ ((∀ r ∈ c.runs, c.placeOf r x ≠ 0) → c.onsets x = 0) := by
  have hany : (c.runs.any fun r => c.phase r x == 0) = true ↔ ∃ r ∈ c.runs, c.placeOf r x = 0 := by
    rw [List.any_eq_true]
    refine exists_congr fun r => and_congr_right fun hr => ?_
    rw [← ClaimPart.phase_eq hoffset (hruns r hr), beq_iff_eq, Int.natCast_eq_zero]
  exact ⟨fun h => if_pos (hany.mpr h), fun h => if_neg fun hx => by
    obtain ⟨r, hr, hplace⟩ := hany.mp hx
    exact h r hr hplace⟩

end Covers

end Sys2Proof.Machine
end

section
/-! PROOFS. An applied CLAIM frame: the peer claim table and the own tests (R63, R64, R76, R79). -/

namespace Sys2Proof.Machine

open Sys2Proof

/-! ### The peer claim table (R64) -/

/-- The peer record of an address. -/
def SlotMap.peerAt (a : Nat) (m : SlotMap) : Option Peer := m.peers.find? fun p => p.address == a

theorem insertPeer_find_same (p : Peer) (xs : List Peer) : (insertPeer p xs).find? (fun x => x.address == p.address) = some p := by
  induction xs with
  | nil => simp [insertPeer]
  | cons x xs ih =>
    unfold insertPeer
    split
    next => simp
    next hx =>
      split
      next => simp
      next => rw [List.find?_cons_of_neg (by simpa using hx), ih]

theorem insertPeer_find_other {p : Peer} {a : Nat} (h : a ≠ p.address) (xs : List Peer) :
    (insertPeer p xs).find? (fun x => x.address == a) = xs.find? fun x => x.address == a := by
  have hp : ¬(p.address == a) = true := by simpa using h.symm
  induction xs with
  | nil => simp [insertPeer, h.symm]
  | cons x xs ih =>
    unfold insertPeer
    split
    next hx => rw [List.find?_cons_of_neg (p := fun x : Peer => x.address == a) hp,
      List.find?_cons_of_neg (p := fun x : Peer => x.address == a) (by rw [hx]; exact hp)]
    next =>
      split
      next => rw [List.find?_cons_of_neg (p := fun x : Peer => x.address == a) hp]
      next => rw [List.find?_cons, List.find?_cons, ih]

theorem SlotMap.applyFrame_of_empty {p : Peer} (ha : p.active.isNone) (hp : p.pending.isNone) (m : SlotMap) :
    m.applyFrame p = ({ m with peers := m.peers.filter fun x => x.address != p.address }, true) := if_pos ⟨ha, hp⟩

theorem SlotMap.peerAt_isSome (a : Nat) (m : SlotMap) : (m.peerAt a).isSome ↔ (m.peers.any fun x => x.address == a) = true := by
  unfold SlotMap.peerAt
  rw [List.find?_isSome, List.any_eq_true]

theorem SlotMap.applyFrame_of_room {p : Peer} {m : SlotMap} (h : p.active.isSome ∨ p.pending.isSome)
    (hroom : (m.peerAt p.address).isSome ∨ m.peers.length < 47) :
    m.applyFrame p = ({ m with peers := insertPeer p m.peers }, true) := by
  have hnot : ¬(p.active.isNone ∧ p.pending.isNone) := fun ⟨ha, hp⟩ => by
    rw [Option.isNone_iff_eq_none] at ha hp
    simp [ha, hp] at h
  exact (if_neg hnot).trans (if_pos (hroom.imp_left (m.peerAt_isSome p.address).mp))

theorem SlotMap.applyFrame_of_full {p : Peer} {m : SlotMap} (h : p.active.isSome ∨ p.pending.isSome)
    (hnew : m.peerAt p.address = none) (hfull : 47 ≤ m.peers.length) : m.applyFrame p = (m, false) := by
  have hnot : ¬(p.active.isNone ∧ p.pending.isNone) := fun ⟨ha, hp⟩ => by
    rw [Option.isNone_iff_eq_none] at ha hp
    simp [ha, hp] at h
  have hnoRoom : ¬((m.peers.any fun x => x.address == p.address) = true ∨ m.peers.length < 47) := by
    rintro (hany | hlt)
    · have := (m.peerAt_isSome p.address).mpr hany
      simp [hnew] at this
    · omega
  exact (if_neg hnot).trans (if_neg hnoRoom)

/-- An applied frame leaves the records of the other addresses (R64). -/
theorem SlotMap.applyFrame_peerAt_other {p : Peer} {a : Nat} (h : a ≠ p.address) (m : SlotMap) :
    (m.applyFrame p).1.peerAt a = m.peerAt a := by
  unfold SlotMap.applyFrame
  split
  next =>
    unfold SlotMap.peerAt
    rw [List.find?_filter]
    refine congrArg (fun q => m.peers.find? q) (funext fun x => ?_)
    by_cases hx : x.address = a <;> simp [hx, h]
  next =>
    split
    next => exact insertPeer_find_other h m.peers
    next => rfl

/-! ### The own tests (R76, R79) -/

theorem State.testObjection_kept (p : Peer) (s : State) : (s.testObjection p).map.peers = s.map.peers := by
  unfold State.testObjection
  split
  next => split <;> rfl
  next => rfl

theorem State.testConflict_kept (p : Peer) (s : State) : (s.testConflict p).map.peers = s.map.peers := by
  unfold State.testConflict
  split
  next =>
    split
    next =>
      rw [State.withdrawNotice_kept _ |>.1]
      rfl
    next => rfl
  next => rfl

theorem State.applyClaim_of_applied {s : State} {p : Peer} (h : (s.map.applyFrame p).2 = true) :
    s.applyClaim p = (((s.setMap (s.map.applyFrame p).1).testConflict p).testObjection p).flushClaim := if_pos h

/-- The peer table of an applied claim is that of its frame (R63, steps 4 and 5). -/
theorem State.applyClaim_peers (p : Peer) (s : State) : (s.applyClaim p).map.peers = (s.map.applyFrame p).1.peers := by
  cases h : (s.map.applyFrame p).2 with
  | true =>
    rw [State.applyClaim_of_applied h, (State.flushClaim_kept _).1, State.testObjection_kept, State.testConflict_kept]
    rfl
  | false =>
    have hnot : s.applyClaim p = s.setMap (s.map.applyFrame p).1 := if_neg (Bool.eq_false_iff.mp h)
    rw [hnot]
    rfl

/-- A slot at which a test of an own part fails (R66). -/
def FailsAt (cfg : Cfg) (parts : List ClaimPart) (own : ClaimPart) (x : Nat) : Prop :=
  x < 64 ∧ own.covers x = true
    ∧ (cfg.lineReverseBudget < (parts.map (ClaimPart.current x)).sum + own.current x
      ∨ cfg.onsetLimit < (parts.map (ClaimPart.onsets x)).sum + own.onsets x)

theorem mem_failingSlots (cfg : Cfg) (parts : List ClaimPart) (own : ClaimPart) (x : Nat) :
    x ∈ failingSlots cfg parts own ↔ FailsAt cfg parts own x := by
  unfold failingSlots failsAt loadOf onsetsOf FailsAt
  simp

theorem conflicts_iff (cfg : Cfg) (own : ClaimPart) (sender : Peer) (m : SlotMap) :
    conflicts cfg own sender m = true
      ↔ sender.address < cfg.stationAddress ∧ ∃ x, FailsAt cfg m.activeParts own x ∧ ∃ c, sender.active = some c ∧ c.covers x = true := by
  unfold conflicts
  simp only [Bool.and_eq_true, decide_eq_true_eq, List.any_eq_true, mem_failingSlots, coversOpt_iff]

theorem objects_iff (cfg : Cfg) (own : ClaimPart) (sender : Peer) (m : SlotMap) :
    objects cfg own sender m = true
      ↔ ∃ x, FailsAt cfg m.allParts own x ∧ ((∃ c, sender.active = some c ∧ c.covers x = true)
        ∨ ((∃ c, sender.pending = some c ∧ c.covers x = true) ∧ sender.address < cfg.stationAddress)) := by
  unfold objects
  simp only [Bool.and_eq_true, Bool.or_eq_true, decide_eq_true_eq, List.any_eq_true, mem_failingSlots, coversOpt_iff]

/-! ### The withdrawal of a conflict (R79, R100) -/

theorem SlotMap.abandon_calls {m : SlotMap} (h : m.calls = true) : m.abandon.calls = true := by
  unfold SlotMap.abandon
  split
  next => rfl
  next => exact h

theorem SlotMap.ask_calls {m : SlotMap} (h : m.calls = true) (p : Pattern) : (m.ask p).calls = true := by
  unfold SlotMap.ask
  split
  next => exact h
  next => exact SlotMap.abandon_calls h

/-- A CLAIM called for is still called for when the request is settled. -/
theorem State.settle_calls {s : State} (h : s.map.calls = true) : s.settle.map.calls = true := by
  unfold State.settle State.giveRequest
  dsimp only
  split
  next => exact h
  next =>
    split
    next p _ =>
      unfold State.askPlan
      split
      next => exact SlotMap.ask_calls h p
      next => exact h
    next =>
      simp only [State.cancelPlan, State.clearStarved_leaves]
      exact SlotMap.abandon_calls h

theorem State.withdrawNotice_calls {s : State} (h : s.map.calls = true) : s.withdrawNotice.map.calls = true := by
  unfold State.withdrawNotice
  exact State.settle_calls (by simpa using h)

theorem State.testConflict_of_conflict {s : State} {p : Peer} {own : ClaimPart} (hown : s.map.active = some own)
    (h : conflicts s.cfg own p s.map = true) : s.testConflict p = (s.setMap s.map.dropActive).withdrawNotice := by
  unfold State.testConflict
  rw [hown]
  exact if_pos h

theorem State.testConflict_of_none {s : State} {p : Peer} (h : ∀ own, s.map.active = some own → conflicts s.cfg own p s.map ≠ true) :
    s.testConflict p = s := by
  unfold State.testConflict
  split
  next own hown => exact if_neg (h own hown)
  next => rfl

theorem State.testObjection_of_objection {s : State} {p : Peer} {own : ClaimPart} (hown : s.map.pending = some own)
    (h : objects s.cfg own p s.map = true) : s.testObjection p = s.setMap (s.map.yield s.cfg.stationAddress) := by
  unfold State.testObjection
  rw [hown]
  exact if_pos h

theorem State.testObjection_of_none {s : State} {p : Peer} (h : ∀ own, s.map.pending = some own → objects s.cfg own p s.map ≠ true) :
    s.testObjection p = s := by
  unfold State.testObjection
  split
  next own hown => exact if_neg (h own hown)
  next => rfl

/-- What a withdrawal of the active part leaves (R79, R100). -/
theorem State.withdrawNotice_of_dropActive (s : State) :
    let u := (s.setMap s.map.dropActive).withdrawNotice
    u.map.active = none ∧ u.map.unneeded = 0 ∧ u.map.hold = s.map.hold ∧ u.map.yieldCount = s.map.yieldCount
      ∧ u.map.peers = s.map.peers ∧ u.map.calls = true
      ∧ u.engine.setpoint = (if s.engine.setpoint.dir = .rev then ⟨.rest, 0⟩ else s.engine.setpoint)
      ∧ u.bridge = (if s.engine.setpoint.dir = .rev then s.bridge.takeSetpoint ⟨.rest, 0⟩ else s.bridge)
      ∧ u.station = s.station ∧ u.clock = s.clock ∧ u.tracker = s.tracker ∧ u.dose = s.dose := by
  obtain ⟨hsetpoint, hbridge⟩ := (s.setMap s.map.dropActive).withdrawNotice_stops
  obtain ⟨hpeers, hyield, hhold, hunneeded, -⟩ := (s.setMap s.map.dropActive).withdrawNotice_kept
  exact ⟨(State.withdrawNotice_active _).trans rfl, hunneeded, hhold, hyield, hpeers, State.withdrawNotice_calls (by rfl), hsetpoint,
    hbridge, by simp, by simp, by simp, by simp⟩

/-! ### A CLAIM frame that is delivered (R63) -/

theorem State.judgeStamp_of_applied {s : State} {address stamp : Nat} (haligned : s.clock.aligned = true)
    (hv : verdictOf (stampOffset s.clock.slot stamp) = .agree ∨ verdictOf (stampOffset s.clock.slot stamp) = .early) :
    (s.judgeStamp address stamp).2.applies = true ∧ ∃ c, (s.judgeStamp address stamp).1 = s.setClock c := by
  rw [State.judgeStamp_of_aligned haligned]
  obtain hv | hv := hv
  · rw [hv]
    exact ⟨rfl, _, rfl⟩
  · rw [hv]
    exact ⟨rfl, s.clock, rfl⟩

/-- A delivered CLAIM whose stamp agrees is applied where it passes the field test (R10, R63). -/
theorem State.takeClaim_of_applied {s : State} {f : RxFrame} (df : Bool) (hzone : byteAt f.payload 1 ≠ s.cfg.zoneIndex)
    (haligned : s.clock.aligned = true)
    (hv : verdictOf (stampOffset s.clock.slot (byteAt f.payload 0)) = .agree
      ∨ verdictOf (stampOffset s.clock.slot (byteAt f.payload 0)) = .early) :
    ∃ c, (fieldTest (byteAt f.payload 1) f.payload = none → s.takeClaim f df = s.setClock c)
      ∧ ∀ active pending, fieldTest (byteAt f.payload 1) f.payload = some (active, pending) →
        s.takeClaim f df = (s.setClock c).applyClaim ⟨f.source, byteAt f.payload 1, active, pending, 0⟩ := by
  obtain ⟨happlies, c, hc⟩ := State.judgeStamp_of_applied (address := f.source) haligned hv
  refine ⟨c, fun hnone => ?_, fun active pending hsome => ?_⟩
  all_goals
    unfold State.takeClaim
    dsimp only
    rw [if_neg hzone]
  · rw [hnone]
    exact hc
  · rw [hsome]
    dsimp only
    rw [if_pos happlies, hc]

/-- Settles O17: the frame enters the peer table, the field test reads its layout, and the own tests against its sender follow. -/
theorem claimIsAppliedToThePeerTable : Obligations.ClaimIsAppliedToThePeerTable := by
  refine ⟨fun s t df r f hrun hr hexpects hf hloop hsource hkind hmine hzone haligned hv => ?delivered,
    fun s sender h => State.applyClaim_of_applied h, fun zone payload active pending hlen => ?layout,
    fun c x hoffset hruns => ?covers, fun s sender => ?tests⟩
  case delivered =>
    intro at?
    have hdelivered : (s.heardOut t).deliver f r.own df = (s.heardOut t).takeClaim f df := by
      rw [State.deliver_of_bus (s := s.heardOut t) hloop]
      exact State.filterFrame_of_claim (s := s.heardOut t) hsource hkind hmine r.own df
    obtain ⟨c, hnone, hsome⟩ := State.takeClaim_of_applied (s := s.heardOut t) (f := f) df hzone haligned hv
    refine ⟨_, exec_frameEndReceived_of_good hrun hr hexpects hf t df, ?_⟩
    rw [hdelivered]
    cases htest : fieldTest (byteAt f.payload 1) f.payload with
    | none =>
      rw [hnone htest]
      exact ⟨rfl, rfl, rfl, fun _ => rfl, nofun⟩
    | some parts =>
      obtain ⟨active, pending⟩ := parts
      rw [hsome active pending htest]
      generalize hp : (⟨f.source, byteAt f.payload 1, active, pending, 0⟩ : Peer) = p
      have haddress : p.address = f.source := by rw [← hp]
      have hactive : p.active = active := by rw [← hp]
      have hpending : p.pending = pending := by rw [← hp]
      have hpeers : (((s.heardOut t).setClock c).applyClaim p).map.peers = (s.map.applyFrame p).1.peers :=
        State.applyClaim_peers p _
      have hat (a : Nat) : at? a (((s.heardOut t).setClock c).applyClaim p).map = (s.map.applyFrame p).1.peerAt a :=
        congrArg (List.find? fun x : Peer => x.address == a) hpeers
      refine ⟨by simp [State.heardOut], by simp [State.heardOut], by simp [State.heardOut], nofun, ?_⟩
      rintro active' pending' ⟨⟩
      rw [hat f.source, ← haddress, ← hactive, ← hpending]
      refine ⟨fun a ha => (hat a).trans (SlotMap.applyFrame_peerAt_other ha s.map), fun ha hp => ?gone,
        fun h hroom => ?placed, fun h hnew hfull => ?full⟩
      case gone =>
        rw [SlotMap.applyFrame_of_empty ha hp]
        refine List.find?_eq_none.mpr fun x hx => ?_
        simpa using (List.mem_filter.mp hx).2
      case placed =>
        rw [SlotMap.applyFrame_of_room h hroom]
        refine (insertPeer_find_same p s.map.peers).trans ?_
        rw [hactive, hpending, haddress, hp]
      case full =>
        rw [hpeers, SlotMap.applyFrame_of_full h hnew hfull]
  case layout =>
    intro field layout apart
    rw [fieldTest_eq_some hlen]
    have hlayout (part : Option ClaimPart) : layout part = partBytes part := by
      cases part with
      | none => rfl
      | some c => exact List.append_nil _
    refine and_congr_right fun _ => and_congr_right fun _ => and_congr ?_ ?_
    · exact forall_congr' fun c => imp_congr_right fun _ => c.valid_iff
    · rw [hlayout, hlayout]
      exact Iff.rfl
  case covers =>
    exact ⟨ClaimPart.covers_iff hoffset hruns x, fun pre r post => ClaimPart.current_of_first hoffset hruns,
      ClaimPart.current_of_none hoffset hruns, ClaimPart.onsets_eq hoffset hruns x⟩
  case tests =>
    intro lower fails covered actives all conflict objection yields
    refine ⟨fun hnot => ?_, ?conflict, fun hnot => ?_, ?objection⟩
    · refine State.testConflict_of_none fun own hown h => hnot ?_
      obtain ⟨hlower, x, hfails, hcovered⟩ := (conflicts_iff _ _ _ _).mp h
      exact ⟨hlower, own, x, hown, hfails, hcovered⟩
    · rintro ⟨hlower, own, x, hown, hfails, hcovered⟩
      rw [State.testConflict_of_conflict hown ((conflicts_iff _ _ _ _).mpr ⟨hlower, x, hfails, hcovered⟩)]
      exact s.withdrawNotice_of_dropActive
    · refine State.testObjection_of_none fun own hown h => hnot ?_
      obtain ⟨x, hfails, hcovered⟩ := (objects_iff _ _ _ _).mp h
      exact ⟨own, x, hown, hfails, hcovered⟩
    · rintro ⟨own, x, hown, hfails, hcovered⟩
      exact State.testObjection_of_objection hown ((objects_iff _ _ _ _).mpr ⟨x, hfails, hcovered⟩)

end Sys2Proof.Machine
end

section
/-! PROOFS. The layout of a recipe record and its validity check (R15). -/

namespace Sys2Proof.Machine

open Sys2Proof

/-! ### Segments and zone targets -/

def Segment.bytes (g : Segment) : List Byte := [byteOf g.kind.code, byteOf g.len] ++ toBE16 g.density

def ZoneTarget.bytes (z : ZoneTarget) : List Byte := [byteOf z.zone] ++ toBE16 z.target

theorem Recipe.bytes_eq (r : Recipe) : r.bytes = toBE16 r.key.id
    ++ [byteOf r.key.rev, byteOf r.cycle, byteOf r.segments.length, byteOf r.tolerance, byteOf r.targets.length]
    ++ r.segments.flatMap Segment.bytes ++ r.targets.flatMap ZoneTarget.bytes := rfl

theorem segKindOf_eq_some {n : Nat} {k : SegKind} (h : segKindOf n = some k) : n = k.code := by
  unfold segKindOf at h
  split at h <;> cases h <;> rfl

theorem segKindOf_code (k : SegKind) : segKindOf (byteOf k.code).toNat = some k := by cases k <;> rfl

theorem readSegments_layout : ∀ {n : Nat} {bs rest : List Byte} {segs : List Segment},
    readSegments n bs = some (segs, rest) → segs.length = n ∧ bs = segs.flatMap Segment.bytes ++ rest
  | 0, bs, rest, segs, h => by
    obtain ⟨rfl, rfl⟩ := Prod.mk.inj (Option.some.inj h)
    exact ⟨rfl, rfl⟩
  | n + 1, [], _, _, h | n + 1, [_], _, _, h | n + 1, [_, _], _, _, h | n + 1, [_, _, _], _, _, h => by cases h
  | n + 1, k :: l :: c :: d :: bs, rest, segs, h => by
    unfold readSegments at h
    cases hkind : segKindOf k.toNat with
    | none => rw [hkind] at h; cases h
    | some kind =>
      cases hmore : readSegments n bs with
      | none => rw [hkind, hmore] at h; cases h
      | some read =>
        obtain ⟨more, rest'⟩ := read
        rw [hkind, hmore] at h
        obtain ⟨rfl, rfl⟩ := Prod.mk.inj (Option.some.inj h)
        obtain ⟨hlen, hbs⟩ := readSegments_layout hmore
        refine ⟨congrArg (· + 1) hlen, ?_⟩
        rw [List.flatMap_cons, hbs]
        simp [Segment.bytes, byteOf_toNat, toBE16_be16, ← segKindOf_eq_some hkind]

/-- The fields of a segment that its bytes hold. -/
def Segment.Sized (g : Segment) : Prop := g.len < 256 ∧ g.density < 65536

theorem readSegments_bytes (rest : List Byte) : ∀ {segs : List Segment}, (∀ g ∈ segs, g.Sized) →
    readSegments segs.length (segs.flatMap Segment.bytes ++ rest) = some (segs, rest)
  | [], _ => rfl
  | g :: segs, h => by
    obtain ⟨⟨hlen, hdensity⟩, hmore⟩ := List.forall_mem_cons.mp h
    rw [List.length_cons, List.flatMap_cons, List.append_assoc]
    unfold readSegments Segment.bytes toBE16
    simp only [List.cons_append, List.nil_append]
    rw [segKindOf_code]
    have hrest := readSegments_bytes rest hmore
    unfold Segment.bytes toBE16 at hrest
    simp only [List.cons_append, List.nil_append] at hrest
    rw [hrest, toNat_byteOf hlen, be16_toBE16 hdensity]

theorem readTargets_layout : ∀ {n : Nat} {bs rest : List Byte} {ts : List ZoneTarget},
    readTargets n bs = some (ts, rest) → ts.length = n ∧ bs = ts.flatMap ZoneTarget.bytes ++ rest
  | 0, bs, rest, ts, h => by
    obtain ⟨rfl, rfl⟩ := Prod.mk.inj (Option.some.inj h)
    exact ⟨rfl, rfl⟩
  | n + 1, [], _, _, h | n + 1, [_], _, _, h | n + 1, [_, _], _, _, h => by cases h
  | n + 1, z :: c :: d :: bs, rest, ts, h => by
    unfold readTargets at h
    cases hmore : readTargets n bs with
    | none => rw [hmore] at h; cases h
    | some read =>
      obtain ⟨more, rest'⟩ := read
      rw [hmore] at h
      obtain ⟨rfl, rfl⟩ := Prod.mk.inj (Option.some.inj h)
      obtain ⟨hlen, hbs⟩ := readTargets_layout hmore
      refine ⟨congrArg (· + 1) hlen, ?_⟩
      rw [List.flatMap_cons, hbs]
      simp [ZoneTarget.bytes, byteOf_toNat, toBE16_be16]

/-- The fields of a zone target that its bytes hold. -/
def ZoneTarget.Sized (z : ZoneTarget) : Prop := z.zone < 256 ∧ z.target < 65536

theorem readTargets_bytes (rest : List Byte) : ∀ {ts : List ZoneTarget}, (∀ z ∈ ts, z.Sized) →
    readTargets ts.length (ts.flatMap ZoneTarget.bytes ++ rest) = some (ts, rest)
  | [], _ => rfl
  | z :: ts, h => by
    obtain ⟨⟨hzone, htarget⟩, hmore⟩ := List.forall_mem_cons.mp h
    rw [List.length_cons, List.flatMap_cons, List.append_assoc]
    unfold readTargets ZoneTarget.bytes toBE16
    simp only [List.cons_append, List.nil_append]
    have hrest := readTargets_bytes rest hmore
    unfold ZoneTarget.bytes toBE16 at hrest
    simp only [List.cons_append, List.nil_append] at hrest
    rw [hrest, toNat_byteOf hzone, be16_toBE16 htarget]

/-! ### The record -/

/-- The fields of a recipe that its bytes hold. -/
def Recipe.Sized (r : Recipe) : Prop :=
  (r.key.id < 65536 ∧ r.key.rev < 256) ∧ (r.cycle < 256 ∧ r.tolerance < 256) ∧ (r.segments.length < 256 ∧ r.targets.length < 256)
    ∧ (∀ g ∈ r.segments, g.Sized) ∧ ∀ z ∈ r.targets, z.Sized

theorem readRecipe_layout {bs : List Byte} {r : Recipe} (h : readRecipe bs = some r) : bs = r.bytes := by
  unfold readRecipe at h
  split at h
  next i1 i0 rev n s tol t bs =>
    cases hsegs : readSegments s.toNat bs with
    | none => rw [hsegs] at h; cases h
    | some read =>
      obtain ⟨segs, rest⟩ := read
      rw [hsegs] at h
      dsimp only at h
      obtain ⟨hsegsLen, hbs⟩ := readSegments_layout hsegs
      cases htargets : readTargets t.toNat rest with
      | none => rw [htargets] at h; cases h
      | some second =>
        obtain ⟨targets, left⟩ := second
        rw [htargets] at h
        obtain ⟨htargetsLen, hrest⟩ := readTargets_layout htargets
        cases left with
        | cons => cases h
        | nil =>
          obtain rfl := Option.some.inj h
          rw [Recipe.bytes_eq, hbs, hrest]
          simp [toBE16_be16, byteOf_toNat, hsegsLen, htargetsLen]
  next => cases h

theorem readRecipe_bytes {r : Recipe} (h : r.Sized) : readRecipe r.bytes = some r := by
  obtain ⟨⟨hid, hrev⟩, ⟨hcycle, htolerance⟩, ⟨hsegs, htargets⟩, hsegments, hzones⟩ := h
  have hread := readTargets_bytes [] hzones
  rw [List.append_nil] at hread
  rw [Recipe.bytes_eq]
  unfold readRecipe toBE16
  simp only [List.cons_append, List.nil_append]
  rw [toNat_byteOf hsegs, readSegments_bytes _ hsegments]
  dsimp only
  rw [toNat_byteOf htargets, hread]
  dsimp only
  rw [be16_toBE16 hid, toNat_byteOf hrev, toNat_byteOf hcycle, toNat_byteOf htolerance]

/-! ### The validity check -/

theorem Segment.inRange_iff (g : Segment) : g.inRange = true
    ↔ 1 ≤ g.len ∧ (g.kind = .forward → 1 ≤ g.density ∧ g.density ≤ 3000) ∧ (g.kind = .reverse → 1 ≤ g.density ∧ g.density ≤ 9000)
      ∧ (g.kind = .rest → g.density = 0) := by
  unfold Segment.inRange
  cases g.kind <;> simp [within]

theorem risingTargets_iff (last : Nat) (ts : List ZoneTarget) : risingTargets last ts = true
    ↔ (∀ z ∈ ts, last < z.zone ∧ z.zone ≤ 48 ∧ 1 ≤ z.target ∧ z.target ≤ 65535) ∧ ts.Pairwise fun a b => a.zone < b.zone := by
  induction ts generalizing last with
  | nil => simp [risingTargets]
  | cons z rest ih =>
    simp only [risingTargets, Bool.and_eq_true, decide_eq_true_eq, within_iff, ih, List.forall_mem_cons, List.pairwise_cons]
    constructor
    · rintro ⟨⟨⟨hlast, hmost⟩, htarget⟩, hrest, hrises⟩
      exact ⟨⟨⟨hlast, hmost, htarget⟩, fun x hx => ⟨Nat.lt_trans hlast (hrest x hx).1, (hrest x hx).2⟩⟩, fun x hx => (hrest x hx).1, hrises⟩
    · rintro ⟨⟨⟨hlast, hmost, htarget⟩, hrest⟩, habove, hrises⟩
      exact ⟨⟨⟨hlast, hmost⟩, htarget⟩, fun x hx => ⟨habove x hx, (hrest x hx).2⟩, hrises⟩

theorem Recipe.runs_length_le_iff (r : Recipe) (n : Nat) : r.runs.length ≤ n ↔ ∀ p, r.pattern = some p → p.runs.length ≤ n := by
  unfold Recipe.pattern
  cases h : r.runs with
  | nil => simp
  | cons q qs => simp

theorem Recipe.valid_iff (r : Recipe) : r.valid = true ↔
    1 ≤ r.key.id ∧ r.key.id ≤ 65535 ∧ 1 ≤ r.key.rev ∧ r.key.rev ≤ 255 ∧ r.cycle ∈ [4, 8, 16, 32, 64]
      ∧ 1 ≤ r.segments.length ∧ r.segments.length ≤ 8 ∧ (r.segments.map Segment.len).sum = r.cycle
      ∧ (∀ g ∈ r.segments, 1 ≤ g.len ∧ (g.kind = .forward → 1 ≤ g.density ∧ g.density ≤ 3000)
        ∧ (g.kind = .reverse → 1 ≤ g.density ∧ g.density ≤ 9000) ∧ (g.kind = .rest → g.density = 0))
      ∧ (∀ p, r.pattern = some p → p.runs.length ≤ 4) ∧ 1 ≤ r.tolerance ∧ r.tolerance ≤ 25 ∧ r.targets.length ≤ 48
      ∧ (∀ z ∈ r.targets, 1 ≤ z.zone ∧ z.zone ≤ 48 ∧ 1 ≤ z.target ∧ z.target ≤ 65535)
      ∧ r.targets.Pairwise fun a b => a.zone < b.zone := by
  have hsegments : r.segments.all Segment.inRange = true ↔ ∀ g ∈ r.segments, 1 ≤ g.len
      ∧ (g.kind = .forward → 1 ≤ g.density ∧ g.density ≤ 3000) ∧ (g.kind = .reverse → 1 ≤ g.density ∧ g.density ≤ 9000)
      ∧ (g.kind = .rest → g.density = 0) := by
    rw [List.all_eq_true]
    exact forall_congr' fun g => imp_congr_right fun _ => g.inRange_iff
  have hcycle : cycleLengths.contains r.cycle = true ↔ r.cycle ∈ [4, 8, 16, 32, 64] := List.contains_iff_mem
  unfold Recipe.valid
  simp only [Bool.and_eq_true, decide_eq_true_eq, beq_iff_eq, within_iff, hsegments, hcycle, Recipe.runs_length_le_iff,
    risingTargets_iff, Nat.lt_iff_add_one_le, Nat.zero_add, and_assoc]
  constructor
  · rintro ⟨hid, hid', hrev, hrev', hcycle, hsome, hfew, hall, hsum, hrest⟩
    exact ⟨hid, hid', hrev, hrev', hcycle, hsome, hfew, hsum, hall, hrest⟩
  · rintro ⟨hid, hid', hrev, hrev', hcycle, hsome, hfew, hsum, hall, hrest⟩
    exact ⟨hid, hid', hrev, hrev', hcycle, hsome, hfew, hall, hsum, hrest⟩

theorem Recipe.Sized.of_valid {r : Recipe} (h : r.valid = true) : r.Sized := by
  obtain ⟨_, hid, _, hrev, hcycle, _, hfew, hsum, hsegments, _, _, htolerance, hmost, htargets, _⟩ := r.valid_iff.mp h
  have hlong : r.cycle ≤ 64 := by
    simp only [List.mem_cons, List.not_mem_nil, or_false] at hcycle
    omega
  refine ⟨⟨by omega, by omega⟩, ⟨by omega, by omega⟩, ⟨by omega, by omega⟩, fun g hg => ?_, fun z hz => ?_⟩
  · have hle : g.len ≤ r.cycle := by
      obtain ⟨pre, post, hsplit⟩ := List.append_of_mem hg
      rw [← hsum, hsplit, List.map_append, List.sum_append, List.map_cons, List.sum_cons]
      omega
    obtain ⟨_, hforward, hreverse, hrest⟩ := hsegments g hg
    refine ⟨by omega, ?_⟩
    cases hkind : g.kind with
    | forward => have := hforward hkind; omega
    | reverse => have := hreverse hkind; omega
    | rest => have := hrest hkind; omega
  · obtain ⟨_, hzone, _, htarget⟩ := htargets z hz
    exact ⟨by omega, by omega⟩

theorem checkedRecipe_eq_some (bytes : List Byte) (r : Recipe) :
    checkedRecipe bytes = some r ↔ bytes = r.bytes ∧ r.valid = true := by
  unfold checkedRecipe
  constructor
  · intro h
    cases hread : readRecipe bytes with
    | none => rw [hread] at h; cases h
    | some r' =>
      rw [hread] at h
      dsimp only at h
      split at h
      next hvalid =>
        obtain rfl := Option.some.inj h
        exact ⟨readRecipe_layout hread, hvalid⟩
      next => cases h
  · rintro ⟨rfl, hvalid⟩
    rw [readRecipe_bytes (.of_valid hvalid)]
    exact if_pos hvalid

/-- The layout as the fields stand in chapter 11. -/
theorem Recipe.bytes_layout (r : Recipe) :
    let field (n : Nat) : List Byte := [BitVec.ofNat 8 (n / 256), BitVec.ofNat 8 n]
    let code (k : SegKind) : Byte := match k with | .forward => 1 | .reverse => 2 | .rest => 3
    r.bytes = field r.key.id
      ++ [BitVec.ofNat 8 r.key.rev, BitVec.ofNat 8 r.cycle, BitVec.ofNat 8 r.segments.length, BitVec.ofNat 8 r.tolerance,
        BitVec.ofNat 8 r.targets.length]
      ++ r.segments.flatMap (fun g => [code g.kind, BitVec.ofNat 8 g.len] ++ field g.density)
      ++ r.targets.flatMap (fun z => [BitVec.ofNat 8 z.zone] ++ field z.target) := by
  intro field code
  have hcode (k : SegKind) : byteOf k.code = code k := by cases k <;> rfl
  have hsegment : Segment.bytes = fun g => [code g.kind, BitVec.ofNat 8 g.len] ++ field g.density := by
    funext g
    rw [← hcode]
    rfl
  rw [Recipe.bytes_eq, hsegment]
  rfl

end Sys2Proof.Machine
end

section
/-! PROOFS. The reverse runs of a recipe (R16). -/

namespace Sys2Proof.Machine

open Sys2Proof

/-! ### The segment in force at a position -/

/-- A segment of a list is in force at a position, the first segment beginning at `pos`. -/
def InForceFrom (pos : Nat) (segs : List Segment) (g : Segment) (x : Nat) : Prop :=
  ∃ pre post, segs = pre ++ g :: post ∧ pos + (pre.map Segment.len).sum ≤ x ∧ x < pos + (pre.map Segment.len).sum + g.len

theorem inForceFrom_nil (pos : Nat) (g : Segment) (x : Nat) : ¬InForceFrom pos [] g x := by
  rintro ⟨pre, post, heq, -⟩
  simp at heq

theorem inForceFrom_cons (pos : Nat) (h : Segment) (segs : List Segment) (g : Segment) (x : Nat) :
    InForceFrom pos (h :: segs) g x ↔ (g = h ∧ pos ≤ x ∧ x < pos + h.len) ∨ InForceFrom (pos + h.len) segs g x := by
  constructor
  · rintro ⟨pre, post, heq, hlow, hhigh⟩
    cases pre with
    | nil =>
      obtain ⟨rfl, rfl⟩ := List.cons.inj heq
      simp only [List.map_nil, List.sum_nil, Nat.add_zero] at hlow hhigh
      exact .inl ⟨rfl, hlow, hhigh⟩
    | cons y pre =>
      obtain ⟨rfl, rfl⟩ := List.cons.inj heq
      rw [List.map_cons, List.sum_cons, ← Nat.add_assoc] at hlow hhigh
      exact .inr ⟨pre, post, rfl, hlow, hhigh⟩
  · rintro (⟨rfl, hlow, hhigh⟩ | ⟨pre, post, rfl, hlow, hhigh⟩)
    · exact ⟨[], segs, rfl, by simpa using hlow, by simpa using hhigh⟩
    · refine ⟨h :: pre, post, rfl, ?_, ?_⟩
      all_goals rwa [List.map_cons, List.sum_cons, ← Nat.add_assoc]

theorem InForceFrom.le {pos : Nat} {segs : List Segment} {g : Segment} {x : Nat} (h : InForceFrom pos segs g x) : pos ≤ x := by
  obtain ⟨pre, post, -, hlow, -⟩ := h
  omega

/-! ### The groups of a list of segments, before the cycle wraps -/

/-- A run holds a position, its own end not wrapped. -/
def Run.Holds (q : Run) (x : Nat) : Prop := q.start ≤ x ∧ x < q.start + q.len

theorem exists_run_mem_cons {p : Run → Prop} {a : Run} {runs : List Run} :
    (∃ q ∈ a :: runs, p q) ↔ p a ∨ ∃ q ∈ runs, p q := by
  simp only [List.mem_cons, exists_eq_or_imp]

/-- Two elements of a list are one, or the relation of the list's order holds of them. -/
theorem eq_or_related_of_pairwise {R : Run → Run → Prop} {runs : List Run} (h : runs.Pairwise R) {a b : Run} (ha : a ∈ runs)
    (hb : b ∈ runs) : a = b ∨ R a b ∨ R b a := by
  induction runs with
  | nil => cases ha
  | cons x rest ih =>
    obtain ⟨hfirst, hrest⟩ := List.pairwise_cons.mp h
    obtain rfl | ha' := List.mem_cons.mp ha
    · obtain rfl | hb' := List.mem_cons.mp hb
      · exact .inl rfl
      · exact .inr (.inl (hfirst b hb'))
    · obtain rfl | hb' := List.mem_cons.mp hb
      · exact .inr (.inr (hfirst a ha'))
      · exact ih hrest ha' hb'

/-- The maximal groups of REVERSE segments of a list, in order, each with its greatest density. -/
structure Groups (pos : Nat) (segs : List Segment) (runs : List Run) : Prop where
  bounds : ∀ q ∈ runs, pos ≤ q.start ∧ 1 ≤ q.len ∧ q.start + q.len ≤ pos + (segs.map Segment.len).sum
  apart : runs.Pairwise fun a b => a.start + a.len < b.start
  holds : ∀ x, (∃ g, g.kind = .reverse ∧ InForceFrom pos segs g x) ↔ ∃ q ∈ runs, q.Holds x
  greatest : ∀ q ∈ runs, ∀ g x, InForceFrom pos segs g x → q.Holds x → g.density ≤ q.density
  attained : ∀ q ∈ runs, ∃ g x, InForceFrom pos segs g x ∧ q.Holds x ∧ g.density = q.density

namespace Groups

variable {pos : Nat} {g : Segment} {segs : List Segment} {runs : List Run}

/-- Behind a segment, a position of a run lies in no earlier segment. -/
theorem inForce_of_holds (h : Groups (pos + g.len) segs runs) {q : Run} (hq : q ∈ runs) {x : Nat} (hx : q.Holds x) (y : Segment) :
    InForceFrom pos (g :: segs) y x ↔ InForceFrom (pos + g.len) segs y x := by
  rw [inForceFrom_cons]
  refine or_iff_right fun ⟨_, _, hlt⟩ => ?_
  have := (h.bounds q hq).1
  have := hx.1
  omega

theorem nil (pos : Nat) : Groups pos [] [] where
  bounds := by simp
  apart := .nil
  holds x := by simp [inForceFrom_nil]
  greatest := by simp
  attained := by simp

/-- A segment that is not REVERSE adds nothing. -/
theorem skip (h : Groups (pos + g.len) segs runs) (hg : g.kind ≠ .reverse) : Groups pos (g :: segs) runs where
  bounds q hq := by
    have hb := h.bounds q hq
    rw [List.map_cons, List.sum_cons]
    omega
  apart := h.apart
  holds x := by
    rw [← h.holds x]
    refine exists_congr fun y => and_congr_right fun hy => ?_
    rw [inForceFrom_cons]
    exact or_iff_right fun ⟨heq, _⟩ => hg (heq ▸ hy)
  greatest q hq y x hy hx := h.greatest q hq y x ((h.inForce_of_holds hq hx y).mp hy) hx
  attained q hq := by
    obtain ⟨y, x, hy, hx, hd⟩ := h.attained q hq
    exact ⟨y, x, (h.inForce_of_holds hq hx y).mpr hy, hx, hd⟩

/-- A REVERSE segment before a gap begins a run of its own. -/
theorem begins (h : Groups (pos + g.len) segs runs) (hg : g.kind = .reverse) (hlen : 1 ≤ g.len)
    (hgap : ∀ q ∈ runs, pos + g.len < q.start) : Groups pos (g :: segs) (⟨pos, g.len, g.density⟩ :: runs) where
  bounds := by
    rw [List.map_cons, List.sum_cons]
    refine List.forall_mem_cons.mpr ⟨⟨Nat.le_refl _, hlen, by dsimp only; omega⟩, fun q hq => ?_⟩
    have hb := h.bounds q hq
    omega
  apart := List.pairwise_cons.mpr ⟨hgap, h.apart⟩
  holds x := by
    rw [exists_run_mem_cons, ← h.holds x]
    constructor
    · rintro ⟨y, hy, hforce⟩
      obtain ⟨_, hlow, hhigh⟩ | hforce := (inForceFrom_cons pos g segs y x).mp hforce
      · exact .inl ⟨hlow, hhigh⟩
      · exact .inr ⟨y, hy, hforce⟩
    · rintro (hx | ⟨y, hy, hforce⟩)
      · exact ⟨g, hg, (inForceFrom_cons pos g segs g x).mpr (.inl ⟨rfl, hx⟩)⟩
      · exact ⟨y, hy, (inForceFrom_cons pos g segs y x).mpr (.inr hforce)⟩
  greatest := by
    refine List.forall_mem_cons.mpr ⟨fun y x hforce hx => ?_, fun q hq y x hforce hx =>
      h.greatest q hq y x ((h.inForce_of_holds hq hx y).mp hforce) hx⟩
    obtain ⟨rfl, _⟩ | hforce := (inForceFrom_cons pos g segs y x).mp hforce
    · exact Nat.le_refl _
    · exact absurd hx.2 (Nat.not_lt.mpr hforce.le)
  attained := by
    refine List.forall_mem_cons.mpr ⟨⟨g, pos, (inForceFrom_cons pos g segs g pos).mpr (.inl ⟨rfl, Nat.le_refl _, by omega⟩),
      ⟨Nat.le_refl _, by dsimp only; omega⟩, rfl⟩, fun q hq => ?_⟩
    obtain ⟨y, x, hy, hx, hd⟩ := h.attained q hq
    exact ⟨y, x, (h.inForce_of_holds hq hx y).mpr hy, hx, hd⟩

/-- A REVERSE segment joins the run that begins where it ends. -/
theorem joins {r : Run} (h : Groups (pos + g.len) segs (r :: runs)) (hg : g.kind = .reverse) (hlen : 1 ≤ g.len)
    (hr : r.start = pos + g.len) : Groups pos (g :: segs) (⟨pos, g.len + r.len, max g.density r.density⟩ :: runs) where
  bounds := by
    have hfirst := h.bounds r List.mem_cons_self
    rw [List.map_cons, List.sum_cons]
    refine List.forall_mem_cons.mpr ⟨⟨Nat.le_refl _, by dsimp only; omega, by dsimp only; omega⟩, fun q hq => ?_⟩
    have hb := h.bounds q (List.mem_cons_of_mem r hq)
    omega
  apart := by
    obtain ⟨hfirst, hrest⟩ := List.pairwise_cons.mp h.apart
    refine List.pairwise_cons.mpr ⟨fun q hq => ?_, hrest⟩
    have := hfirst q hq
    dsimp only
    omega
  holds x := by
    have hheld : (⟨pos, g.len + r.len, max g.density r.density⟩ : Run).Holds x ↔ (pos ≤ x ∧ x < pos + g.len) ∨ r.Holds x := by
      unfold Run.Holds
      dsimp only
      omega
    have hrest := h.holds x
    rw [exists_run_mem_cons] at hrest
    rw [exists_run_mem_cons, hheld, or_assoc, ← hrest]
    constructor
    · rintro ⟨y, hy, hforce⟩
      obtain ⟨_, hx⟩ | hforce := (inForceFrom_cons pos g segs y x).mp hforce
      · exact .inl hx
      · exact .inr ⟨y, hy, hforce⟩
    · rintro (hx | ⟨y, hy, hforce⟩)
      · exact ⟨g, hg, (inForceFrom_cons pos g segs g x).mpr (.inl ⟨rfl, hx⟩)⟩
      · exact ⟨y, hy, (inForceFrom_cons pos g segs y x).mpr (.inr hforce)⟩
  greatest := by
    refine List.forall_mem_cons.mpr ⟨fun y x hforce hx => ?_, fun q hq y x hforce hx =>
      h.greatest q (List.mem_cons_of_mem r hq) y x ((h.inForce_of_holds (List.mem_cons_of_mem r hq) hx y).mp hforce) hx⟩
    obtain ⟨rfl, _⟩ | hforce := (inForceFrom_cons pos g segs y x).mp hforce
    · exact Nat.le_max_left _ _
    · have hx' : r.Holds x := by
        have := hforce.le
        obtain ⟨_, hlt⟩ := hx
        dsimp only at hlt
        exact ⟨by omega, by omega⟩
      exact Nat.le_trans (h.greatest r List.mem_cons_self y x hforce hx') (Nat.le_max_right _ _)
  attained := by
    refine List.forall_mem_cons.mpr ⟨?_, fun q hq => ?_⟩
    · obtain hle | hle := Nat.le_total r.density g.density
      · exact ⟨g, pos, (inForceFrom_cons pos g segs g pos).mpr (.inl ⟨rfl, Nat.le_refl _, by omega⟩),
          ⟨Nat.le_refl _, by dsimp only; omega⟩, (Nat.max_eq_left hle).symm⟩
      · obtain ⟨y, x, hy, hx, hd⟩ := h.attained r List.mem_cons_self
        refine ⟨y, x, (inForceFrom_cons pos g segs y x).mpr (.inr hy), ⟨?_, ?_⟩, hd.trans (Nat.max_eq_right hle).symm⟩
        · have := hy.le
          dsimp only
          omega
        · have := hx.2
          dsimp only
          omega
    · obtain ⟨y, x, hy, hx, hd⟩ := h.attained q (List.mem_cons_of_mem r hq)
      exact ⟨y, x, (h.inForce_of_holds (List.mem_cons_of_mem r hq) hx y).mpr hy, hx, hd⟩

end Groups

theorem linearRuns_groups : ∀ (segs : List Segment) (pos : Nat), (∀ g ∈ segs, 1 ≤ g.len) → Groups pos segs (linearRuns pos segs)
  | [], pos, _ => .nil pos
  | g :: rest, pos, h => by
    obtain ⟨hlen, hmore⟩ := List.forall_mem_cons.mp h
    have hrest := linearRuns_groups rest (pos + g.len) hmore
    unfold linearRuns
    cases hg : g.kind with
    | forward => exact hrest.skip (by rw [hg]; nofun)
    | rest => exact hrest.skip (by rw [hg]; nofun)
    | reverse =>
      dsimp only
      cases hruns : linearRuns (pos + g.len) rest with
      | nil =>
        rw [hruns] at hrest
        exact hrest.begins hg hlen (by simp)
      | cons r rs =>
        rw [hruns] at hrest
        dsimp only
        split
        next hr => exact hrest.joins hg hlen hr
        next hr =>
          have hfirst : pos + g.len < r.start := Nat.lt_of_le_of_ne (hrest.bounds r List.mem_cons_self).1 (Ne.symm hr)
          obtain ⟨hafter, -⟩ := List.pairwise_cons.mp hrest.apart
          refine hrest.begins hg hlen (List.forall_mem_cons.mpr ⟨hfirst, fun q hq => ?_⟩)
          have := hafter q hq
          omega

/-! ### The cycle wraps -/

/-- A run holds a position of the cycle (R16). -/
def Run.Within (cycle : Nat) (q : Run) (x : Nat) : Prop := ∃ i, i < q.len ∧ x = (q.start + i) % cycle

theorem Run.within_iff_holds {cycle : Nat} {q : Run} (h : q.start + q.len ≤ cycle) (x : Nat) : q.Within cycle x ↔ q.Holds x := by
  constructor
  · rintro ⟨i, hi, rfl⟩
    rw [Nat.mod_eq_of_lt (by omega)]
    exact ⟨by omega, by omega⟩
  · rintro ⟨hlow, hhigh⟩
    exact ⟨x - q.start, by omega, by rw [Nat.mod_eq_of_lt (by omega)]; omega⟩

/-- The run that ends the cycle and the run that begins it, as one (R16). -/
def Run.joined (last first : Run) : Run := ⟨last.start, last.len + first.len, max last.density first.density⟩

theorem Run.joined_within_iff {cycle : Nat} {last first : Run} (hlast : last.start + last.len = cycle) (hfirst : first.start = 0)
    (hle : first.len ≤ cycle) (x : Nat) : (last.joined first).Within cycle x ↔ last.Holds x ∨ first.Holds x := by
  unfold Run.joined Run.Within Run.Holds
  dsimp only
  constructor
  · rintro ⟨i, hi, rfl⟩
    by_cases hin : i < last.len
    · rw [Nat.mod_eq_of_lt (by omega)]
      exact .inl ⟨by omega, by omega⟩
    · have hwrapped : (last.start + i) % cycle = i - last.len := by
        rw [show last.start + i = (i - last.len) + cycle by omega, Nat.add_mod_right, Nat.mod_eq_of_lt (by omega)]
      rw [hwrapped]
      exact .inr ⟨by omega, by omega⟩
  · rintro (⟨hlow, hhigh⟩ | ⟨_, hhigh⟩)
    · exact ⟨x - last.start, by omega, by rw [Nat.mod_eq_of_lt (by omega)]; omega⟩
    · refine ⟨last.len + x, by omega, ?_⟩
      rw [show last.start + (last.len + x) = x + cycle by omega, Nat.add_mod_right, Nat.mod_eq_of_lt (by omega)]

/-- A run that stands on the cycle as R16 has it: nothing REVERSE adjoins it, and its density is the greatest of its positions. -/
structure Run.Stands (cycle : Nat) (segs : List Segment) (q : Run) : Prop where
  start_lt : q.start < cycle
  len_pos : 1 ≤ q.len
  len_le : q.len ≤ cycle
  whole : q.len = cycle → q.start = 0
  maximal : q.len < cycle → (¬∃ g, g.kind = .reverse ∧ InForceFrom 0 segs g ((q.start + q.len) % cycle))
    ∧ ¬∃ g, g.kind = .reverse ∧ InForceFrom 0 segs g ((q.start + cycle - 1) % cycle)
  greatest : ∀ g x, InForceFrom 0 segs g x → q.Within cycle x → g.density ≤ q.density
  attained : ∃ g x, InForceFrom 0 segs g x ∧ q.Within cycle x ∧ g.density = q.density

namespace Groups

variable {segs : List Segment} {runs : List Run}

theorem eq_or_apart (h : Groups 0 segs runs) {a b : Run} (ha : a ∈ runs) (hb : b ∈ runs) :
    a = b ∨ a.start + a.len < b.start ∨ b.start + b.len < a.start :=
  eq_or_related_of_pairwise h.apart ha hb

theorem not_reverse_end (h : Groups 0 segs runs) {q : Run} (hq : q ∈ runs) :
    ¬∃ g, g.kind = .reverse ∧ InForceFrom 0 segs g (q.start + q.len) := by
  rw [h.holds]
  rintro ⟨y, hy, hlow, hhigh⟩
  obtain rfl | hlt | hlt := h.eq_or_apart hq hy
  all_goals omega

theorem not_reverse_before (h : Groups 0 segs runs) {q : Run} (hq : q ∈ runs) (hpos : 1 ≤ q.start) :
    ¬∃ g, g.kind = .reverse ∧ InForceFrom 0 segs g (q.start - 1) := by
  rw [h.holds]
  rintro ⟨y, hy, hlow, hhigh⟩
  have := (h.bounds q hq).2.1
  obtain rfl | hlt | hlt := h.eq_or_apart hq hy
  all_goals omega

/-- A run that does not wrap stands on the cycle, unless another meets it there. -/
theorem stands (h : Groups 0 segs runs) {cycle : Nat} (hsum : (segs.map Segment.len).sum = cycle) {q : Run} (hq : q ∈ runs)
    (hend : q.start + q.len = cycle → ∀ y ∈ runs, y.start = 0 → y = q)
    (hbegin : q.start = 0 → ∀ y ∈ runs, y.start + y.len = cycle → y = q) : q.Stands cycle segs := by
  obtain ⟨-, hlen, hle⟩ := h.bounds q hq
  have hwithin (x : Nat) := Run.within_iff_holds (cycle := cycle) (q := q) (by omega) x
  refine ⟨by omega, hlen, by omega, by omega, fun hshort => ⟨?_, ?_⟩, fun g x hforce hx =>
    h.greatest q hq g x hforce ((hwithin x).mp hx), ?_⟩
  · by_cases hlast : q.start + q.len = cycle
    · rw [hlast, Nat.mod_self, h.holds]
      rintro ⟨y, hy, hlow, _⟩
      obtain rfl := hend hlast y hy (by omega)
      omega
    · rw [Nat.mod_eq_of_lt (by omega)]
      exact h.not_reverse_end hq
  · by_cases hfirst : q.start = 0
    · rw [hfirst, Nat.zero_add, Nat.mod_eq_of_lt (by omega), h.holds]
      rintro ⟨y, hy, hlow, hhigh⟩
      have := h.bounds y hy
      obtain rfl := hbegin hfirst y hy (by omega)
      omega
    · rw [show q.start + cycle - 1 = (q.start - 1) + cycle by omega, Nat.add_mod_right, Nat.mod_eq_of_lt (by omega)]
      exact h.not_reverse_before hq (by omega)
  · obtain ⟨g, x, hforce, hx, hd⟩ := h.attained q hq
    exact ⟨g, x, hforce, (hwithin x).mpr hx, hd⟩

/-- What the wrapped runs of a cycle are (R16). -/
def Wrapped (cycle : Nat) (segs : List Segment) (runs : List Run) : Prop :=
  runs.Pairwise (fun a b => a.start < b.start)
    ∧ (∀ x, x < cycle → ((∃ g, g.kind = .reverse ∧ InForceFrom 0 segs g x) ↔ ∃ q ∈ runs, q.Within cycle x))
    ∧ ∀ q ∈ runs, q.Stands cycle segs

theorem starts_rise (h : Groups 0 segs runs) : runs.Pairwise fun a b => a.start < b.start :=
  h.apart.imp fun hab => by omega

/-- Runs of which no two meet over the cycle's end stand as they are. -/
theorem wrapped_of_open (h : Groups 0 segs runs) {cycle : Nat} (hsum : (segs.map Segment.len).sum = cycle)
    (hopen : ∀ a ∈ runs, ∀ b ∈ runs, a.start = 0 → b.start + b.len = cycle → a = b) : Wrapped cycle segs runs := by
  refine ⟨h.starts_rise, fun x _ => ?_, fun q hq => h.stands hsum hq (fun hend y hy hy0 => hopen y hy q hq hy0 hend)
    fun hbegin y hy hyend => (hopen q hq y hy hbegin hyend).symm⟩
  rw [h.holds]
  refine exists_congr fun q => and_congr_right fun hq => (Run.within_iff_holds ?_ x).symm
  have := h.bounds q hq
  omega

/-- Two runs that meet over the cycle's end are one. -/
theorem wrapped_of_joined {first last : Run} {mid : List Run} (h : Groups 0 segs (first :: (mid ++ [last]))) {cycle : Nat}
    (hsum : (segs.map Segment.len).sum = cycle) (hfirst : first.start = 0) (hlast : last.start + last.len = cycle) :
    Wrapped cycle segs (mid ++ [last.joined first]) := by
  have hmemFirst : first ∈ first :: (mid ++ [last]) := List.mem_cons_self
  have hmemLast : last ∈ first :: (mid ++ [last]) := by simp
  have hmemMid (q : Run) (hq : q ∈ mid) : q ∈ first :: (mid ++ [last]) := by simp [hq]
  obtain ⟨hafterFirst, hrest⟩ := List.pairwise_cons.mp h.apart
  obtain ⟨-, -, hbeforeLast⟩ := List.pairwise_append.mp hrest
  have hgap : first.start + first.len < last.start := hafterFirst last (by simp)
  have hlen : 1 ≤ last.len := (h.bounds last hmemLast).2.1
  have hfirstLen : 1 ≤ first.len := (h.bounds first hmemFirst).2.1
  have hwithin (x : Nat) := Run.joined_within_iff hlast hfirst (by omega) x
  refine ⟨?starts, fun x hx => ?holds, fun q hq => ?stands⟩
  case starts =>
    obtain ⟨-, hrise⟩ := List.pairwise_cons.mp h.starts_rise
    obtain ⟨hmid, -, hlt⟩ := List.pairwise_append.mp hrise
    refine List.pairwise_append.mpr ⟨hmid, List.pairwise_singleton _ _, fun a ha b hb => ?_⟩
    obtain rfl := List.mem_singleton.mp hb
    exact hlt a ha last (List.mem_singleton.mpr rfl)
  case holds =>
    have hmid (q : Run) (hq : q ∈ mid) : q.Within cycle x ↔ q.Holds x := by
      have := h.bounds q (hmemMid q hq)
      exact Run.within_iff_holds (by omega) x
    rw [h.holds]
    constructor
    · rintro ⟨q, hq, hqx⟩
      obtain rfl | hq := List.mem_cons.mp hq
      · exact ⟨last.joined q, by simp, (hwithin x).mpr (.inr hqx)⟩
      · obtain hq | hq := List.mem_append.mp hq
        · exact ⟨q, List.mem_append_left _ hq, (hmid q hq).mpr hqx⟩
        · obtain rfl := List.mem_singleton.mp hq
          exact ⟨q.joined first, by simp, (hwithin x).mpr (.inl hqx)⟩
    · rintro ⟨q, hq, hqx⟩
      obtain hq | hq := List.mem_append.mp hq
      · exact ⟨q, hmemMid q hq, (hmid q hq).mp hqx⟩
      · obtain rfl := List.mem_singleton.mp hq
        obtain hlx | hfx := (hwithin x).mp hqx
        · exact ⟨last, hmemLast, hlx⟩
        · exact ⟨first, hmemFirst, hfx⟩
  case stands =>
    obtain hq | hq := List.mem_append.mp hq
    · have hafter : first.start + first.len < q.start := hafterFirst q (List.mem_append_left _ hq)
      have hbefore : q.start + q.len < last.start := hbeforeLast q hq last (List.mem_singleton.mpr rfl)
      exact h.stands hsum (hmemMid q hq) (fun hend => by omega) (fun hbegin => by omega)
    · obtain rfl := List.mem_singleton.mp hq
      have hend : ((last.joined first).start + (last.joined first).len) % cycle = first.start + first.len := by
        show (last.start + (last.len + first.len)) % cycle = _
        rw [show last.start + (last.len + first.len) = (first.start + first.len) + cycle by omega, Nat.add_mod_right,
          Nat.mod_eq_of_lt (by omega)]
      have hbefore : ((last.joined first).start + cycle - 1) % cycle = last.start - 1 := by
        show (last.start + cycle - 1) % cycle = _
        rw [show last.start + cycle - 1 = (last.start - 1) + cycle by omega, Nat.add_mod_right, Nat.mod_eq_of_lt (by omega)]
      have hshort : (last.joined first).len < cycle := by
        show last.len + first.len < cycle
        omega
      refine ⟨?_, ?_, by omega, by omega, fun _ => ⟨?_, ?_⟩, fun g x hforce hx => ?_, ?_⟩
      · show last.start < cycle
        omega
      · show 1 ≤ last.len + first.len
        omega
      · rw [hend]
        exact h.not_reverse_end hmemFirst
      · rw [hbefore]
        exact h.not_reverse_before hmemLast (by omega)
      · obtain hx | hx := (hwithin x).mp hx
        · exact Nat.le_trans (h.greatest last hmemLast g x hforce hx) (Nat.le_max_left _ _)
        · exact Nat.le_trans (h.greatest first hmemFirst g x hforce hx) (Nat.le_max_right _ _)
      · obtain hle | hle := Nat.le_total first.density last.density
        · obtain ⟨g, x, hforce, hx, hd⟩ := h.attained last hmemLast
          exact ⟨g, x, hforce, (hwithin x).mpr (.inl hx), hd.trans (Nat.max_eq_left hle).symm⟩
        · obtain ⟨g, x, hforce, hx, hd⟩ := h.attained first hmemFirst
          exact ⟨g, x, hforce, (hwithin x).mpr (.inr hx), hd.trans (Nat.max_eq_right hle).symm⟩

end Groups

/-- The wrapped runs of the groups of a cycle (R16). -/
theorem wrapRuns_wrapped {cycle : Nat} {segs : List Segment} {runs : List Run} (h : Groups 0 segs runs)
    (hsum : (segs.map Segment.len).sum = cycle) : Groups.Wrapped cycle segs (wrapRuns cycle runs) := by
  cases runs with
  | nil => exact h.wrapped_of_open hsum (by simp)
  | cons first rest =>
    obtain rfl | ⟨mid, last, rfl⟩ := List.eq_nil_or_concat rest
    · exact h.wrapped_of_open hsum (by simp)
    · rw [List.concat_eq_append] at h ⊢
      have hwrap : wrapRuns cycle (first :: (mid ++ [last])) = if first.start = 0 ∧ last.start + last.len = cycle then
          mid ++ [last.joined first] else first :: (mid ++ [last]) := by
        unfold wrapRuns
        dsimp only
        rw [List.getLast?_concat, List.dropLast_concat]
        rfl
      rw [hwrap]
      split
      next hmeet => exact h.wrapped_of_joined hsum hmeet.1 hmeet.2
      next hapart =>
        refine h.wrapped_of_open hsum fun a ha b hb ha0 hbend => absurd ⟨?_, ?_⟩ hapart
        · obtain rfl | hrest := List.mem_cons.mp ha
          · exact ha0
          · have := (List.pairwise_cons.mp h.apart).1 a hrest
            omega
        · have hlast := h.bounds last (by simp)
          rw [← List.cons_append] at hb
          obtain hb | hb := List.mem_append.mp hb
          · have := h.apart
            rw [← List.cons_append] at this
            have := (List.pairwise_append.mp this).2.2 b hb last (List.mem_singleton.mpr rfl)
            omega
          · obtain rfl := List.mem_singleton.mp hb
            exact hbend

/-- The pattern of a recipe (R16, R88). -/
theorem Recipe.pattern_wrapped {r : Recipe} (hlen : ∀ g ∈ r.segments, 1 ≤ g.len) (hsum : (r.segments.map Segment.len).sum = r.cycle) :
    ((∀ g ∈ r.segments, g.kind ≠ .reverse) → r.pattern = none)
      ∧ ((∃ g ∈ r.segments, g.kind = .reverse) → ∃ runs, r.pattern = some ⟨r.cycle, runs⟩ ∧ Groups.Wrapped r.cycle r.segments runs) := by
  have hwrapped : Groups.Wrapped r.cycle r.segments r.runs := wrapRuns_wrapped (linearRuns_groups r.segments 0 hlen) hsum
  obtain ⟨hrise, hholds, hstands⟩ := id hwrapped
  have hpattern : r.pattern = if r.runs.isEmpty then none else some ⟨r.cycle, r.runs⟩ := rfl
  refine ⟨fun hnone => ?_, fun ⟨g, hg, hkind⟩ => ⟨r.runs, ?_, hwrapped⟩⟩
  · cases hruns : r.runs with
    | nil => rw [hpattern, hruns]; rfl
    | cons q qs =>
      have hq := hstands q (by simp [hruns])
      obtain ⟨g, hkind, pre, post, hsegs, -⟩ := (hholds q.start hq.start_lt).mpr
        ⟨q, by simp [hruns], 0, hq.len_pos, by rw [Nat.add_zero, Nat.mod_eq_of_lt hq.start_lt]⟩
      exact absurd hkind (hnone g (by simp [hsegs]))
  · obtain ⟨pre, post, hsegs⟩ := List.append_of_mem hg
    have hpositive := hlen g hg
    have hforce : InForceFrom 0 r.segments g ((pre.map Segment.len).sum) := ⟨pre, post, hsegs, by omega, by omega⟩
    have hin : (pre.map Segment.len).sum < r.cycle := by
      rw [← hsum, hsegs, List.map_append, List.sum_append, List.map_cons, List.sum_cons]
      omega
    obtain ⟨q, hq, -⟩ := (hholds _ hin).mp ⟨g, hkind, hforce⟩
    rw [hpattern, if_neg]
    rw [List.isEmpty_iff]
    exact List.ne_nil_of_mem hq

end Sys2Proof.Machine
end

section
/-! PROOFS. A RECIPE frame: the store test, the placement, and room for a new entry (R22 to R27). -/

namespace Sys2Proof.Machine

open Sys2Proof

/-! ### Room (R25, R26) -/

theorem Cache.makeRoom_of_room {c : Cache} (h : c.entries.length < 16 ∨ ∀ e ∈ c.entries, e.pins ≠ 0) : c.makeRoom = c := by
  unfold Cache.makeRoom
  by_cases hroom : c.entries.length < 16
  · exact if_pos hroom
  · have hpinned := h.resolve_left hroom
    rw [if_neg hroom, findLast_eq_none fun e he => by simpa using hpinned e he]

/-- With all places taken the unpinned entry of the highest rank number goes (R26). -/
theorem Cache.makeRoom_of_full {c : Cache} {pre post : List CacheEntry} {e : CacheEntry} (hfull : 16 ≤ c.entries.length)
    (hc : c.entries = pre ++ e :: post) (he : e.pins = 0) (hpost : ∀ x ∈ post, x.pins ≠ 0)
    (hothers : ∀ x ∈ pre ++ post, x.recipe.key ≠ e.recipe.key) :
    c.makeRoom = { c with entries := pre ++ post, answers := c.answers.filter fun a => a.key != e.recipe.key } := by
  have hkept (xs : List CacheEntry) (h : ∀ x ∈ xs, x ∈ pre ++ post) : xs.filter (fun x => !x.keyed e.recipe.key) = xs :=
    List.filter_eq_self.mpr fun x hx => by simpa [CacheEntry.keyed] using hothers x (h x hx)
  have hentries : c.entries.filter (fun x => !x.keyed e.recipe.key) = pre ++ post := by
    rw [hc, List.filter_append, List.filter_cons_of_neg (by simp [CacheEntry.keyed]), hkept pre fun x hx => List.mem_append_left _ hx,
      hkept post fun x hx => List.mem_append_right _ hx]
  have hlast : findLast (fun x : CacheEntry => x.pins == 0) c.entries = some e := by
    rw [hc]
    exact findLast_of_split (by simpa using he) fun x hx => by simpa using hpost x hx
  unfold Cache.makeRoom
  rw [if_neg (by omega), hlast]
  dsimp only [Cache.discard]
  rw [hentries]

theorem Cache.makeRoom_wanted (c : Cache) : c.makeRoom.wanted = c.wanted := by
  unfold Cache.makeRoom
  split
  next => rfl
  next => split <;> rfl

theorem Cache.flushFor_wanted (k : Option Key) (c : Cache) : (c.flushFor k).wanted = c.wanted := by cases k <;> rfl

theorem Cache.waitingFor_of_unwanted {c : Cache} {k : Key} (h : c.wants k = false) : c.waitingFor k = 0 := by
  have hnone : c.wanted.find? (fun w => w.key == k) = none := List.find?_eq_none.mpr (List.any_eq_false.mp h)
  unfold Cache.waitingFor
  rw [hnone]
  rfl

/-! ### The notice (R27) -/

/-- After the notice no carrier that names the key waits for its recipe (R27). -/
theorem State.recipeNotice_clears (k : Key) (u : State) :
    ∀ e ∈ (u.recipeNotice k).tracker.table, e.record.recipe = some k → e.recipePending = false := by
  have htable : (u.recipeNotice k).tracker.table
      = updateWhere (Entry.names k) (fun e => { e with recipePending := false }) u.tracker.table := by
    unfold State.recipeNotice
    rw [(State.recipeAvailable_leaves _ _).2.2.2.2.1, (State.fixTargetsFor_leaves _ _).2.2.2.2.2.2.1]
    rfl
  intro e he hnames
  rw [htable] at he
  obtain ⟨x, -, rfl⟩ := List.mem_map.mp he
  by_cases hx : x.names k = true
  · rw [if_pos hx]
  · rw [if_neg hx] at hnames
    exact absurd (by simpa [Entry.names] using hnames) hx

/-! ### A RECIPE frame taken (R15, R22) -/

theorem Cache.storeTest_iff (published : Bool) (r : Recipe) (c : Cache) :
    c.storeTest published r = true ↔ c.wants r.key = true ∨ (∃ e ∈ c.entries, e.recipe.key.id = r.key.id) ∨ published = true := by
  unfold Cache.storeTest Cache.revisions
  simp [or_assoc]

/-- A RECIPE frame whose taking leaves the slot map calls for no CLAIM. -/
theorem exec_takeRecipe_of_quiet {s t : State} {f : RxFrame} {rest : List RxFrame} (hrun : s.running) (hflushed : s.claimsFlushed)
    (hq : s.bus.rxQueue = f :: rest) (hk : f.kind = .recipe) (ht : (s.withRxRest rest).takeRecipeFrame f = t) (hmap : t.map = s.map) :
    exec .takeRecipe s = .next t := by
  subst ht
  exact congrArg Host.Outcome.next (State.takeFrame_of_quiet _ hrun hflushed hq hk hmap)

theorem State.takeRecipeFrame_of_invalid {s : State} {f : RxFrame} (h : checkedRecipe (f.payload.drop 1) = none) :
    s.takeRecipeFrame f = s.raise .recipeReject .invalid := by
  unfold State.takeRecipeFrame
  rw [h]

theorem State.takeRecipeFrame_of_valid {s : State} {f : RxFrame} {r : Recipe} (h : checkedRecipe (f.payload.drop 1) = some r) :
    s.takeRecipeFrame f =
      if s.cache.wants r.key = true ∨ (∃ e ∈ s.cache.entries, e.recipe.key.id = r.key.id) ∨ byteAt f.payload 0 ≠ 0 then
        (s.setCache (s.cache.cancelAnswer r.key)).placeRecipe r
      else s.setCache (s.cache.cancelAnswer r.key) := by
  have htest : (s.cache.cancelAnswer r.key).storeTest (byteAt f.payload 0 != 0) r = true
      ↔ s.cache.wants r.key = true ∨ (∃ e ∈ s.cache.entries, e.recipe.key.id = r.key.id) ∨ byteAt f.payload 0 ≠ 0 := by
    rw [Cache.storeTest_iff, bne_iff_ne]
    rfl
  unfold State.takeRecipeFrame
  rw [h]
  exact ite_congr (propext htest) (fun _ => rfl) fun _ => rfl

theorem State.placeRecipe_of_held {s : State} {r h : Recipe} (hp : s.cache.placement r = .held h) :
    s.placeRecipe r = if h = r then s.setCache (s.cache.touch r.key)
      else (s.setCache (s.cache.touch r.key)).raise .recipeReject .recipeConflict := by
  unfold State.placeRecipe
  rw [hp]

theorem State.placeRecipe_of_limit {s : State} {r : Recipe} (hp : s.cache.placement r = .limit) :
    s.placeRecipe r = s.raise .recipeReject .revisionLimit := by
  unfold State.placeRecipe
  rw [hp]

theorem State.placeRecipe_of_ignored {s : State} {r : Recipe} (hp : s.cache.placement r = .ignored) : s.placeRecipe r = s := by
  unfold State.placeRecipe
  rw [hp]

/-- A new entry, with the notice where the key was wanted (R24 to R27). -/
theorem State.placeRecipe_of_new {s : State} {r : Recipe} {flushed : Option Key} (hp : s.cache.placement r = .new flushed) :
    let room := (s.cache.flushFor flushed).makeRoom
    let stored : State := { s with
      cache :=
        { room with
          entries := ⟨r, s.cache.waitingFor r.key⟩ :: room.entries, wanted := s.cache.wanted.filter fun w => w.key != r.key } }
    s.placeRecipe r = if s.cache.wants r.key then stored.recipeNotice r.key else stored := by
  intro room stored
  have hwanted : room.wanted = s.cache.wanted := (Cache.makeRoom_wanted _).trans (Cache.flushFor_wanted _ _)
  have hstored : s.setCache (room.store r) = stored := by
    have hcache : room.store r = stored.cache := by
      unfold Cache.store Cache.waitingFor
      rw [hwanted]
      rfl
    rw [hcache]
    rfl
  have hplaced : s.placeRecipe r = s.storeRecipe flushed r := by
    unfold State.placeRecipe
    rw [hp]
  rw [hplaced, ← hstored]
  rfl

theorem recipeIsPlaced_at {s : State} {f : RxFrame} {rest : List RxFrame} (hrun : s.running) (hflushed : s.claimsFlushed)
    (hq : s.bus.rxQueue = f :: rest) (hk : f.kind = .recipe) {r : Recipe} (hr : checkedRecipe (f.payload.drop 1) = some r) :
    let left : State := { s with bus := { s.bus with rxQueue := rest } }
    let cancelled : Cache := { s.cache with answers := s.cache.answers.filter fun a => a.key != r.key }
    let asked := s.cache.wants r.key = true ∨ (∃ e ∈ s.cache.entries, e.recipe.key.id = r.key.id) ∨ byteAt f.payload 0 ≠ 0
    let noted : State := { left with cache := cancelled }
    (¬asked → exec .takeRecipe s = .next noted)
      ∧ (asked →
        (∀ h, cancelled.placement r = .held h →
          let touched : State := { noted with cache := cancelled.touch r.key }
          exec .takeRecipe s = .next (if h = r then touched else touched.raise .recipeReject .recipeConflict))
          ∧ (cancelled.placement r = .limit → exec .takeRecipe s = .next (noted.raise .recipeReject .revisionLimit))
          ∧ (cancelled.placement r = .ignored → exec .takeRecipe s = .next noted)
          ∧ ∀ flushed, cancelled.placement r = .new flushed →
            let room := (cancelled.flushFor flushed).makeRoom
            let stored (pins : Nat) : State :=
              { noted with
                cache :=
                  { room with
                    entries := ⟨r, pins⟩ :: room.entries, wanted := s.cache.wanted.filter fun w => w.key != r.key } }
            (s.cache.wants r.key = false → exec .takeRecipe s = .next (stored 0))
              ∧ (s.cache.wants r.key = true →
                exec .takeRecipe s = .next ((stored (s.cache.waitingFor r.key)).recipeNotice r.key).flushClaim
                  ∧ ∀ u : State, ∀ e ∈ (u.recipeNotice r.key).tracker.table,
                    e.record.recipe = some r.key → e.recipePending = false)) := by
  intro left cancelled asked noted
  have htaken : left.takeRecipeFrame f = if asked then noted.placeRecipe r else noted := State.takeRecipeFrame_of_valid hr
  refine ⟨fun hnot => ?_, fun hasked => ?_⟩
  · exact exec_takeRecipe_of_quiet hrun hflushed hq hk (htaken.trans (if_neg hnot)) rfl
  have hplaced : left.takeRecipeFrame f = noted.placeRecipe r := htaken.trans (if_pos hasked)
  refine ⟨fun h hheld => ?held, fun hlimit => ?limit, fun hignored => ?ignored, fun flushed hnew => ?new⟩
  case held =>
    intro touched
    refine exec_takeRecipe_of_quiet hrun hflushed hq hk (hplaced.trans (State.placeRecipe_of_held (s := noted) hheld)) ?_
    split
    next => rfl
    next => simp [touched, noted, left]
  case limit =>
    refine exec_takeRecipe_of_quiet hrun hflushed hq hk (hplaced.trans (State.placeRecipe_of_limit (s := noted) hlimit)) ?_
    simp [noted, left]
  case ignored =>
    exact exec_takeRecipe_of_quiet hrun hflushed hq hk (hplaced.trans (State.placeRecipe_of_ignored (s := noted) hignored)) rfl
  case new =>
    intro room stored
    have hstored : left.takeRecipeFrame f = if s.cache.wants r.key then
        (stored (s.cache.waitingFor r.key)).recipeNotice r.key else stored (s.cache.waitingFor r.key) :=
      hplaced.trans (State.placeRecipe_of_new (s := noted) hnew)
    refine ⟨fun hunwanted => ?_, fun hwanted => ⟨?_, State.recipeNotice_clears r.key⟩⟩
    · rw [Cache.waitingFor_of_unwanted hunwanted] at hstored
      exact exec_takeRecipe_of_quiet hrun hflushed hq hk (hstored.trans (if_neg (Bool.eq_false_iff.mp hunwanted))) rfl
    · refine congrArg Host.Outcome.next ((State.takeFrame_of_head _ hrun hq hk).trans (congrArg State.flushClaim ?_))
      exact hstored.trans (if_pos hwanted)

/-- Settles O25: the frame by the check, the store test and the placement, then the layout, the reverse runs and the room. -/
theorem recipeIsPlaced : Obligations.RecipeIsPlaced := by
  refine ⟨fun s f rest hrun hflushed hq hk => ⟨fun hinvalid => ?_, fun r hr => recipeIsPlaced_at hrun hflushed hq hk hr⟩,
    fun bytes r => ?layout, fun r hlen hsum => ?runs, fun c => ⟨Cache.makeRoom_of_room, fun pre e post => Cache.makeRoom_of_full⟩⟩
  · refine exec_takeRecipe_of_quiet hrun hflushed hq hk (State.takeRecipeFrame_of_invalid hinvalid) ?_
    simp [State.withRxRest]
  case layout =>
    intro field code
    rw [checkedRecipe_eq_some, r.valid_iff]
    exact and_congr_left fun _ => iff_of_eq (congrArg (bytes = ·) r.bytes_layout)
  case runs =>
    intro inForce reverse within
    have hforce (g : Segment) (x : Nat) : inForce g x ↔ InForceFrom 0 r.segments g x := by
      simp [inForce, InForceFrom]
    have hreverse (x : Nat) : reverse x ↔ ∃ g, g.kind = .reverse ∧ InForceFrom 0 r.segments g x :=
      exists_congr fun g => and_congr_right fun _ => hforce g x
    obtain ⟨hnone, hsome⟩ := Recipe.pattern_wrapped hlen hsum
    refine ⟨hnone, fun hany => ?_⟩
    obtain ⟨runs, hpattern, hrise, hholds, hstands⟩ := hsome hany
    refine ⟨runs, hpattern, hrise, fun x hx => (hreverse x).trans (hholds x hx), fun q hq => ?_⟩
    obtain ⟨hstart, hpos, hle, hwhole, hmaximal, hgreatest, g, x, hg, hx, hd⟩ := hstands q hq
    refine ⟨hstart, hpos, hle, hwhole, fun hshort => ?_, fun g x hg hx => hgreatest g x ((hforce g x).mp hg) hx,
      g, x, (hforce g x).mpr hg, hx, hd⟩
    rw [hreverse, hreverse]
    exact hmaximal hshort

end Sys2Proof.Machine
end
